-- ==== Sys2Proof/Word.lean ====
section
/-! DEFINITION. The widths of the part: a byte of a frame, a zone set, a line and a zone number. -/

namespace Sys2Proof

/-- One byte of a link or line frame (R182, R183). -/
abbrev Byte := BitVec 8

/-- A set of zones in the Set coding of R181: zone `n` is the bit of weight 2 to the power `n`. -/
abbrev ZoneSet := BitVec 16

/-- A line number, 0 to 3 (the overview's table of identifiers). -/
abbrev LineNo := Fin 4

/-- A zone number, 0 to 15. -/
abbrev Zone := Fin 16

end Sys2Proof
end

