-- ==== Sys2Proof/Config.lean ====
section
/-! DEFINITION. The capacities the spec fixes, and the free values: the codings of reply fields to which no rule
gives a code (log 18), the content of a RESULT order whose held result is gone (log 13), the steps a PERMIT SCAN has made
when another access is taken (log 10) and the bit found where three samples disagree (log 34). A free value has no body,
so nothing can be proved of what it is. -/

namespace Sys2Proof.Config

/-- R10. -/
def calendarCapacity : Nat := 64
/-- R79. -/
def permitCapacity : Nat := 2048
/-- R93. -/
def referralCapacity : Nat := 8
/-- R57, R75. -/
def eventCapacity : Nat := 4
/-- R160. -/
def directedCapacity : Nat := 16
/-- R108. -/
def roundCapacity : Nat := 4
/-- R108: the most OPEN rounds. -/
def openRounds : Nat := 2
/-- R108: the most entries of a round. -/
def roundEntries : Nat := 48
/-- R105: the most uncounted lifted records of a terminal number. -/
def uncountedRecords : Nat := 2
/-- R106: the most records of one LIFT LIST reply. -/
def liftListRecords : Nat := 8
/-- R171: the most OVERLAP replies that wait. -/
def overlapReplies : Nat := 3
/-- R57, R168: where the error counters and the link discard counters are held. -/
def counterHold : Nat := 65535
/-- R173: where the count of a part-level notice is held. -/
def noticeHold : Nat := 255
/-- R105: where the expected pence total of a merged record is held. -/
def penceHold : Nat := 9999999

/-- FREE (log 18): the byte that gives a suspended flag, SET (true) or CLEAR, in TERMINAL GET. -/
opaque suspendedCode : Bool → Byte
/-- FREE (log 18): the byte that gives the owed orders (CONDITION, CLOCK, RESULT, PLATE) in TERMINAL GET. -/
opaque owedCode : Bool → Bool → Bool → Bool → Byte
/-- FREE (log 18): the byte that gives a request's withdrawn mark in TERMINAL GET. -/
opaque withdrawnCode : Bool → Byte
/-- FREE (log 18): the byte that gives the phase of an exchange in LINE GET, from the phase's place in R145's list. -/
opaque phaseCode : Nat → Byte
/-- FREE (log 18): the byte that gives a pass state in POLL LIST GET, from its place in R153's list. -/
opaque passCode : Nat → Byte
/-- FREE (log 18): the byte that gives a leg state in POLL LIST GET, from its place in R153's list. -/
opaque legCode : Nat → Byte
/-- FREE (log 18): the byte that tells a claim of a terminal's walk from one of a referral's. -/
opaque claimCode : Bool → Byte
/-- FREE (log 18): the byte that says whether the last session is running (PERMIT GET). -/
opaque runningCode : Bool → Byte
/-- FREE (log 18): the byte that gives a referral's detached mark in REFERRAL LIST. -/
opaque detachedCode : Bool → Byte
/-- FREE (log 18): the byte that marks a round's entry IN COLLECTION in ROUND GET. -/
opaque inCollectionCode : Bool → Byte
/-- FREE (log 18): the byte that tells a held ticket from a held reason in TERMINAL GET. -/
opaque heldCode : Bool → Byte
/-- FREE (log 18): the byte that says whether a PLATE block says NOT TARIFFED. -/
opaque notTariffedCode : Bool → Byte
/-- FREE (log 13): the content bytes of a RESULT order that finds no held result. -/
opaque emptyResult : List Byte
/-- FREE (log 10): how many further records a PERMIT SCAN in progress chooses before an access that is taken between its
steps (R82), from how often one has been taken. -/
opaque scanSteps : Nat → Nat
/-- FREE (log 34): the level found for a bit whose three samples do not all agree (R142), from the samples of the character
and the number of the bit. -/
opaque foundBit : BitVec 11 → BitVec 11 → BitVec 11 → Nat → Bool

end Sys2Proof.Config
end

