-- ==== Sys2Proof/Syntax.lean ====
section
/-! DEFINITION. The commands of the part: one constructor for each row of spec/opcode_table.json, with the
bytes the row's frame carries. A host request carries its tag and its body (R182); a terminal's frame carries the
drop it names and the bytes of its body after those its row fixes (R183); the part's own events carry what they
concern. -/

namespace Sys2Proof

/-- The two link rates the strap pin can give (R168). -/
inductive LinkRate where
  | r57600
  | r115200
  deriving DecidableEq, Repr

/-- A character received on a terminal line (R142): its eleven bits as each of the three samplings found them, the start bit
as bit 0, the data bits as bits 1 to 8 in ascending weight, the parity bit as bit 9 and the stop bit as bit 10, and
whether it arrived before the character before it had been taken from the receiver (log 34). -/
structure RxChar where
  first : BitVec 11
  second : BitVec 11
  third : BitVec 11
  early : Bool
  deriving DecidableEq, Repr

/-- The commands. -/
inductive Instr where
  /-- CLOCK_SET (R5). Host request that gives the clock a new current time, makes it VALID, restarts the pace counters, presents the new minute to the Tariff Store and asks for a CLOCK order at every configured terminal. -/
  | clockSet (tag : Byte) (body : List Byte)
  /-- CLOCK_GET (R8). Host request that reads the day number, second of day, clock-valid flag, day of week and today's day type at one reading. -/
  | clockGet (tag : Byte) (body : List Byte)
  /-- CALENDAR_PUT (R10). Host request that adds a calendar entry for a day, or replaces the type of an existing entry, or is refused with FULL. -/
  | calendarPut (tag : Byte) (body : List Byte)
  /-- CALENDAR_DROP (R11). Host request that removes the calendar entry for a day, or is refused with NO SUCH. -/
  | calendarDrop (tag : Byte) (body : List Byte)
  /-- CALENDAR_LIST (R11). Host request that lists every calendar entry from a first day number in ascending order. -/
  | calendarList (tag : Byte) (body : List Byte)
  /-- TARIFF_PUT (R18). Host request that validates a zone tariff whole and writes it into a slot of the staged bank, or is refused with STATE for the active bank. -/
  | tariffPut (tag : Byte) (body : List Byte)
  /-- TARIFF_DROP (R19). Host request that makes a slot of the staged bank absent. -/
  | tariffDrop (tag : Byte) (body : List Byte)
  /-- TARIFF_GET (R20). Host request that reads one slot of either bank, with the active letter, the bank version and the switchover schedule. -/
  | tariffGet (tag : Byte) (body : List Byte)
  /-- BANK_COPY (R21). Host request that copies the whole active bank over the staged bank, keeping the staged bank's version. -/
  | bankCopy (tag : Byte) (body : List Byte)
  /-- SWITCH_AT (R22). Host request that sets the switchover schedule to a future day and minute, or to any time while the clock is INVALID. -/
  | switchAt (tag : Byte) (body : List Byte)
  /-- SWITCH_NOW (R23). Host request that carries out a switchover at once while the clock is VALID, or is refused with STATE. -/
  | switchNow (tag : Byte) (body : List Byte)
  /-- SWITCH_CANCEL (R24). Host request that empties the switchover schedule, or is refused with NO SUCH. -/
  | switchCancel (tag : Byte) (body : List Byte)
  /-- FARE_TRIAL (R54). Host request that checks its six fields and places a TRIAL entry on the fare queue, staying outstanding until the computation completes. -/
  | fareTrial (tag : Byte) (body : List Byte)
  /-- TERMINAL_SET (R59). Host request that creates a terminal context or changes its line, drop, zone and capacities. -/
  | terminalSet (tag : Byte) (body : List Byte)
  /-- TERMINAL_REMOVE (R62). Host request that deletes a terminal context with its queue entries, notice entry and waiting referral. -/
  | terminalRemove (tag : Byte) (body : List Byte)
  /-- TERMINAL_GET (R63). Host request that reads a whole context, its condition, thresholds and tally, and optionally clears its error counters. -/
  | terminalGet (tag : Byte) (body : List Byte)
  /-- END_COLLECTION (R117). TERMINAL ORDER that ends a terminal's collection from the host side, with the effects of DOOR CLOSED. -/
  | endCollection (tag : Byte) (body : List Byte)
  /-- SUSPEND (R133). TERMINAL ORDER that sets a terminal's suspended flag and derives its condition again. -/
  | suspend (tag : Byte) (body : List Byte)
  /-- RESUME (R133). TERMINAL ORDER that clears a terminal's suspended flag and derives its condition again. -/
  | resume (tag : Byte) (body : List Byte)
  /-- MESSAGE (R165). TERMINAL ORDER that appends a MESSAGE entry with a text to the terminal's line directed queue. -/
  | message (tag : Byte) (body : List Byte)
  /-- PERMIT_LOAD (R83). Host request that checks 1 to 8 permit records and places a load operation on the permit queue. -/
  | permitLoad (tag : Byte) (body : List Byte)
  /-- PERMIT_CHANGE (R84). Host request that places an operation changing the present fields of one permit record. -/
  | permitChange (tag : Byte) (body : List Byte)
  /-- PERMIT_DROP (R85). Host request that places an operation removing one permit record together with any claim on it. -/
  | permitDrop (tag : Byte) (body : List Byte)
  /-- PERMIT_GET (R86). Host request that places an operation reading one permit record with its used, remaining and running readings. -/
  | permitGet (tag : Byte) (body : List Byte)
  /-- PERMIT_SCAN (R86). Host request that places an operation reading up to 5 permit records in ascending order from a first number. -/
  | permitScan (tag : Byte) (body : List Byte)
  /-- REFERRAL_SET (R92). Host request that sets the referral setting and timeout at once. -/
  | referralSet (tag : Byte) (body : List Byte)
  /-- REFERRAL_LIST (R96). Host request that reads every referral entry in ascending referral number at one point. -/
  | referralList (tag : Byte) (body : List Byte)
  /-- REFERRAL_ANSWER (R97). Host request that places an operation deciding one referral by GRANT ONCE, GRANT AND LOAD or DENY. -/
  | referralAnswer (tag : Byte) (body : List Byte)
  /-- LIFT_LIST (R106). Host request that reads up to 8 lifted records from a first number with a MORE or END mark. -/
  | liftList (tag : Byte) (body : List Byte)
  /-- COUNT_ENTER (R107). Host request that enters a counted amount for a lifted record, reports the difference and removes the record. -/
  | countEnter (tag : Byte) (body : List Byte)
  /-- ROUND_OPEN (R109). Host request that opens a round with a collector code over a list of named terminals. -/
  | roundOpen (tag : Byte) (body : List Byte)
  /-- ROUND_BUILD (R110). Host request that opens a round over the terminals of a zone set that carry a box fault and are in no OPEN round. -/
  | roundBuild (tag : Byte) (body : List Byte)
  /-- ROUND_CLOSE (R111). Host request that closes an OPEN round, making its DUE and OPENED entries SKIPPED. -/
  | roundClose (tag : Byte) (body : List Byte)
  /-- ROUND_GET (R112). Host request that reads one round record with its entries and their states. -/
  | roundGet (tag : Byte) (body : List Byte)
  /-- FAULT_CLEAR (R126). Host request that removes named reported or latched fault classes from a terminal's fault set. -/
  | faultClear (tag : Byte) (body : List Byte)
  /-- THRESHOLD_DEFAULT_SET (R128). Host request that replaces the default threshold set and re-evaluates every terminal without an override. -/
  | thresholdDefaultSet (tag : Byte) (body : List Byte)
  /-- THRESHOLD_DEFAULT_GET (R128). Host request that reads the three values of the default threshold set. -/
  | thresholdDefaultGet (tag : Byte) (body : List Byte)
  /-- THRESHOLD_OVERRIDE_SET (R129). Host request that gives one terminal a threshold override and re-evaluates it. -/
  | thresholdOverrideSet (tag : Byte) (body : List Byte)
  /-- THRESHOLD_OVERRIDE_DROP (R129). Host request that removes a terminal's threshold override and re-evaluates it under the default set. -/
  | thresholdOverrideDrop (tag : Byte) (body : List Byte)
  /-- LINE_SET (R138). Host request that replaces the nine settings of a STOPPED line and restarts its pace counter. -/
  | lineSet (tag : Byte) (body : List Byte)
  /-- LINE_GET (R139). Host request that reads a line's settings, state and exchange in progress. -/
  | lineGet (tag : Byte) (body : List Byte)
  /-- LINE_START (R140). Host request that brings a STOPPED line with a poll list into use and begins its sweep mode. -/
  | lineStart (tag : Byte) (body : List Byte)
  /-- LINE_STOP (R141). Host request that empties a line's directed queue into owed orders and makes the line STOPPED or STOPPING. -/
  | lineStop (tag : Byte) (body : List Byte)
  /-- POLL_LIST_PUT (R154). Host request that replaces the poll list of a STOPPED line. -/
  | pollListPut (tag : Byte) (body : List Byte)
  /-- POLL_LIST_GET (R154). Host request that reads a line's poll list and, while it runs, its position, pass and leg states. -/
  | pollListGet (tag : Byte) (body : List Byte)
  /-- SWEEP (R159). Host request for a sweep that starts a SINGLE pass or gives a HOST-paced line a pace event, replying with a disposition. -/
  | sweep (tag : Byte) (body : List Byte)
  /-- NOTICE_TAKE (R175). Host request that removes the oldest Notice Queue entry and replies with its fields and the number of entries left. -/
  | noticeTake (tag : Byte) (body : List Byte)
  /-- PART_STATUS (R177). Host request that reads the last start kind, link rate, clock flag, counts, line states and link discard counters. -/
  | partStatus (tag : Byte) (body : List Byte)
  /-- RESTART (R179). Host request answered DONE, after whose transmission the part takes a WARM start. -/
  | restart (tag : Byte) (body : List Byte)
  /-- UNKNOWN_KIND (R170). An accepted request frame whose kind is not a request kind of the part becomes outstanding and is answered UNKNOWN KIND. -/
  | unknownKind (tag kind : Byte)
  /-- OVERLAP (R171). A request frame accepted while another request is outstanding is answered OVERLAP under its own tag, or dropped with DROPPED increased. -/
  | overlap (tag kind : Byte)
  /-- LINK_FRAME_DISCARDED (R169). A host link frame with a length above 240 or a wrong check is discarded without reply and CHECK is increased. -/
  | linkFrameDiscarded
  /-- FRAME_LIMIT_EXPIRY (R169). The 20 ms limit of a host frame runs out before its last check byte; the frame is discarded and TIMEOUT increased. -/
  | frameLimitExpiry
  /-- REPLY_TRANSMISSION_COMPLETE (R171). The transmission of a reply frame completes, ending the outstanding request when it is that request's reply and sending the next waiting reply. -/
  | replyTransmissionComplete
  /-- SECONDS_EVENT (R2). Once each second the Borough Clock advances the current time, presents a new minute while VALID and advances the pace counters. -/
  | secondsEvent
  /-- PACE_TICK (R3). A line's pace counter reaches its pace interval, returns to 0 and hands a pace tick to the line's Line Engine. -/
  | paceTick (line : LineNo)
  /-- COMPUTATION_COMPLETE (R50). A fare computation completes, its result is handed to the Terminal Table or Link Port, and the engine serves the fare queue. -/
  | computationComplete
  /-- QUOTE (R65). A terminal's QUOTE request sets the request in flight and places a QUOTE entry on the fare queue after the routing tests. -/
  | quote (line : LineNo) (drop number : Byte) (rest : List Byte)
  /-- SALE (R65). A terminal's SALE request is answered BUSY, from the last ticket, or sets the request in flight and places a SALE entry. -/
  | sale (line : LineNo) (drop number : Byte) (rest : List Byte)
  /-- SESSION (R65). A terminal's SESSION request is answered WAIT, BUSY or from the last ticket, or is handed to the Permit Table as a LOOKUP. -/
  | session (line : LineNo) (drop number : Byte) (rest : List Byte)
  /-- CANCEL (R95). A terminal's CANCEL removes its WAITING referral and is answered CANCELLED, or is answered TAKEN. -/
  | cancel (line : LineNo) (drop number : Byte) (rest : List Byte)
  /-- LOOKUP_COMPLETE (R88). A LOOKUP completes and makes the seven session checks, refusing, referring or setting the claim and placing a SESSION walk. -/
  | lookupComplete
  /-- RECORD_INSERTION (R83). The insertion or replacement of one record of a permit operation completes, as one step between which other accesses are taken. -/
  | recordInsertion
  /-- PERMIT_OPERATION_COMPLETE (R81). A host permit operation completes, its reply is handed to the Link Port and the oldest waiting operation begins. -/
  | permitOperationComplete
  /-- REFERRAL_DEADLINE_EXPIRY (R94). The deadline of a WAITING referral expires; the entry is removed and the held result PERMIT UNKNOWN is set with a RESULT order. -/
  | referralDeadlineExpiry (referral : Byte)
  /-- DOOR_OPEN (R113). A terminal's DOOR OPEN event is taken and either opens an authorised collection or sets FORCED DOOR. -/
  | doorOpen (line : LineNo) (drop number : Byte) (parameter : List Byte)
  /-- DOOR_CLOSED (R115). A terminal's DOOR CLOSED event ends its collection, if any, and looks at the round. -/
  | doorClosed (line : LineNo) (drop number : Byte) (parameter : List Byte)
  /-- BOX_REPLACED (R114). A terminal's BOX REPLACED event makes a lift, in collection under its round or outside it with FORCED DOOR. -/
  | boxReplaced (line : LineNo) (drop number : Byte) (parameter : List Byte)
  /-- PAPER_OUT (R122). A terminal's PAPER OUT event adds PAPER OUT to its fault set. -/
  | paperOut (line : LineNo) (drop number : Byte) (parameter : List Byte)
  /-- PAPER_LOADED (R124). A terminal's PAPER LOADED event sets paper remaining, sets or removes PAPER OUT and re-evaluates the thresholds. -/
  | paperLoaded (line : LineNo) (drop number : Byte) (parameter : List Byte)
  /-- PRINTER_FAULT (R122). A terminal's PRINTER FAULT event adds PRINTER to its fault set. -/
  | printerFault (line : LineNo) (drop number : Byte) (parameter : List Byte)
  /-- PRINT_FAILED (R122). A terminal's PRINT FAILED event adds PRINTER to its fault set and records the failed serial in the buffer. -/
  | printFailed (line : LineNo) (drop number : Byte) (parameter : List Byte)
  /-- PRINTER_OK (R122). A terminal's PRINTER OK event removes PRINTER from its fault set. -/
  | printerOk (line : LineNo) (drop number : Byte) (parameter : List Byte)
  /-- COIN_PATH_FAULT (R122). A terminal's COIN PATH FAULT event adds COIN PATH to its fault set. -/
  | coinPathFault (line : LineNo) (drop number : Byte) (parameter : List Byte)
  /-- COIN_PATH_OK (R122). A terminal's COIN PATH OK event removes COIN PATH from its fault set. -/
  | coinPathOk (line : LineNo) (drop number : Byte) (parameter : List Byte)
  /-- FRAME_TRANSMISSION_COMPLETE (R145). The transmission of a line frame completes; a POLL or ORDER starts its response window and an ANSWER ends the exchange. -/
  | frameTransmissionComplete (line : LineNo)
  /-- TURNAROUND_EXPIRY (R142). Three character times after the last received frame pass and the Line Engine begins to drive the line with its waiting frame. -/
  | turnaroundExpiry (line : LineNo)
  /-- RESPONSE_WINDOW_EXPIRY (R146). The response window runs out with no character begun; the frame is resent or the exchange fails. -/
  | responseWindowExpiry (line : LineNo)
  /-- SERVICE_LIMIT_EXPIRY (R148). The service limit runs out in the ENGINE phase; BUSY is sent and the Terminal Table is told of the withdrawal. -/
  | serviceLimitExpiry (line : LineNo)
  /-- IDLE (R147). An accepted IDLE reply to a POLL ends the exchange at the end of the received frame. -/
  | idle (line : LineNo) (drop : Byte)
  /-- ACK (R149). An accepted ACK to an ORDER is handed to the order's owner and ends the exchange. -/
  | ack (line : LineNo) (drop : Byte) (body : List Byte)
  /-- REJECTED_FRAME (R144). A received line frame fails a test, the matching error counter is increased and the try counts as no reply. -/
  | rejectedFrame (line : LineNo) (received : List RxChar)
  /-- LINE_FRAME_DISCARDED (R144). A line frame arriving outside the WINDOW or RECEIVE phase of an exchange is discarded without counting. -/
  | lineFrameDiscarded (line : LineNo)
  /-- EARLIEST_START_REACHED (R157). A WAITING CONTINUOUS pass reaches its earliest start and becomes RUNNING. -/
  | earliestStartReached (line : LineNo)
  /-- COLD_START (R178). The main supply returns with the retention supply lost and every block takes its COLD state. -/
  | coldStart
  /-- POWER_START (R178). The main supply returns with the retention domain intact and every block takes its POWER state. -/
  | powerStart
  /-- WARM_START (R179). After the RESTART reply's transmission completes the part takes a WARM start. -/
  | warmStart
  /-- MAIN_SUPPLY_LOSS (R178). The main supply is lost; the part stops working while the retention domain keeps its state and the clock goes on counting. -/
  | mainSupplyLoss
  /-- RETENTION_SUPPLY_LOSS (R178). While the main supply is off the retention supply is lost, and the retention monitor will report it when power returns. -/
  | retentionSupplyLoss
  /-- START_COMPLETE (R178). Within 50 ms of its beginning a start is complete, the rate strap is read and the starting mark is cleared so the receiver leaves its held HUNTING. -/
  | startComplete (strap : LinkRate)
  /-- FRAME_MARKER_RECEIVED (R169). While HUNTING the link receiver takes a frame marker, becomes RECEIVING and starts its 20 ms limit. -/
  | frameMarkerReceived
  /-- CHARACTER_BEGINS_TO_ARRIVE (R145). A character begins to arrive in the WINDOW phase, the phase becomes RECEIVE and the response window is not looked at again for this try. -/
  | characterBeginsToArrive (line : LineNo)
  deriving DecidableEq, Repr

end Sys2Proof
end

