-- ==== Sys2Proof/Machine/Codec.lean ====
section
/-! DEFINITION. The characters of a line (R142), field codings (R181), the check of a frame and the two frame envelopes (R182,
R183). -/

namespace Sys2Proof

/-- The level found for a bit of a character (R142): that of its three samples, which is free where they do not all agree
(log 34). -/
def RxChar.bit (c : RxChar) (i : Nat) : Bool :=
  if c.first.getLsbD i = c.second.getLsbD i ∧ c.second.getLsbD i = c.third.getLsbD i then c.first.getLsbD i
  else Config.foundBit c.first c.second c.third i

/-- The byte of a character's data bits. -/
def RxChar.byte (c : RxChar) : Byte :=
  BitVec.ofNat 8 ((List.range 8).foldl (fun n i => if c.bit (i + 1) then n + 2 ^ i else n) 0)

/-- OVERRUN (R142): the character arrived before the one before it had been taken, as the operand tells (log 34). -/
def RxChar.overrun (c : RxChar) : Bool := c.early

/-- FRAMING (R142): the stop bit was found low. -/
def RxChar.framing (c : RxChar) : Bool := !c.bit 10

/-- PARITY (R142): the parity bit does not give even parity over the data bits. -/
def RxChar.parity (c : RxChar) : Bool := (List.range 9).foldl (fun odd i => odd != c.bit (i + 1)) false

/-- NOISE (R142): the three samples of a bit do not all agree. -/
def RxChar.noise (c : RxChar) : Bool := c.first != c.second || c.second != c.third

/-- A byte's eleven bits as a transmitter sends them: start bit low, even parity, stop bit high. -/
def characterBits (b : Byte) : BitVec 11 :=
  let odd := (List.range 8).foldl (fun odd i => odd != b.getLsbD i) false
  BitVec.ofNat 11 (b.toNat * 2 + (if odd then 512 else 0) + 1024)

/-- A character without a fault. -/
def clean (b : Byte) : RxChar :=
  { first := characterBits b, second := characterBits b, third := characterBits b, early := false }

end Sys2Proof

namespace Sys2Proof.Machine

open Sys2Proof

/-- Binary (R181): most significant byte first. -/
def binary (bytes : List Byte) : Nat :=
  bytes.foldl (fun n b => n * 256 + b.toNat) 0

/-- `n` in `width` bytes, Binary. -/
def toBinary : Nat → Nat → List Byte
  | 0, _ => []
  | width + 1, n => BitVec.ofNat 8 (n / 256 ^ width) :: toBinary width n

/-- Packed (R181): two digits to a byte; `none` when a half-byte is above 9. -/
def packed (bytes : List Byte) : Option Nat :=
  bytes.foldl
    (fun n b =>
      match n with
      | none => none
      | some n =>
        if b.toNat / 16 ≤ 9 ∧ b.toNat % 16 ≤ 9 then some (n * 100 + (b.toNat / 16) * 10 + b.toNat % 16) else none)
    (some 0)

/-- `n` in `width` bytes, Packed. -/
def toPacked : Nat → Nat → List Byte
  | 0, _ => []
  | width + 1, n => BitVec.ofNat 8 (n / 100 ^ width % 100 / 10 * 16 + n / 100 ^ width % 10) :: toPacked width n

/-- Money is always Packed in 4 bytes. -/
def toMoney (pence : Nat) : List Byte := toPacked 4 pence

/-- The `width` bytes of a body from byte `at_` on. -/
def bytesAt (body : List Byte) (at_ width : Nat) : List Byte := (body.drop at_).take width

/-- A Binary field of a body. -/
def number (body : List Byte) (at_ width : Nat) : Nat := binary (bytesAt body at_ width)

/-- A Packed field of a body. -/
def digits (body : List Byte) (at_ width : Nat) : Option Nat := packed (bytesAt body at_ width)

/-- One bit of the cyclic code of R182 (generator x^16 + x^12 + x^5 + 1). -/
def checkBit (register : BitVec 16) : BitVec 16 :=
  if register.msb then (register <<< 1) ^^^ 0x1021#16 else register <<< 1

/-- One byte of the cyclic code, most significant bit first. -/
def checkByte (register : BitVec 16) (byte : Byte) : BitVec 16 :=
  checkBit (checkBit (checkBit (checkBit (checkBit (checkBit (checkBit (checkBit
    (register ^^^ (byte.setWidth 16 <<< 8)))))))))

/-- The check over the covered bytes: the register starts at all ones and the remainder is not inverted (R182). -/
def frameCheck (covered : List Byte) : BitVec 16 := covered.foldl checkByte 0xFFFF#16

/-- The host link frame (R182): marker, length, tag, kind, body, check over all but the marker. -/
def linkFrame (tag kind : Byte) (body : List Byte) : List Byte :=
  let covered := BitVec.ofNat 8 body.length :: tag :: kind :: body
  0xA5#8 :: covered ++ toBinary 2 (frameCheck covered).toNat

/-- The terminal line frame (R183): marker, drop, length, kind, body, check over all but the marker. -/
def lineFrame (drop kind : Byte) (body : List Byte) : List Byte :=
  let covered := drop :: BitVec.ofNat 8 body.length :: kind :: body
  0x5A#8 :: covered ++ toBinary 2 (frameCheck covered).toNat

/-- What R169 makes of the bytes that reach a HUNTING receiver, up to the end of the first frame. -/
inductive LinkVerdict where
  | incomplete
  | discarded
  | accepted (tag kind : Byte) (body : List Byte)
  deriving DecidableEq, Repr

/-- R169: a HUNTING receiver ignores every byte but the marker; then a length byte above 240 and a wrong check discard the
frame, and a right check accepts it. -/
def linkVerdict (bytes : List Byte) : LinkVerdict :=
  match bytes.dropWhile fun b => b != 0xA5#8 with
  | _marker :: length :: rest =>
    if length.toNat > 240 then .discarded
    else
      match rest with
      | tag :: kind :: rest =>
        if rest.length < length.toNat + 2 then .incomplete
        else
          let body := rest.take length.toNat
          if number rest length.toNat 2 = (frameCheck (length :: tag :: kind :: body)).toNat then
            .accepted tag kind body
          else .discarded
      | _ => .incomplete
  | _ => .incomplete

/-- R142, R183: a received frame ends at its last character as its length gives, marker, drop, length, kind and check
included; what comes after that character is no part of it. `given` is the length, once it has arrived. -/
def endedAt {α : Type} (given : Option Nat) (received : List α) : List α :=
  match given with
  | some length => received.take (length + 6)
  | none => received

/-- A received line frame's drop, kind and body when its marker, length and check are right (R183); `none` fails test 2
of R144. -/
def openLineFrame (bytes : List Byte) : Option (Byte × Byte × List Byte) :=
  match bytes with
  | marker :: drop :: length :: kind :: rest =>
    if marker = 0x5A#8 ∧ length.toNat ≤ 80 ∧ rest.length = length.toNat + 2 ∧
        number rest length.toNat 2 = (frameCheck (drop :: length :: kind :: rest.take length.toNat)).toNat then
      some (drop, kind, rest.take length.toNat)
    else none
  | _ => none

end Sys2Proof.Machine
end

