-- ==== Sys2Proof/WellFormed.lean ====
section
/-! DEFINITION. Well-formed commands: what a frame of the link or of a line can carry (R143, R182, R183). -/

namespace Sys2Proof

/-- A host frame's body has at most 240 bytes (R182). -/
def fits (body : List Byte) : Bool := decide (body.length ≤ 240)

/-- A TERMINAL ORDER body names the row's order: its second byte (R117, R181). -/
def ordered (order : Byte) (body : List Byte) : Bool := body[1]? == some order

/-- A drop address (R183). -/
def dropOk (drop : Byte) : Bool := decide (1 ≤ drop.toNat) && decide (drop.toNat ≤ 32)

/-- A terminal frame's body has at most 80 bytes, two of them before the operand (R183). -/
def onLine (drop : Byte) (rest : List Byte) : Bool := dropOk drop && decide (rest.length + 2 ≤ 80)

/-- The operands of a command are such as its frame or event can carry. -/
def Instr.wf : Instr → Bool
  | .clockSet _ body => fits body
  | .clockGet _ body => fits body
  | .calendarPut _ body => fits body
  | .calendarDrop _ body => fits body
  | .calendarList _ body => fits body
  | .tariffPut _ body => fits body
  | .tariffDrop _ body => fits body
  | .tariffGet _ body => fits body
  | .bankCopy _ body => fits body
  | .switchAt _ body => fits body
  | .switchNow _ body => fits body
  | .switchCancel _ body => fits body
  | .fareTrial _ body => fits body
  | .terminalSet _ body => fits body
  | .terminalRemove _ body => fits body
  | .terminalGet _ body => fits body
  | .endCollection _ body => fits body && ordered 1 body
  | .suspend _ body => fits body && ordered 2 body
  | .resume _ body => fits body && ordered 3 body
  | .message _ body => fits body && ordered 4 body
  | .permitLoad _ body => fits body
  | .permitChange _ body => fits body
  | .permitDrop _ body => fits body
  | .permitGet _ body => fits body
  | .permitScan _ body => fits body
  | .referralSet _ body => fits body
  | .referralList _ body => fits body
  | .referralAnswer _ body => fits body
  | .liftList _ body => fits body
  | .countEnter _ body => fits body
  | .roundOpen _ body => fits body
  | .roundBuild _ body => fits body
  | .roundClose _ body => fits body
  | .roundGet _ body => fits body
  | .faultClear _ body => fits body
  | .thresholdDefaultSet _ body => fits body
  | .thresholdDefaultGet _ body => fits body
  | .thresholdOverrideSet _ body => fits body
  | .thresholdOverrideDrop _ body => fits body
  | .lineSet _ body => fits body
  | .lineGet _ body => fits body
  | .lineStart _ body => fits body
  | .lineStop _ body => fits body
  | .pollListPut _ body => fits body
  | .pollListGet _ body => fits body
  | .sweep _ body => fits body
  | .noticeTake _ body => fits body
  | .partStatus _ body => fits body
  | .restart _ body => fits body
  | .unknownKind _ kind => kind.toNat == 0 || decide (46 < kind.toNat)
  | .overlap _ _ => true
  | .linkFrameDiscarded => true
  | .frameLimitExpiry => true
  | .replyTransmissionComplete => true
  | .secondsEvent => true
  | .paceTick _ => true
  | .computationComplete => true
  | .quote _ drop _ rest => onLine drop rest
  | .sale _ drop _ rest => onLine drop rest
  | .session _ drop _ rest => onLine drop rest
  | .cancel _ drop _ rest => onLine drop rest
  | .lookupComplete => true
  | .recordInsertion => true
  | .permitOperationComplete => true
  | .referralDeadlineExpiry referral => referral.toNat != 0
  | .doorOpen _ drop _ parameter => onLine drop parameter
  | .doorClosed _ drop _ parameter => onLine drop parameter
  | .boxReplaced _ drop _ parameter => onLine drop parameter
  | .paperOut _ drop _ parameter => onLine drop parameter
  | .paperLoaded _ drop _ parameter => onLine drop parameter
  | .printerFault _ drop _ parameter => onLine drop parameter
  | .printFailed _ drop _ parameter => onLine drop parameter
  | .printerOk _ drop _ parameter => onLine drop parameter
  | .coinPathFault _ drop _ parameter => onLine drop parameter
  | .coinPathOk _ drop _ parameter => onLine drop parameter
  | .frameTransmissionComplete _ => true
  | .turnaroundExpiry _ => true
  | .responseWindowExpiry _ => true
  | .serviceLimitExpiry _ => true
  | .idle _ drop => onLine drop []
  | .ack _ drop body => dropOk drop && decide (body.length ≤ 80)
  | .rejectedFrame _ _ => true
  | .lineFrameDiscarded _ => true
  | .earliestStartReached _ => true
  | .coldStart => true
  | .powerStart => true
  | .warmStart => true
  | .mainSupplyLoss => true
  | .retentionSupplyLoss => true
  | .startComplete _ => true
  | .frameMarkerReceived => true
  | .characterBeginsToArrive _ => true

end Sys2Proof
end

