-- ==== Sys2Proof/Decode.lean ====
section
/-! DEFINITION. From bytes to commands. The opcode table gives no row any bits, so no table word spells a command (log 22).
What spells a command of the host or of a terminal is a frame: `linkCommand` and `lineCommand` read the frames of R182 and
R183, and `linkBytes` and `lineBytes` write them. -/

namespace Sys2Proof

open Machine

/-- The command a table word spells: none, since the table gives its rows no bits. -/
def decodeTableWord (_nbits _w : Nat) : Option Instr := none

/-- TERMINAL ORDER by its order byte (R117, R181). An order byte that is no order is refused whichever row takes it. -/
def orderCommand (tag : Byte) (body : List Byte) : Instr :=
  if body[1]? = some 2 then .suspend tag body
  else if body[1]? = some 3 then .resume tag body
  else if body[1]? = some 4 then .message tag body
  else .endCollection tag body

/-- The request of a kind byte (R182). -/
def hostCommand (tag kind : Byte) (body : List Byte) : Instr :=
  match kind.toNat with
  | 1 => .clockSet tag body
  | 2 => .clockGet tag body
  | 3 => .calendarPut tag body
  | 4 => .calendarDrop tag body
  | 5 => .calendarList tag body
  | 6 => .tariffPut tag body
  | 7 => .tariffDrop tag body
  | 8 => .tariffGet tag body
  | 9 => .bankCopy tag body
  | 10 => .switchAt tag body
  | 11 => .switchNow tag body
  | 12 => .switchCancel tag body
  | 13 => .fareTrial tag body
  | 14 => .terminalSet tag body
  | 15 => .terminalRemove tag body
  | 16 => .terminalGet tag body
  | 17 => orderCommand tag body
  | 18 => .permitLoad tag body
  | 19 => .permitChange tag body
  | 20 => .permitDrop tag body
  | 21 => .permitGet tag body
  | 22 => .permitScan tag body
  | 23 => .referralSet tag body
  | 24 => .referralList tag body
  | 25 => .referralAnswer tag body
  | 26 => .liftList tag body
  | 27 => .countEnter tag body
  | 28 => .roundOpen tag body
  | 29 => .roundBuild tag body
  | 30 => .roundClose tag body
  | 31 => .roundGet tag body
  | 32 => .faultClear tag body
  | 33 => .thresholdDefaultSet tag body
  | 34 => .thresholdDefaultGet tag body
  | 35 => .thresholdOverrideSet tag body
  | 36 => .thresholdOverrideDrop tag body
  | 37 => .lineSet tag body
  | 38 => .lineGet tag body
  | 39 => .lineStart tag body
  | 40 => .lineStop tag body
  | 41 => .pollListPut tag body
  | 42 => .pollListGet tag body
  | 43 => .sweep tag body
  | 44 => .noticeTake tag body
  | 45 => .partStatus tag body
  | 46 => .restart tag body
  | _ => .unknownKind tag kind

/-- The command that the bytes from a marker on amount to, once the frame is whole (R169). A request accepted while another
is outstanding is the row OVERLAP's, which every request row takes for itself (R170). -/
def linkCommand (bytes : List Byte) : Option Instr :=
  match linkVerdict bytes with
  | .incomplete => none
  | .discarded => some .linkFrameDiscarded
  | .accepted tag kind body => some (hostCommand tag kind body)

/-- The event of a kind byte (R183). -/
def eventCommand (line : LineNo) (drop number kind : Byte) (parameter : List Byte) : Option Instr :=
  match kind.toNat with
  | 1 => some (.doorOpen line drop number parameter)
  | 2 => some (.doorClosed line drop number parameter)
  | 3 => some (.boxReplaced line drop number parameter)
  | 4 => some (.paperOut line drop number parameter)
  | 5 => some (.paperLoaded line drop number parameter)
  | 6 => some (.printerFault line drop number parameter)
  | 7 => some (.printFailed line drop number parameter)
  | 8 => some (.printerOk line drop number parameter)
  | 9 => some (.coinPathFault line drop number parameter)
  | 10 => some (.coinPathOk line drop number parameter)
  | _ => none

/-- The command of a terminal frame whose envelope is right (R143, R183). -/
def terminalCommand (line : LineNo) (drop kind : Byte) (body : List Byte) : Option Instr :=
  if kind = 17 then (if body = [] then some (.idle line drop) else none)
  else if kind = 18 then
    match body with
    | request :: number :: rest =>
      if request = 1 then some (.quote line drop number rest)
      else if request = 2 then some (.sale line drop number rest)
      else if request = 3 then some (.session line drop number rest)
      else if request = 4 then some (.cancel line drop number rest)
      else none
    | _ => none
  else if kind = 19 then
    match body with
    | number :: event :: parameter => eventCommand line drop number event parameter
    | _ => none
  else if kind = 20 then some (.ack line drop body)
  else none

/-- The command that bytes received without a fault amount to (R142, R144): the frame is as long as its length gives, and one
that fails a test on its bytes is a rejected one. -/
def lineCommand (line : LineNo) (bytes : List Byte) : Instr :=
  match openLineFrame (endedAt (bytes[2]?.map (·.toNat)) bytes) with
  | none => .rejectedFrame line (bytes.map clean)
  | some (drop, kind, body) =>
    match terminalCommand line drop kind body with
    | none => .rejectedFrame line (bytes.map clean)
    | some c => c

/-- The kind byte and body of a request's frame (R182); none for a command that is no request. -/
def hostFields : Instr → Option (Byte × Byte × List Byte)
  | .clockSet tag body => some (tag, 1, body)
  | .clockGet tag body => some (tag, 2, body)
  | .calendarPut tag body => some (tag, 3, body)
  | .calendarDrop tag body => some (tag, 4, body)
  | .calendarList tag body => some (tag, 5, body)
  | .tariffPut tag body => some (tag, 6, body)
  | .tariffDrop tag body => some (tag, 7, body)
  | .tariffGet tag body => some (tag, 8, body)
  | .bankCopy tag body => some (tag, 9, body)
  | .switchAt tag body => some (tag, 10, body)
  | .switchNow tag body => some (tag, 11, body)
  | .switchCancel tag body => some (tag, 12, body)
  | .fareTrial tag body => some (tag, 13, body)
  | .terminalSet tag body => some (tag, 14, body)
  | .terminalRemove tag body => some (tag, 15, body)
  | .terminalGet tag body => some (tag, 16, body)
  | .endCollection tag body => some (tag, 17, body)
  | .suspend tag body => some (tag, 17, body)
  | .resume tag body => some (tag, 17, body)
  | .message tag body => some (tag, 17, body)
  | .permitLoad tag body => some (tag, 18, body)
  | .permitChange tag body => some (tag, 19, body)
  | .permitDrop tag body => some (tag, 20, body)
  | .permitGet tag body => some (tag, 21, body)
  | .permitScan tag body => some (tag, 22, body)
  | .referralSet tag body => some (tag, 23, body)
  | .referralList tag body => some (tag, 24, body)
  | .referralAnswer tag body => some (tag, 25, body)
  | .liftList tag body => some (tag, 26, body)
  | .countEnter tag body => some (tag, 27, body)
  | .roundOpen tag body => some (tag, 28, body)
  | .roundBuild tag body => some (tag, 29, body)
  | .roundClose tag body => some (tag, 30, body)
  | .roundGet tag body => some (tag, 31, body)
  | .faultClear tag body => some (tag, 32, body)
  | .thresholdDefaultSet tag body => some (tag, 33, body)
  | .thresholdDefaultGet tag body => some (tag, 34, body)
  | .thresholdOverrideSet tag body => some (tag, 35, body)
  | .thresholdOverrideDrop tag body => some (tag, 36, body)
  | .lineSet tag body => some (tag, 37, body)
  | .lineGet tag body => some (tag, 38, body)
  | .lineStart tag body => some (tag, 39, body)
  | .lineStop tag body => some (tag, 40, body)
  | .pollListPut tag body => some (tag, 41, body)
  | .pollListGet tag body => some (tag, 42, body)
  | .sweep tag body => some (tag, 43, body)
  | .noticeTake tag body => some (tag, 44, body)
  | .partStatus tag body => some (tag, 45, body)
  | .restart tag body => some (tag, 46, body)
  | .unknownKind tag kind => some (tag, kind, [])
  | .overlap _ _ => none
  | .linkFrameDiscarded => none
  | .frameLimitExpiry => none
  | .replyTransmissionComplete => none
  | .secondsEvent => none
  | .paceTick _ => none
  | .computationComplete => none
  | .quote _ _ _ _ => none
  | .sale _ _ _ _ => none
  | .session _ _ _ _ => none
  | .cancel _ _ _ _ => none
  | .lookupComplete => none
  | .recordInsertion => none
  | .permitOperationComplete => none
  | .referralDeadlineExpiry _ => none
  | .doorOpen _ _ _ _ => none
  | .doorClosed _ _ _ _ => none
  | .boxReplaced _ _ _ _ => none
  | .paperOut _ _ _ _ => none
  | .paperLoaded _ _ _ _ => none
  | .printerFault _ _ _ _ => none
  | .printFailed _ _ _ _ => none
  | .printerOk _ _ _ _ => none
  | .coinPathFault _ _ _ _ => none
  | .coinPathOk _ _ _ _ => none
  | .frameTransmissionComplete _ => none
  | .turnaroundExpiry _ => none
  | .responseWindowExpiry _ => none
  | .serviceLimitExpiry _ => none
  | .idle _ _ => none
  | .ack _ _ _ => none
  | .rejectedFrame _ _ => none
  | .lineFrameDiscarded _ => none
  | .earliestStartReached _ => none
  | .coldStart => none
  | .powerStart => none
  | .warmStart => none
  | .mainSupplyLoss => none
  | .retentionSupplyLoss => none
  | .startComplete _ => none
  | .frameMarkerReceived => none
  | .characterBeginsToArrive _ => none

/-- The frame of a request (R182). -/
def linkBytes (i : Instr) : Option (List Byte) := (hostFields i).map fun f => linkFrame f.1 f.2.1 f.2.2

/-- The drop, kind byte and body of a terminal's frame (R183, R184); none for a command that is no such frame. -/
def lineFields : Instr → Option (Byte × Byte × List Byte)
  | .clockSet _ _ => none
  | .clockGet _ _ => none
  | .calendarPut _ _ => none
  | .calendarDrop _ _ => none
  | .calendarList _ _ => none
  | .tariffPut _ _ => none
  | .tariffDrop _ _ => none
  | .tariffGet _ _ => none
  | .bankCopy _ _ => none
  | .switchAt _ _ => none
  | .switchNow _ _ => none
  | .switchCancel _ _ => none
  | .fareTrial _ _ => none
  | .terminalSet _ _ => none
  | .terminalRemove _ _ => none
  | .terminalGet _ _ => none
  | .endCollection _ _ => none
  | .suspend _ _ => none
  | .resume _ _ => none
  | .message _ _ => none
  | .permitLoad _ _ => none
  | .permitChange _ _ => none
  | .permitDrop _ _ => none
  | .permitGet _ _ => none
  | .permitScan _ _ => none
  | .referralSet _ _ => none
  | .referralList _ _ => none
  | .referralAnswer _ _ => none
  | .liftList _ _ => none
  | .countEnter _ _ => none
  | .roundOpen _ _ => none
  | .roundBuild _ _ => none
  | .roundClose _ _ => none
  | .roundGet _ _ => none
  | .faultClear _ _ => none
  | .thresholdDefaultSet _ _ => none
  | .thresholdDefaultGet _ _ => none
  | .thresholdOverrideSet _ _ => none
  | .thresholdOverrideDrop _ _ => none
  | .lineSet _ _ => none
  | .lineGet _ _ => none
  | .lineStart _ _ => none
  | .lineStop _ _ => none
  | .pollListPut _ _ => none
  | .pollListGet _ _ => none
  | .sweep _ _ => none
  | .noticeTake _ _ => none
  | .partStatus _ _ => none
  | .restart _ _ => none
  | .unknownKind _ _ => none
  | .overlap _ _ => none
  | .linkFrameDiscarded => none
  | .frameLimitExpiry => none
  | .replyTransmissionComplete => none
  | .secondsEvent => none
  | .paceTick _ => none
  | .computationComplete => none
  | .quote _ drop number rest => some (drop, 18, 1 :: number :: rest)
  | .sale _ drop number rest => some (drop, 18, 2 :: number :: rest)
  | .session _ drop number rest => some (drop, 18, 3 :: number :: rest)
  | .cancel _ drop number rest => some (drop, 18, 4 :: number :: rest)
  | .lookupComplete => none
  | .recordInsertion => none
  | .permitOperationComplete => none
  | .referralDeadlineExpiry _ => none
  | .doorOpen _ drop number parameter => some (drop, 19, number :: 1 :: parameter)
  | .doorClosed _ drop number parameter => some (drop, 19, number :: 2 :: parameter)
  | .boxReplaced _ drop number parameter => some (drop, 19, number :: 3 :: parameter)
  | .paperOut _ drop number parameter => some (drop, 19, number :: 4 :: parameter)
  | .paperLoaded _ drop number parameter => some (drop, 19, number :: 5 :: parameter)
  | .printerFault _ drop number parameter => some (drop, 19, number :: 6 :: parameter)
  | .printFailed _ drop number parameter => some (drop, 19, number :: 7 :: parameter)
  | .printerOk _ drop number parameter => some (drop, 19, number :: 8 :: parameter)
  | .coinPathFault _ drop number parameter => some (drop, 19, number :: 9 :: parameter)
  | .coinPathOk _ drop number parameter => some (drop, 19, number :: 10 :: parameter)
  | .frameTransmissionComplete _ => none
  | .turnaroundExpiry _ => none
  | .responseWindowExpiry _ => none
  | .serviceLimitExpiry _ => none
  | .idle _ drop => some (drop, 17, [])
  | .ack _ drop body => some (drop, 20, body)
  | .rejectedFrame _ _ => none
  | .lineFrameDiscarded _ => none
  | .earliestStartReached _ => none
  | .coldStart => none
  | .powerStart => none
  | .warmStart => none
  | .mainSupplyLoss => none
  | .retentionSupplyLoss => none
  | .startComplete _ => none
  | .frameMarkerReceived => none
  | .characterBeginsToArrive _ => none

/-- The frame of a terminal's command (R183). -/
def lineBytes (i : Instr) : Option (List Byte) := (lineFields i).map fun f => lineFrame f.1 f.2.1 f.2.2

/-- The line a terminal's command came on. -/
def lineOf : Instr → Option LineNo
  | .clockSet _ _ => none
  | .clockGet _ _ => none
  | .calendarPut _ _ => none
  | .calendarDrop _ _ => none
  | .calendarList _ _ => none
  | .tariffPut _ _ => none
  | .tariffDrop _ _ => none
  | .tariffGet _ _ => none
  | .bankCopy _ _ => none
  | .switchAt _ _ => none
  | .switchNow _ _ => none
  | .switchCancel _ _ => none
  | .fareTrial _ _ => none
  | .terminalSet _ _ => none
  | .terminalRemove _ _ => none
  | .terminalGet _ _ => none
  | .endCollection _ _ => none
  | .suspend _ _ => none
  | .resume _ _ => none
  | .message _ _ => none
  | .permitLoad _ _ => none
  | .permitChange _ _ => none
  | .permitDrop _ _ => none
  | .permitGet _ _ => none
  | .permitScan _ _ => none
  | .referralSet _ _ => none
  | .referralList _ _ => none
  | .referralAnswer _ _ => none
  | .liftList _ _ => none
  | .countEnter _ _ => none
  | .roundOpen _ _ => none
  | .roundBuild _ _ => none
  | .roundClose _ _ => none
  | .roundGet _ _ => none
  | .faultClear _ _ => none
  | .thresholdDefaultSet _ _ => none
  | .thresholdDefaultGet _ _ => none
  | .thresholdOverrideSet _ _ => none
  | .thresholdOverrideDrop _ _ => none
  | .lineSet _ _ => none
  | .lineGet _ _ => none
  | .lineStart _ _ => none
  | .lineStop _ _ => none
  | .pollListPut _ _ => none
  | .pollListGet _ _ => none
  | .sweep _ _ => none
  | .noticeTake _ _ => none
  | .partStatus _ _ => none
  | .restart _ _ => none
  | .unknownKind _ _ => none
  | .overlap _ _ => none
  | .linkFrameDiscarded => none
  | .frameLimitExpiry => none
  | .replyTransmissionComplete => none
  | .secondsEvent => none
  | .paceTick line => some line
  | .computationComplete => none
  | .quote line _ _ _ => some line
  | .sale line _ _ _ => some line
  | .session line _ _ _ => some line
  | .cancel line _ _ _ => some line
  | .lookupComplete => none
  | .recordInsertion => none
  | .permitOperationComplete => none
  | .referralDeadlineExpiry _ => none
  | .doorOpen line _ _ _ => some line
  | .doorClosed line _ _ _ => some line
  | .boxReplaced line _ _ _ => some line
  | .paperOut line _ _ _ => some line
  | .paperLoaded line _ _ _ => some line
  | .printerFault line _ _ _ => some line
  | .printFailed line _ _ _ => some line
  | .printerOk line _ _ _ => some line
  | .coinPathFault line _ _ _ => some line
  | .coinPathOk line _ _ _ => some line
  | .frameTransmissionComplete line => some line
  | .turnaroundExpiry line => some line
  | .responseWindowExpiry line => some line
  | .serviceLimitExpiry line => some line
  | .idle line _ => some line
  | .ack line _ _ => some line
  | .rejectedFrame line _ => some line
  | .lineFrameDiscarded line => some line
  | .earliestStartReached line => some line
  | .coldStart => none
  | .powerStart => none
  | .warmStart => none
  | .mainSupplyLoss => none
  | .retentionSupplyLoss => none
  | .startComplete _ => none
  | .frameMarkerReceived => none
  | .characterBeginsToArrive line => some line

end Sys2Proof
end

