-- ==== Sys2Proof/Machine/State.lean ====
section
/-! DEFINITION. The state of the part as plain data, block by block, what stops it, and State.reset. -/

namespace Sys2Proof.Machine

open Sys2Proof

/-! ## Time and calendar (R1 to R13) -/

/-- A day number and a minute of day: a tariff time, a ticket's start or expiry, a position of a walk. -/
structure Moment where
  day : Nat
  minute : Nat
  deriving DecidableEq, Repr

/-- A day number and a second of day: a reading of the current time. -/
structure Instant where
  day : Nat
  second : Nat
  deriving DecidableEq, Repr

/-- The Borough Clock's three items (R1). -/
structure Clock where
  day : Nat
  second : Nat
  valid : Bool
  deriving DecidableEq, Repr

inductive DayType where
  | weekday | saturday | sunday | special
  deriving DecidableEq, Repr

/-- An entry of the Calendar (R10). -/
structure CalendarEntry where
  day : Nat
  type : DayType
  deriving DecidableEq, Repr

/-! ## Tariffs (R14, R15) -/

inductive BankLetter where
  | a | b
  deriving DecidableEq, Repr

/-- A band (R15): start and end minute, pence for each step, minutes of a step. -/
structure Band where
  start : Nat
  stop : Nat
  rate : Nat
  step : Nat
  deriving DecidableEq, Repr

/-- A zone tariff (R15). Resident eligibility is YES exactly when the resident session cap is present, so the two are
one field: `none` is NO. -/
structure ZoneTariff where
  weekday : List Band
  saturday : List Band
  sunday : List Band
  special : List Band
  minimumCharge : Nat
  maximumStay : Nat
  residentCap : Option Nat
  deriving DecidableEq, Repr

/-- A bank (R14): sixteen slots, each absent or a zone tariff, and a version. -/
structure Bank where
  slots : Vector (Option ZoneTariff) 16
  version : Nat
  deriving DecidableEq, Repr

/-- The Tariff Store (R14). -/
structure Tariffs where
  bankA : Bank
  bankB : Bank
  active : BankLetter
  schedule : Option Moment
  deriving DecidableEq, Repr

/-- A copy handed out (R17): a slot's contents with the bank's letter and version. -/
structure TariffCopy where
  letter : BankLetter
  version : Nat
  tariff : Option ZoneTariff
  deriving DecidableEq, Repr

/-! ## Fare engine (R31, R32, R37, R49) -/

inductive FareKind where
  | quote | sale | session | referral | trial
  deriving DecidableEq, Repr

/-- Walk and budget of a fare entry (R32): pence for a MONEY walk, minutes for a MINUTES walk. -/
inductive Budget where
  | money (pence : Nat)
  | minutes (count : Nat)
  deriving DecidableEq, Repr

inductive BankRole where
  | active | staged
  deriving DecidableEq, Repr

/-- Where a result goes (R32). -/
inductive ReturnTo where
  | terminal (number request : Nat)
  | referral (number terminal : Nat)
  | host (tag : Byte)
  deriving DecidableEq, Repr

/-- An entry of the fare queue (R32). -/
structure FareEntry where
  kind : FareKind
  budget : Budget
  zone : Zone
  bank : BankRole
  start : Option Moment
  returnTo : ReturnTo
  permit : Option Nat
  deriving DecidableEq, Repr

/-- The computation in progress: its entry and its latched copies (R37). -/
structure Computation where
  entry : FareEntry
  copy : TariffCopy
  start : Moment
  dayType : DayType
  nextDayType : Option DayType
  horizon : Moment
  deriving DecidableEq, Repr

structure FareEngine where
  queue : List FareEntry
  computing : Option Computation
  deriving DecidableEq, Repr

/-- The four ending flags of a walk (R47). -/
inductive Ending where
  | maxStay | money | horizon | budget
  deriving DecidableEq, Repr

/-- One entry of a segment list (R55). -/
structure Segment where
  entry : Moment
  minutes : Nat
  cost : Nat
  deriving DecidableEq, Repr

/-- The fields of a COMPUTED result (R49), its segment list present for a TRIAL only. -/
structure Figures where
  start : Moment
  chargeableStart : Moment
  expiry : Moment
  minutes : Nat
  walkCost : Nat
  charged : Nat
  unused : Nat
  freeStart : Bool
  ending : Ending
  segments : Option (List Segment)
  deriving DecidableEq, Repr

/-- The outcome of a computation and what a result carries under it beside the bank (R49): a start for COMPUTED, FREE PARKING
and INSUFFICIENT, figures for COMPUTED. WITHDRAWN is no walk's outcome (R50): it stands in `FareOutcome`. -/
inductive Walk where
  | computed (figures : Figures)
  | zoneNotTariffed
  | belowMinimum
  | zoneNotPermitted
  | freeParking (start : Moment)
  | insufficient (start : Moment)
  deriving DecidableEq, Repr

/-- The outcome of a result (R49): WITHDRAWN, of an entry removed before its computation began (R36), which carries no bank;
or how the walk of a computation came out, with the letter and version of the bank latched. -/
inductive FareOutcome where
  | withdrawn
  | walked (letter : BankLetter) (version : Nat) (walk : Walk)
  deriving DecidableEq, Repr

/-- The record of a result (R49): the fields that are always present, the permit number of a SESSION or REFERRAL, and the
outcome with those it brings. -/
structure FareResult where
  kind : FareKind
  returnTo : ReturnTo
  zone : Zone
  outcome : FareOutcome
  permit : Option Nat
  deriving DecidableEq, Repr

/-! ## Terminal contexts (R57 to R78) -/

/-- The refusal reasons, in the order R64 lists them. -/
inductive Reason where
  | badRequest | coinsClosed | notInService | clockNotSet | zoneNotTariffed | belowMinimum | freeParking
  | insufficient | zoneNotPermitted | permitUnknown | permitNotValid | sessionActive | allowanceUsed
  deriving DecidableEq, Repr

/-- Six counts, one for each denomination in ascending value (R64, R102). -/
structure Coins where
  p5 : Nat
  p10 : Nat
  p20 : Nat
  p50 : Nat
  p100 : Nat
  p200 : Nat
  deriving DecidableEq, Repr

/-- A cash-box tally (R102): six counts, their sum and their worth in pence. -/
structure Tally where
  coins : Coins
  coinTotal : Nat
  penceTotal : Nat
  deriving DecidableEq, Repr

/-- A threshold set (R127). -/
structure Thresholds where
  nearFull : Nat
  full : Nat
  paperLow : Nat
  deriving DecidableEq, Repr

/-- A fault set: which of the eight classes of R121 are present, in the order of their priorities. -/
structure FaultSet where
  forcedDoor : Bool
  silent : Bool
  printer : Bool
  paperOut : Bool
  boxFull : Bool
  coinPath : Bool
  boxNearFull : Bool
  paperLow : Bool
  deriving DecidableEq, Repr

/-- The six conditions (R131), in the order of R132's table. -/
inductive Condition where
  | unconfigured | inCollection | suspended | outOfService | restricted | inService
  deriving DecidableEq, Repr

/-- A pending report set (R76). -/
structure ReportSet where
  condition : Bool
  events : Bool
  held : Bool
  plate : Bool
  deriving DecidableEq, Repr

/-- The owed orders of a terminal (R57), in the order R162 takes them. -/
structure OwedOrders where
  condition : Bool
  clock : Bool
  result : Bool
  plate : Bool
  deriving DecidableEq, Repr

/-- A ticket record (R73). -/
structure Ticket where
  terminal : Nat
  serial : Nat
  zone : Zone
  start : Moment
  expiry : Moment
  charged : Nat
  unused : Nat
  minutes : Nat
  version : Nat
  freeStart : Bool
  maxStay : Bool
  horizon : Bool
  tariffChanged : Bool
  resident : Bool
  permit : Option Nat
  deriving DecidableEq, Repr

/-- A terminal event with its parameter (R74). -/
inductive Event where
  | doorOpen (code : Option Nat)
  | doorClosed
  | boxReplaced
  | paperOut
  | paperLoaded (count : Option Nat)
  | printerFault
  | printFailed (serial : Nat)
  | printerOk
  | coinPathFault
  | coinPathOk
  deriving DecidableEq, Repr

/-- An event record of the buffer (R74). -/
structure EventRecord where
  number : Nat
  event : Event
  taken : Instant
  deriving DecidableEq, Repr

/-- What a request in flight asked for (R58). -/
inductive FlightKind where
  | quote
  | sale (coins : Coins) (quoteVersion : Option Nat)
  | session
  deriving DecidableEq, Repr

/-- The request in flight (R58). -/
structure InFlight where
  kind : FlightKind
  number : Nat
  withdrawn : Bool
  deriving DecidableEq, Repr

/-- The outcome a held result brings (R72). -/
inductive HeldOutcome where
  | ticket (ticket : Ticket)
  | refusal (reason : Reason)
  deriving DecidableEq, Repr

/-- The held result (R72). -/
structure HeldResult where
  referral : Nat
  request : Nat
  outcome : HeldOutcome
  deriving DecidableEq, Repr

/-- The referral field of a context (R57). -/
structure ReferralMark where
  referral : Nat
  request : Nat
  deriving DecidableEq, Repr

/-- The seven error counters (R57). -/
structure ErrorCounters where
  parity : Nat
  framing : Nat
  noise : Nat
  overrun : Nat
  check : Nat
  protocol : Nat
  noReply : Nat
  deriving DecidableEq, Repr

/-- A terminal context (R57), with the terminal's tally, which Cash Accounts keep, one for each context (R101). -/
structure Context where
  number : Nat
  line : LineNo
  drop : Nat
  zone : Zone
  boxCapacity : Nat
  paperCapacity : Nat
  paperRemaining : Nat
  override : Option Thresholds
  faults : FaultSet
  suspended : Bool
  collection : Option Nat
  serial : Nat
  last : Option (Nat × Ticket)
  lastEvent : Option Nat
  events : List EventRecord
  reports : ReportSet
  owed : OwedOrders
  plateVersion : Option Nat
  inFlight : Option InFlight
  referral : Option ReferralMark
  held : Option HeldResult
  errors : ErrorCounters
  tally : Tally
  deriving DecidableEq, Repr

/-! ## Permits (R79 to R100) -/

inductive PermitStatus where
  | active | suspended | withdrawn
  deriving DecidableEq, Repr

/-- A permit's last session (R79). -/
structure LastSession where
  terminal : Nat
  zone : Zone
  start : Moment
  expiry : Moment
  minutes : Nat
  deriving DecidableEq, Repr

/-- A claim names one walk (R89). -/
inductive Claim where
  | session (terminal request : Nat)
  | referral (number : Nat)
  deriving DecidableEq, Repr

/-- The host's fields of a permit record (R79, R83). -/
structure PermitFields where
  number : Nat
  zones : ZoneSet
  validFrom : Nat
  validTo : Nat
  status : PermitStatus
  allowance : Nat
  deriving DecidableEq, Repr

/-- A permit record (R79). -/
structure Permit where
  number : Nat
  zones : ZoneSet
  validFrom : Nat
  validTo : Nat
  status : PermitStatus
  allowance : Nat
  usedDay : Option Nat
  usedMinutes : Nat
  lastSession : Option LastSession
  claim : Option Claim
  deriving DecidableEq, Repr

/-- The fields of a PERMIT CHANGE (R84): each may be absent. -/
structure PermitChange where
  number : Nat
  status : Option PermitStatus
  allowance : Option Nat
  validFrom : Option Nat
  validTo : Option Nat
  zones : Option ZoneSet
  deriving DecidableEq, Repr

/-- How a referral is decided (R97). -/
inductive Decision where
  | grantOnce (minutes : Nat)
  | grantAndLoad (record : PermitFields)
  | deny
  deriving DecidableEq, Repr

/-- A LOOKUP for a terminal's SESSION request (R87). -/
structure Lookup where
  terminal : Nat
  request : Nat
  permit : Nat
  minutes : Nat
  zone : Zone
  deriving DecidableEq, Repr

/-- The operations of the permit queue (R81). -/
inductive PermitOp where
  | lookup (lookup : Lookup)
  | load (records : List PermitFields)
  | change (change : PermitChange)
  | drop (number : Nat)
  | get (number : Nat)
  | scan (first count : Nat)
  | answer (referral : Nat) (decision : Decision)
  deriving DecidableEq, Repr

/-- A permit record as PERMIT GET and PERMIT SCAN read it (R86). -/
structure PermitReading where
  record : Permit
  effectiveUsed : Nat
  remaining : Nat
  running : Bool
  deriving DecidableEq, Repr

/-- A referral entry (R93). It is WAITING while its decision is absent and DECIDED once it is present; the deadline is
the elapsed time at which it expires. -/
structure Referral where
  number : Nat
  terminal : Nat
  request : Nat
  permit : Nat
  minutes : Nat
  arrival : Instant
  deadline : Nat
  decision : Option Decision
  detached : Bool
  deriving DecidableEq, Repr

/-! ## Cash (R101 to R120) -/

/-- A lifted record (R104). -/
structure Lifted where
  number : Nat
  terminal : Nat
  round : Option Nat
  coins : Coins
  expected : Nat
  lifted : Instant
  unscheduled : Bool
  merged : Bool
  deriving DecidableEq, Repr

inductive EntryState where
  | due | opened | lifted | skipped
  deriving DecidableEq, Repr

structure RoundEntry where
  terminal : Nat
  state : EntryState
  deriving DecidableEq, Repr

/-- A round record (R108). -/
structure Round where
  number : Nat
  code : Nat
  isOpen : Bool
  entries : List RoundEntry
  deriving DecidableEq, Repr

structure Cash where
  lifted : List Lifted
  rounds : List Round
  lastLifted : Nat
  lastRound : Nat
  lastSelfClosed : Option Nat
  deriving DecidableEq, Repr

/-! ## Lines (R137 to R167) -/

inductive SweepMode where
  | single | continuous | paced
  deriving DecidableEq, Repr

inductive PaceSource where
  | clock | host
  deriving DecidableEq, Repr

/-- The nine line settings (R137): the response window in milliseconds, the service limit and the sweep period in tenths
of a second, the pace interval in seconds. -/
structure LineSettings where
  rate : Nat
  window : Nat
  retries : Nat
  serviceLimit : Nat
  mode : SweepMode
  period : Nat
  source : PaceSource
  interval : Nat
  leg : Nat
  deriving DecidableEq, Repr

/-- The line states (R137), in the order R181 codes them. -/
inductive LineState where
  | stopped | idle | stopping | awaitReply | awaitEngine
  deriving DecidableEq, Repr

/-- One block of a plate (R28). `tail` is what the fourth block carries besides: minimum charge, maximum stay and
version. -/
structure PlateBlock where
  zone : Zone
  bands : List Band
  notTariffed : Bool
  tail : Option (Nat × Nat × Nat)
  deriving DecidableEq, Repr

/-- The content of an ORDER as read at its exchange's beginning (R145). A RESULT order that finds no held result carries
`none` (log 13). -/
inductive OrderContent where
  | condition (condition : Condition) (code : Nat)
  | clock (time : Instant)
  | result (held : Option HeldResult)
  | plate (block : Nat) (content : PlateBlock)
  | message (text : List Byte)
  deriving DecidableEq, Repr

/-- The frame an exchange sends (R145). -/
inductive SentFrame where
  | poll
  | order (content : OrderContent)
  deriving DecidableEq, Repr

/-- The answers of R64 and R75. A QUOTED answer carries what R67 lists. -/
inductive Answer where
  | quoted (expiry : Moment) (charged unused minutes : Nat) (freeStart : Bool) (ending : Ending) (version : Nat)
  | ticket (ticket : Ticket)
  | refused (reason : Reason)
  | wait
  | busy
  | cancelled
  | taken
  | hold
  deriving DecidableEq, Repr

inductive Phase where
  | send | window | receive | engine | answer
  deriving DecidableEq, Repr

/-- A well-formed terminal request (R64). -/
inductive TermRequest where
  | quote (amount : Nat)
  | sale (coins : Coins) (quoteVersion : Option Nat)
  | session (permit minutes : Nat)
  | cancel
  deriving DecidableEq, Repr

/-- The request or event taken from the reply to a POLL (R145); `none` in a request's place is a malformed one (R64). -/
inductive FromTerminal where
  | request (number : Nat) (request : Option TermRequest)
  | event (number : Nat) (event : Event)
  deriving DecidableEq, Repr

/-- The exchange in progress (R145). `answer` is the ANSWER frame of the ANSWER phase: the number answered and the
answer. -/
structure Exchange where
  terminal : Nat
  drop : Nat
  frame : SentFrame
  triesAllowed : Nat
  triesUsed : Nat
  phase : Phase
  taken : Option FromTerminal
  answer : Option (Nat × Answer)
  deriving DecidableEq, Repr

inductive Pass where
  | none | running | waiting
  deriving DecidableEq, Repr

/-- A leg of a PACED sweep (R153), RUNNING with the entries still to take. -/
inductive Leg where
  | none
  | pending
  | running (left : Nat)
  deriving DecidableEq, Repr

/-- The PLATE chain in progress (R153, R164); `acked` is the last block acknowledged, 0 before block 1 is. -/
structure Chain where
  terminal : Nat
  zone : Zone
  copy : TariffCopy
  acked : Nat
  deriving DecidableEq, Repr

/-- The five kinds of directed entry (R160). -/
inductive OrderKind where
  | condition
  | clock
  | result
  | plate
  | message (text : List Byte)
  deriving DecidableEq, Repr

/-- An entry of a directed queue (R160). -/
structure Directed where
  terminal : Nat
  kind : OrderKind
  deriving DecidableEq, Repr

/-- One Line Engine (R137, R153, R160), with the line's pace counter, which the Borough Clock keeps (R3). -/
structure Line where
  settings : LineSettings
  state : LineState
  exchange : Option Exchange
  driving : Bool
  /-- three character times since the last received frame have not passed yet (R142) -/
  turnaround : Bool
  pollList : List Nat
  position : Nat
  pass : Pass
  /-- the count of seconds events at the point (log 4) -/
  passStart : Nat
  passRecord : List Nat
  madeExchange : Bool
  /-- the MODEL's own (log 4): the running pass's earliest start has been reached -/
  earliestReached : Bool
  leg : Leg
  chain : Option Chain
  directed : List Directed
  paceCounter : Nat
  /-- the MODEL's own (log 5): pace ticks handed to the line and not yet taken -/
  ticksHanded : Nat
  deriving DecidableEq, Repr

/-! ## Link, replies and notices (R168 to R180) -/

inductive StartKind where
  | cold | power | warm
  deriving DecidableEq, Repr

/-- The link receiver (R168): HUNTING, or RECEIVING with the elapsed time its marker arrived at. -/
inductive Receiver where
  | hunting
  | receiving (markerAt : Nat)
  deriving DecidableEq, Repr

/-- The outstanding request's tag and kind (R168). -/
structure Outstanding where
  tag : Byte
  kind : Byte
  deriving DecidableEq, Repr

/-- The kinds of notice entry (R173). -/
inductive NoticeKind where
  | terminal (number : Nat)
  | sweepComplete (line : LineNo)
  | paceOverrun (line : LineNo)
  | switchover
  | referrals
  | roundComplete
  deriving DecidableEq, Repr

/-- A notice entry (R173). A terminal entry has no count: its `count` stays 1 and no reply gives it (log 23). -/
structure Notice where
  kind : NoticeKind
  count : Nat
  deriving DecidableEq, Repr

/-- The disposition of a SWEEP reply (R159). -/
inductive Disposition where
  | none | started | leg | overrun
  deriving DecidableEq, Repr

/-- A referral as REFERRAL LIST gives it (R96). -/
structure ReferralReading where
  referral : Referral
  secondsLeft : Nat
  deriving DecidableEq, Repr

/-- The fields of a DONE reply, by the rule that lists them. -/
inductive DoneFields where
  /-- no fields -/
  | plain
  /-- R8 -/
  | clock (day second : Nat) (valid : Bool) (dayOfWeek : Nat) (today : DayType)
  /-- R11 -/
  | calendar (entries : List CalendarEntry)
  /-- R20 -/
  | tariff (active : BankLetter) (version : Nat) (schedule : Option Moment) (tariff : Option ZoneTariff)
  /-- R54 -/
  | trial (letter : BankLetter) (version : Nat) (walk : Walk)
  /-- R59: CREATED or CHANGED -/
  | terminalSet (created : Bool)
  /-- R63: a terminal with no context -/
  | unconfigured
  /-- R63 -/
  | terminal (context : Context) (condition : Condition) (highest : Nat) (inForce : Thresholds)
  /-- R83 -/
  | loaded (inserted replaced : Nat)
  /-- R84 -/
  | changed (record : Permit)
  /-- R86 -/
  | permit (reading : PermitReading)
  /-- R86 -/
  | scan (readings : List PermitReading) (more : Bool)
  /-- R96 -/
  | referrals (entries : List ReferralReading)
  /-- R106 -/
  | lifts (records : List Lifted) (more : Bool)
  /-- R107 -/
  | counted (difference : Int) (amount : Nat) (record : Lifted)
  /-- R109 -/
  | roundOpened (number : Nat)
  /-- R110 -/
  | roundBuilt (number entries : Nat)
  /-- R111 -/
  | roundClosed (lifted skipped : Nat)
  /-- R112: each entry with its IN COLLECTION mark -/
  | round (round : Round) (marks : List Bool)
  /-- R126 -/
  | faultSet (faults : FaultSet)
  /-- R128, R129 -/
  | thresholds (thresholds : Thresholds)
  /-- R139 -/
  | line (settings : LineSettings) (state : LineState) (exchange : Option Exchange)
  /-- R154: while the line is in use, position, pass and, in PACED mode, leg -/
  | pollList (drops : List Nat) (use : Option (Nat × Pass × Option Leg))
  /-- R159 -/
  | sweep (disposition : Disposition)
  /-- R175: the empty queue -/
  | noNotice
  /-- R175, R77 -/
  | terminalNotice (number : Nat) (reports : ReportSet) (events : List EventRecord) (condition : Condition)
      (highest : Nat) (faults : FaultSet) (plateVersion : Option Nat) (left : Nat)
  /-- R175 -/
  | lineNotice (overrun : Bool) (line : LineNo) (count left : Nat)
  /-- R175 -/
  | switchoverNotice (count : Nat) (letter : BankLetter) (version left : Nat)
  /-- R175 -/
  | referralsNotice (count entries waiting left : Nat)
  /-- R175 -/
  | roundNotice (count : Nat) (round : Option Nat) (left : Nat)
  /-- R177 -/
  | status (start : StartKind) (rate : LinkRate) (valid : Bool) (terminals permits : Nat) (lines : List LineState)
      (notices check timeout dropped : Nat)
  deriving DecidableEq, Repr

/-- What a reply says: its result code (R172) with the fields of that code. -/
inductive ReplyBody where
  | done (fields : DoneFields)
  | field (index : Nat)
  | noSuch
  | full
  | state
  | duplicate
  | overlap
  | tooLate
  | unknownKind
  deriving DecidableEq, Repr

/-- A reply frame (R172). -/
structure Reply where
  tag : Byte
  kind : Byte
  body : ReplyBody
  deriving DecidableEq, Repr

/-- The Link Port (R168). -/
structure Link where
  rate : LinkRate
  receiver : Receiver
  outstanding : Option Outstanding
  waiting : List Reply
  sending : Option Reply
  check : Nat
  timeout : Nat
  dropped : Nat
  lastStart : StartKind
  starting : Bool
  /-- the MODEL's own (log 7): RESTART's reply has been sent, so the WARM start is to be taken (R179) -/
  warmStartDue : Bool
  deriving DecidableEq, Repr

/-- The progress of the operation in progress (R79, R82). `settled` is a host operation whose outcome was settled when
it began and whose reply waits for its completion (log 10). The records a scan has chosen so far stand in State.scanned. -/
inductive PermitWork where
  | lookup (lookup : Lookup) (marked : Bool)
  | load (rest : List PermitFields) (inserted replaced : Nat)
  | grant (referral : Nat) (record : PermitFields) (loaded : Bool)
  | scan (first count : Nat)
  | settled (reply : ReplyBody)
  deriving DecidableEq, Repr

/-- The Permit Table (R79). -/
structure Permits where
  records : List Permit
  queue : List PermitOp
  working : Option PermitWork
  referrals : List Referral
  referralEnabled : Bool
  referralTimeout : Nat
  lastReferral : Nat
  deriving DecidableEq, Repr

/-! ## The machine -/

/-- The whole state of the part, and the queue of the commands that wait. -/
structure State where
  clock : Clock
  calendar : List CalendarEntry
  tariffs : Tariffs
  fare : FareEngine
  contexts : List Context
  permits : Permits
  cash : Cash
  defaults : Thresholds
  lines : Vector Line 4
  link : Link
  notices : List Notice
  attention : Bool
  mainSupply : Bool
  retentionHeld : Bool
  elapsed : Nat
  /-- the records the PERMIT SCAN in progress has chosen so far, as it read them (R82, R86) -/
  scanned : List PermitReading
  /-- the MODEL's own (log 10): how often the free value Config.scanSteps has been read -/
  choices : Nat
  pending : List Instr
  deriving DecidableEq, Repr

/-- What stops the part with a fault. The spec names nothing that does: there is no constructor. -/
inductive Fault where
  deriving DecidableEq, Repr

/-- What is refused for want of a meaning. -/
inductive Refusal where
  /-- raised by exec's arm for a command without a meaning; safe. No arm raises it. -/
  | notModelled (mnemonic : String)
  deriving DecidableEq, Repr

/-- The line settings after a COLD start (R137). -/
def LineSettings.cold : LineSettings :=
  { rate := 9600, window := 60, retries := 2, serviceLimit := 20, mode := .continuous, period := 0,
    source := .clock, interval := 10, leg := 4 }

/-- A line after a COLD start (R13, R137, R152, R167; the sweep state, log 16). -/
def Line.cold : Line :=
  { settings := .cold, state := .stopped, exchange := none, driving := false, turnaround := false,
    pollList := [], position := 1, pass := .none, passStart := 0, passRecord := [], madeExchange := false,
    earliestReached := false, leg := .none, chain := none, directed := [], paceCounter := 0, ticksHanded := 0 }

/-- A bank after a COLD start (R30). -/
def Bank.cold : Bank := { slots := Vector.replicate 16 none, version := 0 }

/-- The default threshold set after a COLD start (R127). -/
def Thresholds.cold : Thresholds := { nearFull := 2400, full := 2800, paperLow := 50 }

/-- The machine right after reset: a completed COLD start (R13, R30, R56, R78, R100, R120, R136, R152, R167, R180;
log 3). -/
def State.reset : State :=
  { clock := { day := 0, second := 0, valid := false }
    calendar := []
    tariffs := { bankA := .cold, bankB := .cold, active := .a, schedule := none }
    fare := { queue := [], computing := none }
    contexts := []
    permits := { records := [], queue := [], working := none, referrals := [], referralEnabled := false,
                 referralTimeout := 20, lastReferral := 0 }
    cash := { lifted := [], rounds := [], lastLifted := 0, lastRound := 0, lastSelfClosed := none }
    defaults := .cold
    lines := Vector.replicate 4 .cold
    link := { rate := .r57600, receiver := .hunting, outstanding := none, waiting := [], sending := none,
              check := 0, timeout := 0, dropped := 0, lastStart := .cold, starting := false,
              warmStartDue := false }
    notices := []
    attention := false
    mainSupply := true
    retentionHeld := true
    elapsed := 0
    scanned := []
    choices := 0
    pending := [] }

end Sys2Proof.Machine
end

