-- ==== Sys2Proof/Machine/Operands.lean ====
section
/-! DEFINITION. The operand forms: how the body of each host request (R181, R184, R185) and of each terminal frame
(R183, R184) is read and checked. A reader answers the fields, or the index of the first bad field; index 0 is the
body as a whole (R170, R185). -/

namespace Sys2Proof.Machine

open Sys2Proof

/-- The index of the first check that fails. -/
def firstBad : List (Nat × Bool) → Option Nat
  | [] => none
  | (index, ok) :: rest => if ok then firstBad rest else some index

/-- The fields when every check passes, else the first bad index (the checks stand in ascending index order). -/
def checked {α : Type} (checks : List (Nat × Bool)) (fields : α) : Except Nat α :=
  match firstBad checks with
  | none => .ok fields
  | some index => .error index

/-- A body that must have exactly `size` bytes (R185). -/
def sized {α : Type} (body : List Byte) (size : Nat) (fields : Except Nat α) : Except Nat α :=
  if body.length = size then fields else .error 0

/-- `lo ≤ n ≤ hi`. -/
def within (lo n hi : Nat) : Bool := decide (lo ≤ n) && decide (n ≤ hi)

/-- A Packed field that is good and within its range. -/
def packedWithin (lo : Nat) (n : Option Nat) (hi : Nat) : Bool :=
  match n with
  | some n => within lo n hi
  | none => false

/-- A whole number of steps of `step`. -/
def stepped (n step : Nat) : Bool := n % step == 0

/-! ### Named values (R181) -/

def bankOfCode (code : Nat) : Option BankLetter :=
  if code = 65 then some .a else if code = 66 then some .b else none

def roleOfCode (code : Nat) : Option BankRole :=
  if code = 0 then some .active else if code = 1 then some .staged else none

def dayTypeOfCode (code : Nat) : Option DayType :=
  if code = 0 then some .weekday else if code = 1 then some .saturday
  else if code = 2 then some .sunday else if code = 3 then some .special else none

def statusOfCode (code : Nat) : Option PermitStatus :=
  if code = 0 then some .active else if code = 1 then some .suspended
  else if code = 2 then some .withdrawn else none

def modeOfCode (code : Nat) : Option SweepMode :=
  if code = 0 then some .single else if code = 1 then some .continuous else if code = 2 then some .paced else none

def sourceOfCode (code : Nat) : Option PaceSource :=
  if code = 0 then some .clock else if code = 1 then some .host else none

/-- A fault set from its byte (R181): the class of priority `p` is the bit of weight 2 to the power `p - 1`. -/
def faultsOfByte (b : Byte) : FaultSet :=
  { forcedDoor := b.getLsbD 0, silent := b.getLsbD 1, printer := b.getLsbD 2, paperOut := b.getLsbD 3,
    boxFull := b.getLsbD 4, coinPath := b.getLsbD 5, boxNearFull := b.getLsbD 6, paperLow := b.getLsbD 7 }

/-! ### Clock and calendar -/

/-- R5. -/
def readClockSet (body : List Byte) : Except Nat Instant :=
  sized body 5 <|
    checked [(1, within 0 (number body 0 2) 65535), (2, within 0 (number body 2 3) 86399)]
      { day := number body 0 2, second := number body 2 3 }

/-- A request without fields (R8, R21 and so on). -/
def readNothing (body : List Byte) : Except Nat Unit := sized body 0 (.ok ())

/-- R10. -/
def readCalendarPut (body : List Byte) : Except Nat CalendarEntry :=
  sized body 3 <|
    checked [(1, within 0 (number body 0 2) 65535), (2, (dayTypeOfCode (number body 2 1)).isSome)]
      { day := number body 0 2, type := (dayTypeOfCode (number body 2 1)).getD .weekday }

/-- R11: the day of a CALENDAR DROP, the first day of a CALENDAR LIST. -/
def readDay (body : List Byte) : Except Nat Nat :=
  sized body 2 <| checked [(1, within 0 (number body 0 2) 65535)] (number body 0 2)

/-! ### Tariffs -/

/-- A band as its 9 bytes give it (R184). -/
structure RawBand where
  start : Nat
  stop : Nat
  rate : Option Nat
  step : Nat
  deriving DecidableEq, Repr

/-- `count` bands of 9 bytes each from byte `at_` on. -/
def rawBands (body : List Byte) : Nat → Nat → List RawBand
  | _, 0 => []
  | at_, count + 1 =>
    { start := number body at_ 2, stop := number body (at_ + 2) 2, rate := digits body (at_ + 4) 4,
      step := number body (at_ + 8) 1 } :: rawBands body (at_ + 9) count

/-- The checks of R16 on one list: `index` is the start minute's index of the first band, `after` the end minute of the
band before. -/
def bandChecks (index after : Nat) : List RawBand → List (Nat × Bool)
  | [] => []
  | b :: rest =>
    (index, within 0 b.start 1439 && decide (after ≤ b.start)) ::
    (index + 1, within (b.start + 1) b.stop 1440) ::
    (index + 2, packedWithin 1 b.rate 9999) ::
    (index + 3, within 1 b.step 60) ::
    bandChecks (index + 4) b.stop rest

def RawBand.band (b : RawBand) : Band :=
  { start := b.start, stop := b.stop, rate := b.rate.getD 0, step := b.step }

/-- What a TARIFF PUT names and carries. -/
structure TariffPut where
  bank : BankLetter
  zone : Zone
  tariff : ZoneTariff
  deriving DecidableEq, Repr

/-- R16, R184, R185. When a band count is above 6 the exact length is not required and the bands are not looked at. -/
def readTariffPut (body : List Byte) : Except Nat TariffPut :=
  if body.length < 15 then .error 0
  else
    let n0 := number body 11 1
    let n1 := number body 12 1
    let n2 := number body 13 1
    let n3 := number body 14 1
    let counts := n0 ≤ 6 ∧ n1 ≤ 6 ∧ n2 ≤ 6 ∧ n3 ≤ 6
    if counts ∧ body.length ≠ 15 + 9 * (n0 + n1 + n2 + n3) then .error 0
    else
      let eligible := number body 8 1
      let cap := number body 9 2
      let bands := if counts then (n0, n1, n2, n3) else (0, 0, 0, 0)
      let weekday := rawBands body 15 bands.1
      let saturday := rawBands body (15 + 9 * bands.1) bands.2.1
      let sunday := rawBands body (15 + 9 * (bands.1 + bands.2.1)) bands.2.2.1
      let special := rawBands body (15 + 9 * (bands.1 + bands.2.1 + bands.2.2.1)) bands.2.2.2
      checked
        ([(1, (bankOfCode (number body 0 1)).isSome), (2, within 0 (number body 1 1) 15),
          (3, packedWithin 0 (digits body 2 4) 9999), (4, within 1 (number body 6 2) 1440),
          (5, within 0 eligible 1), (6, if eligible = 1 then within 1 cap 1440 else cap == 0),
          (7, within 0 n0 6), (8, within 0 n1 6), (9, within 0 n2 6), (10, within 0 n3 6)] ++
          bandChecks 11 0 weekday ++ bandChecks 35 0 saturday ++ bandChecks 59 0 sunday ++ bandChecks 83 0 special)
        { bank := (bankOfCode (number body 0 1)).getD .a
          zone := Fin.ofNat 16 (number body 1 1)
          tariff :=
            { weekday := weekday.map RawBand.band, saturday := saturday.map RawBand.band,
              sunday := sunday.map RawBand.band, special := special.map RawBand.band,
              minimumCharge := (digits body 2 4).getD 0, maximumStay := number body 6 2,
              residentCap := if eligible = 1 then some cap else none } }

/-- R19, R20: a bank and a zone. -/
def readSlot (body : List Byte) : Except Nat (BankLetter × Zone) :=
  sized body 2 <|
    checked [(1, (bankOfCode (number body 0 1)).isSome), (2, within 0 (number body 1 1) 15)]
      ((bankOfCode (number body 0 1)).getD .a, Fin.ofNat 16 (number body 1 1))

/-- R22: the field checks that do not look at the clock. -/
def readSwitchAt (body : List Byte) : Except Nat Moment :=
  sized body 4 <|
    checked [(1, within 0 (number body 0 2) 65535), (2, within 0 (number body 2 2) 1439)]
      { day := number body 0 2, minute := number body 2 2 }

/-- The fields of a FARE TRIAL (R54). -/
structure Trial where
  role : BankRole
  zone : Zone
  start : Moment
  budget : Budget
  deriving DecidableEq, Repr

/-- R54, R185. When the budget-kind byte is neither value the exact length is not required (log 21: the body must then
still reach that byte). -/
def readTrial (body : List Byte) : Except Nat Trial :=
  let kind := number body 6 1
  if body.length < 7 ∨ (kind = 0 ∧ body.length ≠ 11) ∨ (kind = 1 ∧ body.length ≠ 9) then .error 0
  else
    checked
      [(1, (roleOfCode (number body 0 1)).isSome), (2, within 0 (number body 1 1) 15),
       (3, within 0 (number body 2 2) 65535), (4, within 0 (number body 4 2) 1439), (5, within 0 kind 1),
       (6, if kind = 0 then packedWithin 0 (digits body 7 4) 99999 else within 1 (number body 7 2) 1440)]
      { role := (roleOfCode (number body 0 1)).getD .active
        zone := Fin.ofNat 16 (number body 1 1)
        start := { day := number body 2 2, minute := number body 4 2 }
        budget := if kind = 0 then .money ((digits body 7 4).getD 0) else .minutes (number body 7 2) }

/-! ### Terminals -/

/-- The fields of a TERMINAL SET (R59). -/
structure TerminalSet where
  number : Nat
  line : LineNo
  drop : Nat
  zone : Zone
  boxCapacity : Nat
  paperCapacity : Nat
  deriving DecidableEq, Repr

/-- R59. `overrideOf` gives the threshold override of a terminal number's context. -/
def readTerminalSet (overrideOf : Nat → Option Thresholds) (body : List Byte) : Except Nat TerminalSet :=
  let terminal := number body 0 1
  let box := number body 4 2
  let paper := number body 6 2
  sized body 8 <|
    checked
      [(1, within 0 terminal 127), (2, within 0 (number body 1 1) 3), (3, within 1 (number body 2 1) 32),
       (4, within 0 (number body 3 1) 15),
       (5, within 200 box 3000 && (match overrideOf terminal with | some o => decide (o.full ≤ box) | none => true)),
       (6, within 100 paper 2000 &&
          (match overrideOf terminal with | some o => decide (o.paperLow ≤ paper) | none => true))]
      { number := terminal, line := Fin.ofNat 4 (number body 1 1), drop := number body 2 1,
        zone := Fin.ofNat 16 (number body 3 1), boxCapacity := box, paperCapacity := paper }

/-- A terminal number alone (R62, R129). -/
def readTerminal (body : List Byte) : Except Nat Nat :=
  sized body 1 <| checked [(1, within 0 (number body 0 1) 127)] (number body 0 1)

/-- R63: the terminal number and whether the counters are cleared. -/
def readTerminalGet (body : List Byte) : Except Nat (Nat × Bool) :=
  sized body 2 <|
    checked [(1, within 0 (number body 0 1) 127), (2, within 0 (number body 1 1) 1)]
      (number body 0 1, number body 1 1 == 1)

/-- The four orders of TERMINAL ORDER (R117, R133, R165). -/
inductive Order where
  | endCollection | suspend | resume
  | message (text : List Byte)
  deriving DecidableEq, Repr

/-- A character of a text: a code from 32 to 126 (R165). -/
def textByte (b : Byte) : Bool := within 32 b.toNat 126

/-- R117, R165, R185. The text of a MESSAGE is what the body holds after its two fixed bytes; the other orders have
none. With an order byte that is no order the exact length is not required (log 21). -/
def readOrder (body : List Byte) : Except Nat (Nat × Order) :=
  let order := number body 1 1
  let text := body.drop 2
  if body.length < 2 ∨ (within 1 order 3 ∧ body.length ≠ 2) then .error 0
  else
    checked
      [(1, within 0 (number body 0 1) 127), (2, within 1 order 4),
       (3, if order = 4 then within 1 text.length 40 && text.all textByte else true)]
      (number body 0 1,
        if order = 1 then .endCollection else if order = 2 then .suspend
        else if order = 3 then .resume else .message text)

/-! ### Permits -/

/-- The checks of R83 on the 13 bytes of a record from byte `at_` on, with indices from `index` on. -/
def permitChecks (body : List Byte) (at_ index : Nat) : List (Nat × Bool) :=
  [(index, packedWithin 1 (digits body at_ 4) 99999999), (index + 1, number body (at_ + 4) 2 != 0),
   (index + 2, within 0 (number body (at_ + 6) 2) 65535),
   (index + 3, within (number body (at_ + 6) 2) (number body (at_ + 8) 2) 65535),
   (index + 4, (statusOfCode (number body (at_ + 10) 1)).isSome),
   (index + 5, within 0 (number body (at_ + 11) 2) 1440)]

/-- The record in those 13 bytes (R184). -/
def permitAt (body : List Byte) (at_ : Nat) : PermitFields :=
  { number := (digits body at_ 4).getD 0, zones := BitVec.ofNat 16 (number body (at_ + 4) 2),
    validFrom := number body (at_ + 6) 2, validTo := number body (at_ + 8) 2,
    status := (statusOfCode (number body (at_ + 10) 1)).getD .active, allowance := number body (at_ + 11) 2 }

/-- The checks of `count` records, record after record. -/
def loadChecks (body : List Byte) : Nat → Nat → Nat → List (Nat × Bool)
  | _, _, 0 => []
  | at_, index, count + 1 => permitChecks body at_ index ++ loadChecks body (at_ + 13) (index + 6) count

/-- `count` records. -/
def loadRecords (body : List Byte) : Nat → Nat → List PermitFields
  | _, 0 => []
  | at_, count + 1 => permitAt body at_ :: loadRecords body (at_ + 13) count

/-- R83, R184, R185. -/
def readPermitLoad (body : List Byte) : Except Nat (List PermitFields) :=
  let count := number body 0 1
  if body.length < 1 ∨ (within 1 count 8 ∧ body.length ≠ 1 + 13 * count) then .error 0
  else if within 1 count 8 then checked (loadChecks body 1 2 count) (loadRecords body 1 count)
  else .error 1

/-- An optional field with a presence byte (R181): bad presence, absent, or present with its bytes; and where the next
field begins. -/
inductive Optional where
  | bad
  | absent
  | present (value : Nat)
  deriving DecidableEq, Repr

/-- An optional Binary field of `width` bytes at byte `at_`, and the byte after it. -/
def optionalAt (body : List Byte) (at_ width : Nat) : Optional × Nat :=
  if number body at_ 1 = 0 then (.absent, at_ + 1)
  else if number body at_ 1 = 1 then (.present (number body (at_ + 1) width), at_ + 1 + width)
  else (.bad, at_ + 1)

def Optional.value : Optional → Option Nat
  | .present n => some n
  | _ => none

/-- A field that is absent, or present and passing its check. -/
def Optional.good (o : Optional) (check : Nat → Bool) : Bool :=
  match o with
  | .bad => false
  | .absent => true
  | .present n => check n

/-- R84, R185: the number, four optional fields with presence bytes, and the zone set, 0 when absent. A bad presence byte
ends the reading: the fields after it are not looked at, and the exact length is not required. -/
def readPermitChange (body : List Byte) : Except Nat PermitChange :=
  let numberOk := (1, packedWithin 1 (digits body 0 4) 99999999)
  let st := optionalAt body 4 1
  let al := optionalAt body st.2 2
  let fr := optionalAt body al.2 2
  let till := optionalAt body fr.2 2
  let statusOk := (2, st.1.good fun n => (statusOfCode n).isSome)
  let allowanceOk := (3, al.1.good fun n => within 0 n 1440)
  let fromOk := (4, fr.1.good fun n => within 0 n 65535)
  let tillOk := (5, till.1.good fun n => within (fr.1.value.getD 0) n 65535)
  if body.length ≤ 4 then .error 0
  else if st.1 = .bad then checked [numberOk, statusOk] blank
  else if body.length ≤ st.2 then .error 0
  else if al.1 = .bad then checked [numberOk, statusOk, allowanceOk] blank
  else if body.length ≤ al.2 then .error 0
  else if fr.1 = .bad then checked [numberOk, statusOk, allowanceOk, fromOk] blank
  else if body.length ≤ fr.2 then .error 0
  else if till.1 = .bad then checked [numberOk, statusOk, allowanceOk, fromOk, tillOk] blank
  else if body.length ≠ till.2 + 2 then .error 0
  else
    checked [numberOk, statusOk, allowanceOk, fromOk, tillOk]
      { number := (digits body 0 4).getD 0
        status := st.1.value.bind statusOfCode
        allowance := al.1.value
        validFrom := fr.1.value
        validTo := till.1.value
        zones := if number body till.2 2 = 0 then none else some (BitVec.ofNat 16 (number body till.2 2)) }
where
  blank : PermitChange :=
    { number := 0, status := none, allowance := none, validFrom := none, validTo := none, zones := none }

/-- R85, R86: a permit number alone. -/
def readPermitNumber (body : List Byte) : Except Nat Nat :=
  sized body 4 <| checked [(1, packedWithin 1 (digits body 0 4) 99999999)] ((digits body 0 4).getD 0)

/-- R86: the first number and the most records. -/
def readPermitScan (body : List Byte) : Except Nat (Nat × Nat) :=
  sized body 5 <|
    checked [(1, packedWithin 1 (digits body 0 4) 99999999), (2, within 1 (number body 4 1) 5)]
      ((digits body 0 4).getD 0, number body 4 1)

/-- R92: the referral setting and timeout. -/
def readReferralSet (body : List Byte) : Except Nat (Bool × Nat) :=
  sized body 2 <|
    checked [(1, within 0 (number body 0 1) 1), (2, within 5 (number body 1 1) 60)]
      (number body 0 1 == 1, number body 1 1)

/-- R97. `permitOf` gives the permit number of the referral that holds a number, when one does. The body is 4 bytes, and
13 more when it carries a permit record; a GRANT AND LOAD must carry one (log 20). -/
def readReferralAnswer (permitOf : Nat → Option Nat) (body : List Byte) : Except Nat (Nat × Decision) :=
  let referral := number body 0 1
  let decision := number body 1 1
  let minutes := number body 2 2
  let record := permitAt body 4
  if (body.length ≠ 4 ∧ body.length ≠ 17) ∨ (decision = 1 ∧ body.length ≠ 17) then .error 0
  else
    checked
      ([(1, within 1 referral 255), (2, within 0 decision 2),
        (3, if decision = 0 then within 1 minutes 1440 else minutes == 0)] ++
        (if decision = 1 then
          (4, packedWithin 1 (digits body 4 4) 99999999 &&
            (match permitOf referral with | some p => record.number == p | none => true)) ::
          (permitChecks body 4 4).drop 1
        else [(4, body.length == 4)]))
      (referral, if decision = 0 then .grantOnce minutes else if decision = 1 then .grantAndLoad record else .deny)

/-! ### Cash -/

/-- A lifted-record or round number (R106, R111, R112). -/
def readNumber (body : List Byte) : Except Nat Nat :=
  sized body 2 <| checked [(1, within 1 (number body 0 2) 65535)] (number body 0 2)

/-- R107: the lifted-record number and the counted amount. -/
def readCountEnter (body : List Byte) : Except Nat (Nat × Nat) :=
  sized body 6 <|
    checked [(1, within 1 (number body 0 2) 65535), (2, packedWithin 0 (digits body 2 4) 9999999)]
      (number body 0 2, (digits body 2 4).getD 0)

/-- The checks of a list of one-byte numbers, with indices from `index` on. -/
def listChecks (lo hi : Nat) : Nat → List Byte → List (Nat × Bool)
  | _, [] => []
  | index, b :: rest => (index, within lo b.toNat hi) :: listChecks lo hi (index + 1) rest

/-- R109, R185: the collector code and the terminals. -/
def readRoundOpen (body : List Byte) : Except Nat (Nat × List Nat) :=
  let count := number body 3 1
  let listed := body.drop 4
  if body.length < 4 ∨ (within 1 count 48 ∧ listed.length ≠ count) then .error 0
  else
    checked
      ([(1, (digits body 0 3).isSome), (2, within 1 count 48)] ++ listChecks 0 127 3 listed)
      ((digits body 0 3).getD 0, listed.map BitVec.toNat)

/-- R110: the zone set and the collector code. -/
def readRoundBuild (body : List Byte) : Except Nat (ZoneSet × Nat) :=
  sized body 5 <|
    checked [(1, number body 0 2 != 0), (2, (digits body 2 3).isSome)]
      (BitVec.ofNat 16 (number body 0 2), (digits body 2 3).getD 0)

/-! ### Faults and thresholds -/

/-- The fault classes FAULT CLEAR may name, and at least one of them (R126). -/
def FaultSet.clearable (f : FaultSet) : Bool :=
  (f.forcedDoor || f.printer || f.paperOut || f.coinPath) && !f.silent && !f.boxFull && !f.boxNearFull && !f.paperLow

/-- R126. -/
def readFaultClear (body : List Byte) : Except Nat (Nat × FaultSet) :=
  let named := faultsOfByte (BitVec.ofNat 8 (number body 1 1))
  sized body 2 <| checked [(1, within 0 (number body 0 1) 127), (2, named.clearable)] (number body 0 1, named)

/-- R128. -/
def readThresholds (body : List Byte) : Except Nat Thresholds :=
  sized body 6 <|
    checked
      [(1, within 1 (number body 0 2) 3000),
       (2, within 1 (number body 2 2) 3000 && decide (number body 0 2 ≤ number body 2 2)),
       (3, within 0 (number body 4 2) 2000)]
      { nearFull := number body 0 2, full := number body 2 2, paperLow := number body 4 2 }

/-- R129: the terminal number and the three thresholds; only the terminal number is checked here. -/
def readOverride (body : List Byte) : Except Nat (Nat × Thresholds) :=
  sized body 7 <|
    checked [(1, within 0 (number body 0 1) 127)]
      (number body 0 1, { nearFull := number body 1 2, full := number body 3 2, paperLow := number body 5 2 })

/-- R129: fields 2 to 4 against the terminal's capacities. -/
def checkOverride (boxCapacity paperCapacity : Nat) (t : Thresholds) : Except Nat Thresholds :=
  checked
    [(2, within 1 t.nearFull boxCapacity), (3, within t.nearFull t.full boxCapacity),
     (4, within 0 t.paperLow paperCapacity)]
    t

/-! ### Lines -/

/-- R138, R181: the line and its nine settings. -/
def readLineSet (body : List Byte) : Except Nat (LineNo × LineSettings) :=
  let rate := number body 1 2
  let window := number body 3 1
  let service := number body 5 1
  let period := number body 7 2
  sized body 12 <|
    checked
      [(1, within 0 (number body 0 1) 3),
       (2, rate == 1200 || rate == 2400 || rate == 4800 || rate == 9600 || rate == 19200),
       (3, within 20 window 250 && stepped window 10), (4, within 0 (number body 4 1) 3),
       (5, within 5 service 50 && stepped service 5), (6, (modeOfCode (number body 6 1)).isSome),
       (7, within 0 period 1200 && stepped period 5), (8, (sourceOfCode (number body 9 1)).isSome),
       (9, within 1 (number body 10 1) 255), (10, within 1 (number body 11 1) 8)]
      (Fin.ofNat 4 (number body 0 1),
        { rate := rate, window := window, retries := number body 4 1, serviceLimit := service,
          mode := (modeOfCode (number body 6 1)).getD .single, period := period,
          source := (sourceOfCode (number body 9 1)).getD .clock, interval := number body 10 1,
          leg := number body 11 1 })

/-- A line number alone (R139 to R141, R154, R159). -/
def readLine (body : List Byte) : Except Nat LineNo :=
  sized body 1 <| checked [(1, within 0 (number body 0 1) 3)] (Fin.ofNat 4 (number body 0 1))

/-- R154, R185: the line and the drops. -/
def readPollList (body : List Byte) : Except Nat (LineNo × List Nat) :=
  let count := number body 1 1
  let listed := body.drop 2
  if body.length < 2 ∨ (within 1 count 40 ∧ listed.length ≠ count) then .error 0
  else
    checked
      ([(1, within 0 (number body 0 1) 3), (2, within 1 count 40)] ++ listChecks 1 32 3 listed)
      (Fin.ofNat 4 (number body 0 1), listed.map BitVec.toNat)

/-! ### Terminal frames (R183, R184)

A reader of a REQUEST answers `none` when the length is not one its kind allows (test 4 of R144), and `some none` when the
request is malformed (R64). A reader of an EVENT answers `none` when its length or its parameter fails test 4. -/

/-- R52, R102: the pence of six counts. -/
def Coins.pence (c : Coins) : Nat := 5 * c.p5 + 10 * c.p10 + 20 * c.p20 + 50 * c.p50 + 100 * c.p100 + 200 * c.p200

/-- The sum of the six counts. -/
def Coins.count (c : Coins) : Nat := c.p5 + c.p10 + c.p20 + c.p50 + c.p100 + c.p200

def readQuote (rest : List Byte) : Option (Option TermRequest) :=
  if rest.length = 4 then
    some (if packedWithin 0 (digits rest 0 4) 99999 then some (.quote ((digits rest 0 4).getD 0)) else none)
  else none

def saleCoins (rest : List Byte) : Coins :=
  { p5 := number rest 0 1, p10 := number rest 1 1, p20 := number rest 2 1, p50 := number rest 3 1,
    p100 := number rest 4 1, p200 := number rest 5 1 }

def readSale (rest : List Byte) : Option (Option TermRequest) :=
  if rest.length = 6 ∨ rest.length = 8 then
    some (if within 1 (saleCoins rest).count 255 then
      some (.sale (saleCoins rest) (if rest.length = 8 then some (number rest 6 2) else none)) else none)
  else none

def readSession (rest : List Byte) : Option (Option TermRequest) :=
  if rest.length = 6 then
    some (if packedWithin 1 (digits rest 0 4) 99999999 && within 1 (number rest 4 2) 1440 then
      some (.session ((digits rest 0 4).getD 0) (number rest 4 2)) else none)
  else none

def readCancel (rest : List Byte) : Option (Option TermRequest) :=
  if rest = [] then some (some .cancel) else none

/-- An event kind without a parameter. -/
def readBare (event : Event) (parameter : List Byte) : Option Event :=
  if parameter = [] then some event else none

def readDoorOpen (parameter : List Byte) : Option Event :=
  match parameter with
  | [presence] => if presence = 0#8 then some (.doorOpen none) else none
  | presence :: code =>
    if presence = 1#8 ∧ code.length = 3 then (packed code).map fun c => .doorOpen (some c) else none
  | [] => none

def readPaperLoaded (parameter : List Byte) : Option Event :=
  match parameter with
  | [presence] => if presence = 0#8 then some (.paperLoaded none) else none
  | presence :: count =>
    if presence = 1#8 ∧ count.length = 2 then some (.paperLoaded (some (binary count))) else none
  | [] => none

def readPrintFailed (parameter : List Byte) : Option Event :=
  if parameter.length = 3 then (packed parameter).map .printFailed else none

/-- A frame from a terminal, its kind and body opened (R143, R183). The inner `none` of a request is a malformed one;
`unknown` fails test 4 of R144. -/
inductive TermFrame where
  | idle
  | request (number : Nat) (request : Option TermRequest)
  | event (number : Nat) (event : Event)
  | ack (body : List Byte)
  | unknown
  deriving DecidableEq, Repr

def requestFrame (number : Byte) (read : Option (Option TermRequest)) : TermFrame :=
  match read with
  | some r => .request number.toNat r
  | none => .unknown

def eventFrame (number : Byte) (read : Option Event) : TermFrame :=
  match read with
  | some e => .event number.toNat e
  | none => .unknown

/-- The event of a kind number (R183: numbered from 1 in the order of R74). -/
def readEvent (kind : Nat) (parameter : List Byte) : Option Event :=
  match kind with
  | 1 => readDoorOpen parameter
  | 2 => readBare .doorClosed parameter
  | 3 => readBare .boxReplaced parameter
  | 4 => readBare .paperOut parameter
  | 5 => readPaperLoaded parameter
  | 6 => readBare .printerFault parameter
  | 7 => readPrintFailed parameter
  | 8 => readBare .printerOk parameter
  | 9 => readBare .coinPathFault parameter
  | 10 => readBare .coinPathOk parameter
  | _ => none

/-- The frame of a kind byte and a body (R183). The model's choice (log 33): an IDLE with a body is no frame that an exchange
expects, and fails test 4 of R144. -/
def termFrame (kind : Byte) (body : List Byte) : TermFrame :=
  if kind = 17#8 then (if body = [] then .idle else .unknown)
  else if kind = 18#8 then
    match body with
    | requestKind :: number :: rest =>
      if requestKind = 1#8 then requestFrame number (readQuote rest)
      else if requestKind = 2#8 then requestFrame number (readSale rest)
      else if requestKind = 3#8 then requestFrame number (readSession rest)
      else if requestKind = 4#8 then requestFrame number (readCancel rest)
      else .unknown
    | _ => .unknown
  else if kind = 19#8 then
    match body with
    | number :: eventKind :: parameter => eventFrame number (readEvent eventKind.toNat parameter)
    | _ => .unknown
  else if kind = 20#8 then .ack body
  else .unknown

end Sys2Proof.Machine
end

