-- ==== Sys2Proof/Machine/Flags.lean ====
section
/-! DEFINITION. What is computed from counts and flags: clock readings, fault codes, thresholds in force, re-evaluation,
the condition, report and owed sets, tallies and tickets. -/

namespace Sys2Proof.Machine

open Sys2Proof

/-! ### Readings of the clock (R1, R9, R12) -/

/-- The current minute (R1). -/
def Clock.current (c : Clock) : Moment := { day := c.day, minute := c.second / 60 }

/-- The current time (R1). -/
def Clock.now (c : Clock) : Instant := { day := c.day, second := c.second }

/-- `a` is later than `b` (R25). -/
def Moment.later (a b : Moment) : Bool := decide (b.day < a.day) || (a.day == b.day && decide (b.minute < a.minute))

/-- The clock is held at its last second (R2). -/
def Clock.held (c : Clock) : Bool := c.day == 65535 && c.second == 86399

/-- One second on (R2). -/
def Clock.tick (c : Clock) : Clock :=
  if c.held then c
  else if c.second < 86399 then { c with second := c.second + 1 }
  else { c with day := c.day + 1, second := 0 }

/-- The day type of a day number (R9). -/
def dayTypeOf (calendar : List CalendarEntry) (day : Nat) : DayType :=
  match calendar.find? fun e => e.day == day with
  | some e => e.type
  | none => if day % 7 < 5 then .weekday else if day % 7 = 5 then .saturday else .sunday

/-- The horizon end of a computation that starts on day `d` (R12). -/
def horizonEnd (d : Nat) : Moment :=
  if d ≤ 65533 then { day := d + 2, minute := 0 } else { day := 65535, minute := 1439 }

/-! ### Counters -/

/-- One more, held at `hold` (R57, R168, R173). -/
def countUp (hold n : Nat) : Nat := if n < hold then n + 1 else n

/-- The next number after `last`, from 1 to `top`, wrapping to 1 and passing over numbers in use (R93, R104, R108).
`tries` bounds the search: one more than the numbers in use are enough. -/
def nextFree (top : Nat) (used : List Nat) : Nat → Nat → Nat
  | 0, last => if last < top then last + 1 else 1
  | tries + 1, last =>
    let next := if last < top then last + 1 else 1
    if used.contains next then nextFree top used tries next else next

def nextNumber (top : Nat) (used : List Nat) (last : Nat) : Nat := nextFree top used used.length last

/-! ### Fault sets (R121) -/

def FaultSet.empty : FaultSet :=
  { forcedDoor := false, silent := false, printer := false, paperOut := false, boxFull := false, coinPath := false,
    boxNearFull := false, paperLow := false }

/-- The fault code (R121): the priority of the highest class present, 0 for an empty set. -/
def FaultSet.code (f : FaultSet) : Nat :=
  if f.forcedDoor then 1 else if f.silent then 2 else if f.printer then 3 else if f.paperOut then 4
  else if f.boxFull then 5 else if f.coinPath then 6 else if f.boxNearFull then 7 else if f.paperLow then 8 else 0

/-- The set without the classes of another (R126). -/
def FaultSet.without (f g : FaultSet) : FaultSet :=
  { forcedDoor := f.forcedDoor && !g.forcedDoor, silent := f.silent && !g.silent, printer := f.printer && !g.printer,
    paperOut := f.paperOut && !g.paperOut, boxFull := f.boxFull && !g.boxFull, coinPath := f.coinPath && !g.coinPath,
    boxNearFull := f.boxNearFull && !g.boxNearFull, paperLow := f.paperLow && !g.paperLow }

/-! ### Thresholds and re-evaluation (R127, R130) -/

/-- The thresholds in force at a terminal (R127). -/
def Context.inForce (defaults : Thresholds) (c : Context) : Thresholds :=
  match c.override with
  | some o => o
  | none =>
    let full := min defaults.full c.boxCapacity
    { nearFull := min defaults.nearFull full, full := full, paperLow := min defaults.paperLow c.paperCapacity }

/-- The re-evaluation (R130). -/
def Context.reevaluate (defaults : Thresholds) (c : Context) : Context :=
  let t := c.inForce defaults
  { c with faults := { c.faults with
      boxFull := decide (t.full ≤ c.tally.coinTotal)
      boxNearFull := decide (t.nearFull ≤ c.tally.coinTotal)
      paperLow := decide (c.paperRemaining ≤ t.paperLow) } }

/-! ### The condition (R132) -/

def Context.condition (c : Context) : Condition :=
  if c.collection.isSome then .inCollection
  else if c.suspended then .suspended
  else if c.faults.forcedDoor || c.faults.silent || c.faults.printer || c.faults.paperOut then .outOfService
  else if c.faults.boxFull || c.faults.coinPath then .restricted
  else .inService

/-! ### Report and owed sets (R57, R76) -/

def ReportSet.empty : ReportSet := { condition := false, events := false, held := false, plate := false }

def ReportSet.isEmpty (r : ReportSet) : Bool := !(r.condition || r.events || r.held || r.plate)

def OwedOrders.none : OwedOrders := { condition := false, clock := false, result := false, plate := false }

/-- Whether a kind is owed; a MESSAGE never is (R165). -/
def OwedOrders.has (o : OwedOrders) : OrderKind → Bool
  | .condition => o.condition
  | .clock => o.clock
  | .result => o.result
  | .plate => o.plate
  | .message _ => false

/-- The owed orders with one kind owed or no longer owed. -/
def OwedOrders.set (o : OwedOrders) (kind : OrderKind) (owed : Bool) : OwedOrders :=
  match kind with
  | .condition => { o with condition := owed }
  | .clock => { o with clock := owed }
  | .result => { o with result := owed }
  | .plate => { o with plate := owed }
  | .message _ => o

/-! ### Tallies (R102, R103) -/

def Coins.zero : Coins := { p5 := 0, p10 := 0, p20 := 0, p50 := 0, p100 := 0, p200 := 0 }

def Tally.empty : Tally := { coins := .zero, coinTotal := 0, penceTotal := 0 }

def Coins.add (a b : Coins) : Coins :=
  { p5 := a.p5 + b.p5, p10 := a.p10 + b.p10, p20 := a.p20 + b.p20, p50 := a.p50 + b.p50, p100 := a.p100 + b.p100,
    p200 := a.p200 + b.p200 }

/-- Six counts added and each held at 65,535 (R105). -/
def Coins.addHeld (a b : Coins) : Coins :=
  { p5 := min (a.p5 + b.p5) Config.counterHold, p10 := min (a.p10 + b.p10) Config.counterHold,
    p20 := min (a.p20 + b.p20) Config.counterHold, p50 := min (a.p50 + b.p50) Config.counterHold,
    p100 := min (a.p100 + b.p100) Config.counterHold, p200 := min (a.p200 + b.p200) Config.counterHold }

/-- The coins of a sale added to a tally (R103). -/
def Tally.add (t : Tally) (c : Coins) : Tally :=
  { coins := t.coins.add c, coinTotal := t.coinTotal + c.count, penceTotal := t.penceTotal + c.pence }

/-- The tally is empty: all six counts are 0 (R102). -/
def Tally.isEmpty (t : Tally) : Bool := t.coins == .zero

/-! ### Contexts and tickets -/

def ErrorCounters.zero : ErrorCounters :=
  { parity := 0, framing := 0, noise := 0, overrun := 0, check := 0, protocol := 0, noReply := 0 }

/-- The serial after an advance (R73). -/
def nextSerial (serial : Nat) : Nat := if serial < 999999 then serial + 1 else 1

/-- A commit's step 3 (R124): paper remaining falls by one, PAPER OUT is added at 0, and the thresholds are
re-evaluated. -/
def Context.usePaper (defaults : Thresholds) (c : Context) : Context :=
  let left := c.paperRemaining - 1
  ({ c with
      paperRemaining := left
      faults := { c.faults with paperOut := c.faults.paperOut || left == 0 } } : Context).reevaluate defaults

/-- PAPER LOADED (R124). -/
def Context.loadPaper (defaults : Thresholds) (count : Option Nat) (c : Context) : Context :=
  let left := match count with
    | some n => min n c.paperCapacity
    | none => c.paperCapacity
  ({ c with paperRemaining := left, faults := { c.faults with paperOut := left == 0 } } : Context).reevaluate defaults

/-- A new context (R60), before its first re-evaluation. -/
def Context.create (f : TerminalSet) : Context :=
  { number := f.number, line := f.line, drop := f.drop, zone := f.zone, boxCapacity := f.boxCapacity,
    paperCapacity := f.paperCapacity, paperRemaining := f.paperCapacity, override := none, faults := .empty,
    suspended := false, collection := none, serial := 0, last := none, lastEvent := none, events := [],
    reports := .empty, owed := .none, plateVersion := none, inFlight := none, referral := none, held := none,
    errors := .zero, tally := .empty }

/-- The effect of an event the Condition Monitor owns (R122, R124); the events of Cash Accounts have none here. -/
def Context.sense (defaults : Thresholds) (event : Event) (c : Context) : Context :=
  match event with
  | .printerFault => { c with faults := { c.faults with printer := true } }
  | .printFailed _ => { c with faults := { c.faults with printer := true } }
  | .printerOk => { c with faults := { c.faults with printer := false } }
  | .coinPathFault => { c with faults := { c.faults with coinPath := true } }
  | .coinPathOk => { c with faults := { c.faults with coinPath := false } }
  | .paperOut => { c with faults := { c.faults with paperOut := true } }
  | .paperLoaded count => c.loadPaper defaults count
  | .doorOpen _ => c
  | .doorClosed => c
  | .boxReplaced => c

/-! ### Permits (R80) -/

/-- The effective used minutes for day `e`. -/
def Permit.effectiveUsed (p : Permit) (e : Nat) : Nat := if p.usedDay = some e then p.usedMinutes else 0

/-- The remaining allowance for day `e`, 0 when the difference is below 0. -/
def Permit.remaining (p : Permit) (e : Nat) : Nat := p.allowance - p.effectiveUsed e

/-- The last session is running: its expiry is later than the current time. -/
def Permit.running (p : Permit) (now : Instant) : Bool :=
  match p.lastSession with
  | none => false
  | some l =>
    decide (now.day < l.expiry.day) || (l.expiry.day == now.day && decide (now.second < l.expiry.minute * 60))

/-- The three readings of PERMIT GET (R86). -/
def Permit.reading (p : Permit) (now : Instant) : PermitReading :=
  { record := p, effectiveUsed := p.effectiveUsed now.day, remaining := p.remaining now.day, running := p.running now }

/-- A zone set holds a zone. -/
def zoneIn (set : ZoneSet) (zone : Zone) : Bool := set.getLsbD zone.val

/-- A new record (R79). -/
def PermitFields.record (f : PermitFields) : Permit :=
  { number := f.number, zones := f.zones, validFrom := f.validFrom, validTo := f.validTo, status := f.status,
    allowance := f.allowance, usedDay := none, usedMinutes := 0, lastSession := none, claim := none }

/-- A replacement (R83): the host's fields change, the rest is kept. -/
def Permit.replace (p : Permit) (f : PermitFields) : Permit :=
  { p with zones := f.zones, validFrom := f.validFrom, validTo := f.validTo, status := f.status,
           allowance := f.allowance }

/-- A PERMIT CHANGE's record (R84): the present fields replace the record's values. -/
def Permit.change (p : Permit) (c : PermitChange) : Permit :=
  { p with status := c.status.getD p.status, allowance := c.allowance.getD p.allowance,
           validFrom := c.validFrom.getD p.validFrom, validTo := c.validTo.getD p.validTo,
           zones := c.zones.getD p.zones }

end Sys2Proof.Machine
end

