-- ==== Sys2Proof/Machine/Ops.lean ====
section
/-! DEFINITION. The named operations every block shares: the tables, the notice queue and ATTENTION, the condition of a
terminal, the orders asked of a Line Engine and its choice of the next exchange, the host link and its replies. -/

namespace Sys2Proof.Machine

open Sys2Proof

/-! ### Lines -/

def State.line (s : State) (l : LineNo) : Line := s.lines.get l

/-- The line with a change made to it. -/
def State.onLine (s : State) (l : LineNo) (f : Line → Line) : State :=
  { s with lines := s.lines.set l (f (s.line l)) }

/-- A change to each of the four lines, written out so that the kernel can evaluate it. -/
def mapLines (f : Line → Line) (lines : Vector Line 4) : Vector Line 4 :=
  #v[f (lines.get 0), f (lines.get 1), f (lines.get 2), f (lines.get 3)]

/-- STOPPED or STOPPING: the line takes no new work (R141). -/
def Line.halted (L : Line) : Bool := L.state == .stopped || L.state == .stopping

/-! ### Terminal contexts -/

/-- The context of a terminal number, if it is configured (R57). -/
def State.context (s : State) (n : Nat) : Option Context := s.contexts.find? fun c => c.number == n

/-- A change to one terminal's context. -/
def State.onContext (s : State) (n : Nat) (f : Context → Context) : State :=
  { s with contexts := s.contexts.map fun c => if c.number = n then f c else c }

/-- A new context at its place in ascending terminal number. -/
def insertContext (c : Context) : List Context → List Context
  | [] => [c]
  | d :: rest => if c.number < d.number then c :: d :: rest else d :: insertContext c rest

/-- The condition of a terminal (R132). -/
def State.condition (s : State) (n : Nat) : Condition :=
  match s.context n with
  | none => .unconfigured
  | some c => c.condition

/-- The configured terminal at a line and drop. -/
def State.atDrop (s : State) (l : LineNo) (drop : Nat) : Option Context :=
  s.contexts.find? fun c => c.line == l && c.drop == drop

/-- The terminal's Line Engine has an exchange with it in progress, a chain's turnarounds included (R145, R164). -/
def Line.busyWith (L : Line) (n : Nat) : Bool :=
  (match L.exchange with | some e => e.terminal == n | none => false) ||
  (match L.chain with | some c => c.terminal == n | none => false)

/-! ### Banks (R14, R17) -/

def Tariffs.bank (t : Tariffs) : BankLetter → Bank
  | .a => t.bankA
  | .b => t.bankB

def BankLetter.other : BankLetter → BankLetter
  | .a => .b
  | .b => .a

/-- The staged bank's letter. -/
def Tariffs.staged (t : Tariffs) : BankLetter := t.active.other

def Tariffs.setBank (t : Tariffs) (letter : BankLetter) (bank : Bank) : Tariffs :=
  match letter with
  | .a => { t with bankA := bank }
  | .b => { t with bankB := bank }

/-- A copy of one slot (R17). -/
def Tariffs.copy (t : Tariffs) (letter : BankLetter) (zone : Zone) : TariffCopy :=
  { letter := letter, version := (t.bank letter).version, tariff := (t.bank letter).slots.get zone }

/-! ### The notice queue and ATTENTION (R173, R174) -/

/-- The one place where the queue changes: ATTENTION follows it (R174). -/
def State.setNotices (s : State) (queue : List Notice) : State :=
  { s with notices := queue, attention := !queue.isEmpty }

/-- One more occurrence of a queued part-level kind, or a new entry at the end (R173). -/
def noticeList (kind : NoticeKind) : List Notice → List Notice
  | [] => [{ kind := kind, count := 1 }]
  | n :: rest =>
    if n.kind = kind then { n with count := countUp Config.noticeHold n.count } :: rest
    else n :: noticeList kind rest

/-- A part-level notice (R173). -/
def State.notice (s : State) (kind : NoticeKind) : State := s.setNotices (noticeList kind s.notices)

/-- Entries that leave the queue without being taken (R176). -/
def State.dropNotices (s : State) (gone : NoticeKind → Bool) : State :=
  s.setNotices (s.notices.filter fun n => !gone n.kind)

/-- Members added to a terminal's pending report set; when it was empty its entry joins the queue (R76). -/
def State.report (s : State) (n : Nat) (add : ReportSet → ReportSet) : State :=
  match s.context n with
  | none => s
  | some c =>
    let s' := s.onContext n fun c => { c with reports := add c.reports }
    if c.reports.isEmpty && !(add c.reports).isEmpty then
      s'.setNotices (s'.notices ++ [{ kind := .terminal n, count := 1 }])
    else s'

/-! ### Sending on a line (R142, R145) -/

/-- The Line Engine begins to drive the line with the frame that waits, unless the turnaround is still running; a POLL or
ORDER uses a try when its transmission begins. -/
def Line.transmit (L : Line) : Line :=
  if L.turnaround then L
  else
    match L.exchange with
    | none => L
    | some e =>
      if e.phase = .send then { L with driving := true, exchange := some { e with triesUsed := e.triesUsed + 1 } }
      else if e.phase = .answer then { L with driving := true }
      else L

/-- An exchange begins (R145): the line becomes AWAIT REPLY. A POLL to a SILENT terminal has one try. The model's choice (log 37):
it begins, and its content is read, when its frame is chosen, and the turnaround delays its transmission alone, where R149 and
R163 have it begin after the turnaround. -/
def State.beginExchange (s : State) (l : LineNo) (c : Context) (frame : SentFrame) : State :=
  s.onLine l fun L =>
    ({ L with
        state := .awaitReply
        exchange := some
          { terminal := c.number, drop := c.drop, frame := frame,
            triesAllowed := if frame = .poll && c.faults.silent then 1 else 1 + L.settings.retries,
            triesUsed := 0, phase := .send, taken := none, answer := none } } : Line).transmit

/-- A block of a plate (R28). -/
def plateBlock (zone : Zone) (copy : TariffCopy) (block : Nat) : PlateBlock :=
  match copy.tariff with
  | none =>
    { zone := zone, bands := [], notTariffed := true, tail := if block = 4 then some (0, 0, copy.version) else none }
  | some t =>
    { zone := zone
      bands := if block = 1 then t.weekday else if block = 2 then t.saturday else if block = 3 then t.sunday else t.special
      notTariffed := false
      tail := if block = 4 then some (t.minimumCharge, t.maximumStay, copy.version) else none }

/-- The exchange of one block of a chain (R164). -/
def State.beginBlock (s : State) (l : LineNo) (c : Context) (chain : Chain) (block : Nat) : State :=
  s.beginExchange l c (.order (.plate block (plateBlock chain.zone chain.copy block)))

/-- The exchange of a directed entry that has left the queue. Its content is read here, from its owner (R145, R160). -/
def State.beginDirected (s : State) (l : LineNo) (c : Context) (kind : OrderKind) : State :=
  match kind with
  | .condition => s.beginExchange l c (.order (.condition c.condition c.faults.code))
  | .clock => s.beginExchange l c (.order (.clock s.clock.now))
  | .result => s.beginExchange l c (.order (.result c.held))
  | .message text => s.beginExchange l c (.order (.message text))
  | .plate =>
    let chain : Chain :=
      { terminal := c.number, zone := c.zone, copy := s.tariffs.copy s.tariffs.active c.zone, acked := 0 }
    (s.onLine l fun L => { L with chain := some chain }).beginBlock l c chain 1

/-! ### The sweep (R155 to R158) -/

/-- The earliest start of the next CONTINUOUS pass has been reached when the pass ends (R157): an EARLIEST_START_REACHED has
told so since entry 1 was taken, or the sweep period is 0 and the pass made an exchange, so that the earliest start is the
pass start itself (log 4). -/
def Line.earliestStart (L : Line) : Bool := L.earliestReached || (L.settings.period == 0 && L.madeExchange)

/-- What the end of an entry does to the sweep, once its exchange has ended or it was passed over: a CONTINUOUS pass that
has taken its last entry ends (R157); a PACED leg that has taken its last entry ends (R158). The flag says that a SWEEP
COMPLETE is noted. -/
def Line.entryEnded (L : Line) : Line × Bool :=
  match L.settings.mode with
  | .single => (L, false)
  | .continuous =>
    if L.pass = .running ∧ L.pollList.length < L.position then
      ({ L with
          pass := if L.earliestStart then .running else .waiting
          position := 1, passRecord := [], madeExchange := false, earliestReached := false }, false)
    else (L, false)
  | .paced =>
    match L.leg with
    | .running left =>
      if L.pollList.length < L.position then
        ({ L with leg := .none, position := 1, passRecord := [], madeExchange := false, pass := .none }, true)
      else if left = 0 then ({ L with leg := .none }, false)
      else (L, false)
    | .none => (L, false)
    | .pending => (L, false)

def State.entryEnded (s : State) (l : LineNo) : State :=
  let next := (s.line l).entryEnded
  let s' := s.onLine l fun _ => next.1
  if next.2 then s'.notice (.sweepComplete l) else s'

/-- The sweep has a position to take (R163 step 3). -/
def Line.sweepReady (L : Line) : Bool :=
  match L.settings.mode with
  | .paced => L.leg != .none
  | .single => L.pass == .running
  | .continuous => L.pass == .running

/-- An entry is taken: the position advances, the leg of a PACED line has one entry fewer to take, and entry 1 starts the pass
(R155, R157, R158). -/
def Line.takeEntry (L : Line) (elapsed : Nat) : Line :=
  let first := L.position == 1
  { L with
    position := L.position + 1
    passStart := if first then elapsed else L.passStart
    earliestReached := if first then false else L.earliestReached
    pass := if L.settings.mode = .paced && first then .running else L.pass
    leg := if L.settings.mode = .paced then
        match L.leg with
        | .pending => .running (L.settings.leg - 1)
        | .running left => .running (left - 1)
        | .none => .none
      else L.leg }

/-- The choice of the next exchange (R163). `fuel` bounds the entries passed over one after another. -/
def State.chooseWith : Nat → State → LineNo → State
  | 0, s, _ => s
  | fuel + 1, s, l =>
    let L := s.line l
    match L.chain.filter fun c => decide (1 ≤ c.acked ∧ c.acked ≤ 3) with
    | some chain =>
      match s.context chain.terminal with
      | some c => s.beginBlock l c chain (chain.acked + 1)
      | none => chooseWith fuel (s.onLine l fun L => { L with chain := none }) l
    | none =>
      match L.directed with
      | entry :: rest =>
        let s' := s.onLine l fun L => { L with directed := rest }
        match s.context entry.terminal with
        | some c => s'.beginDirected l c entry.kind
        | none => chooseWith fuel s' l
      | [] =>
        if L.sweepReady then
          match L.pollList[L.position - 1]? with
          | none =>
            -- the end of the list: a SINGLE pass is over (R156)
            if L.settings.mode = .single then
              chooseWith fuel
                ((s.onLine l fun L =>
                  { L with pass := .none, position := 1, passRecord := [], madeExchange := false }).notice (.sweepComplete l)) l
            else s.onLine l fun L => { L with state := .idle }
          | some drop =>
            let s' := s.onLine l fun L => L.takeEntry s.elapsed
            match s'.atDrop l drop with
            | none => chooseWith fuel (s'.entryEnded l) l
            | some c =>
              if c.faults.silent && L.passRecord.contains c.number then chooseWith fuel (s'.entryEnded l) l
              else
                (s'.onLine l fun L =>
                  { L with passRecord := L.passRecord ++ [c.number], madeExchange := true }).beginExchange l c .poll
        else s.onLine l fun L => { L with state := .idle }

/-- The choice, with room to pass over every entry of a pass and of the next, and every directed entry. -/
def State.choose (s : State) (l : LineNo) : State :=
  s.chooseWith (2 * (s.line l).pollList.length + (s.line l).directed.length + 3) l

/-- An IDLE line that is given work chooses at once (R163). -/
def State.chooseIfIdle (s : State) (l : LineNo) : State :=
  if (s.line l).state = .idle then s.choose l else s

/-! ### Orders (R161, R162) -/

/-- The directed queue holds an entry of this kind for the terminal. -/
def Line.holds (L : Line) (n : Nat) (kind : OrderKind) : Bool :=
  L.directed.any fun d => d.terminal == n && d.kind == kind

def State.owe (s : State) (n : Nat) (kind : OrderKind) : State :=
  s.onContext n fun c => { c with owed := c.owed.set kind true }

/-- A block asks the Line Engine of the terminal's line for an automatic order: the first line of R161's table that
applies. -/
def State.askOrder (s : State) (n : Nat) (kind : OrderKind) : State :=
  match s.context n with
  | none => s
  | some c =>
    let L := s.line c.line
    if L.holds n kind then s
    else if c.owed.has kind then s
    else if c.faults.silent then s.owe n kind
    else if L.halted then s.owe n kind
    else if Config.directedCapacity ≤ L.directed.length then s.owe n kind
    else
      (s.onLine c.line fun L =>
        { L with directed := L.directed ++ [{ terminal := n, kind := kind }] }).chooseIfIdle c.line

/-- One owed kind at the end of a good POLL exchange (R162): it is appended while there is a place. A kind whose entry is
queued already is met by that entry, since no two may stand for one terminal (R160; log 12). -/
def State.queueOwedKind (s : State) (n : Nat) (kind : OrderKind) : State :=
  match s.context n with
  | none => s
  | some c =>
    if c.owed.has kind then
      let L := s.line c.line
      let met := s.onContext n fun c => { c with owed := c.owed.set kind false }
      if L.holds n kind then met
      else if L.directed.length < Config.directedCapacity then
        met.onLine c.line fun L => { L with directed := L.directed ++ [{ terminal := n, kind := kind }] }
      else s
    else s

/-- The owed orders are queued in R162's order. -/
def State.queueOwed (s : State) (n : Nat) : State :=
  (((s.queueOwedKind n .condition).queueOwedKind n .clock).queueOwedKind n .result).queueOwedKind n .plate

/-! ### Acts on a terminal and its condition (R121, R132, R134) -/

/-- One whole act on a context. When the condition after it differs from the condition before it, CONDITION joins the
pending report set and a CONDITION order is asked for. -/
def State.act (s : State) (n : Nat) (f : Context → Context) : State :=
  let s' := s.onContext n f
  if s'.condition n = s.condition n then s'
  else (s'.report n fun r => { r with condition := true }).askOrder n .condition

/-! ### The end of an exchange (R146, R150) -/

/-- An exchange ends. On a STOPPING line the chain that stands is abandoned and owed (R141, R164); otherwise the sweep and
the directed queue are told, and the next exchange is chosen. -/
def State.endExchange (s : State) (l : LineNo) (goodPoll : Option Nat) : State :=
  let ended := s.onLine l fun L => { L with exchange := none, driving := false }
  if (s.line l).state = .stopping then
    let stopped := ended.onLine l fun L => { L with state := .stopped, chain := none }
    match (s.line l).chain with
    | some chain => stopped.owe chain.terminal .plate
    | none => stopped
  else
    let queued := match goodPoll with
      | some n => ended.queueOwed n
      | none => ended
    (queued.entryEnded l).choose l

/-- What becomes of the frame of a failed exchange (R146). -/
def State.failedFrame (s : State) (l : LineNo) (e : Exchange) : State :=
  match e.frame with
  | .poll => s
  | .order (.condition _ _) => s.owe e.terminal .condition
  | .order (.clock _) => s.owe e.terminal .clock
  | .order (.result _) => s.owe e.terminal .result
  | .order (.plate _ _) => (s.onLine l fun L => { L with chain := none }).owe e.terminal .plate
  | .order (.message _) => s

/-- An exchange with no tries left has failed (R146). -/
def State.failExchange (s : State) (l : LineNo) (e : Exchange) : State :=
  (((s.onContext e.terminal fun c =>
      { c with errors := { c.errors with noReply := countUp Config.counterHold c.errors.noReply } }).act e.terminal
        fun c => { c with faults := { c.faults with silent := true } }).failedFrame l e).endExchange l none

/-- A try with no reply, or with a rejected one (R146): with tries left the exchange goes on as `again` has it, else it has
failed. -/
def State.noReply (s : State) (l : LineNo) (e : Exchange) (again : Line → Line) : State :=
  if e.triesUsed < e.triesAllowed then s.onLine l again else s.failExchange l e

/-- The resend after a window that ran out (R146): the phase becomes SEND at once. -/
def Exchange.resend (e : Exchange) (L : Line) : Line :=
  ({ L with exchange := some { e with phase := .send } } : Line).transmit

/-- The exchange after a rejected frame, until the turnaround has passed and the frame is sent again (R146): the phase is the
RECEIVE in which the frame was taken to its end (R145; log 38). -/
def Exchange.awaitResend (e : Exchange) (L : Line) : Line := { L with exchange := some { e with phase := .receive } }

/-! ### The answer to a terminal request (R148) -/

/-- What the exchange took from the terminal is the request of this number. -/
def FromTerminal.isRequest (t : Option FromTerminal) (request : Nat) : Bool :=
  match t with
  | some (.request number _) => number == request
  | some (.event _ _) => false
  | none => false

/-- The exchange passes to its ANSWER phase with an answer to a request or event, which is sent after the turnaround (R147,
R148). -/
def Line.answer (L : Line) (e : Exchange) (number : Nat) (answer : Answer) : Line :=
  ({ L with
      state := if L.state = .stopping then .stopping else .awaitReply
      exchange := some { e with phase := .answer, answer := some (number, answer) } } : Line).transmit

/-- The Terminal Table hands the line the answer to a request. A line whose exchange does not wait for it discards it. -/
def State.handAnswer (s : State) (n request : Nat) (answer : Answer) : State :=
  match s.context n with
  | none => s
  | some c =>
    match (s.line c.line).exchange with
    | none => s
    | some e =>
      if e.terminal = n ∧ e.phase = .engine ∧ FromTerminal.isRequest e.taken request then
        s.onLine c.line fun L => L.answer e request answer
      else s

/-- The request in flight is removed and its answer handed to the line (R58). -/
def State.finish (s : State) (n request : Nat) (answer : Answer) : State :=
  (s.onContext n fun c => { c with inFlight := none }).handAnswer n request answer

/-- The held result is set, whichever block sets it, and a RESULT order is asked for (R72). -/
def State.hold (s : State) (n : Nat) (held : HeldResult) : State :=
  (s.onContext n fun c => { c with held := some held }).askOrder n .result

/-! ### The host link (R168 to R172) -/

def State.onLink (s : State) (f : Link → Link) : State := { s with link := f s.link }

/-- The link takes frames: the part is supplied, no start is under way (R169) and none is due (R179). -/
def State.linkOpen (s : State) : Bool := s.mainSupply && !s.link.starting && !s.link.warmStartDue

/-- A reply joins the transmit list, or is sent at once when nothing is (R171). -/
def Link.push (k : Link) (reply : Reply) : Link :=
  match k.sending with
  | none => { k with sending := some reply }
  | some _ => { k with waiting := k.waiting ++ [reply] }

/-- The reply to the outstanding request, under its tag (R172). -/
def State.reply (s : State) (body : ReplyBody) : State :=
  s.onLink fun k =>
    match k.outstanding with
    | none => k
    | some o => k.push { tag := o.tag, kind := o.kind, body := body }

def State.done (s : State) (fields : DoneFields) : State := s.reply (.done fields)

/-- A frame accepted while a request is outstanding (R171). -/
def Link.overlap (k : Link) (tag kind : Byte) : Link :=
  if Config.overlapReplies ≤ (k.waiting.filter fun r => r.body == .overlap).length then
    { k with dropped := countUp Config.counterHold k.dropped }
  else k.push { tag := tag, kind := kind, body := .overlap }

/-- An accepted frame (R170): answered OVERLAP while a request is outstanding, else it becomes the outstanding request and
is taken. The receiver is HUNTING again (R169). -/
def State.acceptFrame (s : State) (tag kind : Byte) (take : State → State) : State :=
  if s.linkOpen then
    let s' := s.onLink fun k => { k with receiver := .hunting }
    match s.link.outstanding with
    | some _ => s'.onLink fun k => k.overlap tag kind
    | none => take (s'.onLink fun k => { k with outstanding := some { tag := tag, kind := kind } })
  else s

/-- A request whose fields have been read: a bad one is refused with FIELD and its index, else its owner acts. -/
def State.owned {α : Type} (s : State) (fields : Except Nat α) (act : α → State → State) : State :=
  match fields with
  | .error index => s.reply (.field index)
  | .ok a => act a s

/-- A host request of a kind (R170, R172, R185). -/
def State.request {α : Type} (s : State) (tag : Byte) (kind : Nat) (read : State → Except Nat α)
    (act : α → State → State) : State :=
  s.acceptFrame tag (BitVec.ofNat 8 kind) fun s => s.owned (read s) act

/-- A command of the part or of a terminal: without the main supply the part does not work (R178; log 6). -/
def State.working (s : State) (act : State → State) : State := if s.mainSupply then act s else s

end Sys2Proof.Machine
end

