-- ==== Sys2Proof/Machine/Banks.lean ====
section
/-! DEFINITION. The Tariff Store (R14 to R30): the switchover, the presentation of a minute, and the meanings of its
seven requests. -/

namespace Sys2Proof.Machine

open Sys2Proof

def State.onTariffs (s : State) (f : Tariffs → Tariffs) : State := { s with tariffs := f s.tariffs }

/-- An order of one kind is asked for at every configured terminal, in ascending terminal number (R5, R29). -/
def State.askAll (s : State) (kind : OrderKind) : State :=
  (s.contexts.map (·.number)).foldl (fun s n => s.askOrder n kind) s

/-- Steps 1 to 3 of a switchover (R26). -/
def Tariffs.switch (t : Tariffs) : Tariffs :=
  let renewed : Bank := { t.bank t.staged with version := ((t.bank t.active).version + 1) % 65536 }
  { t.setBank t.staged renewed with active := t.staged, schedule := none }

/-- The switchover (R26). -/
def State.switchover (s : State) : State :=
  ((s.onTariffs Tariffs.switch).askAll .plate).notice .switchover

/-- A minute is presented to the Tariff Store (R25). The model's choice (log 35): an entry that a SWITCH AT put in place just
before, for a time later than the presented minute, waits as R25 has it, where the table of R27 has the switchover clear it. -/
def State.presentMinute (s : State) : State :=
  match s.tariffs.schedule with
  | none => s
  | some m => if m.later s.clock.current then s else s.switchover

/-- A slot of a bank takes a tariff or becomes absent. -/
def Tariffs.write (t : Tariffs) (letter : BankLetter) (zone : Zone) (tariff : Option ZoneTariff) : Tariffs :=
  t.setBank letter { t.bank letter with slots := (t.bank letter).slots.set zone tariff }

/-- TARIFF PUT (R18). -/
def State.tariffPut (s : State) (p : TariffPut) : State :=
  if p.bank = s.tariffs.active then s.reply .state
  else (s.onTariffs fun t => t.write p.bank p.zone (some p.tariff)).done .plain

def execTariffPut (tag : Byte) (body : List Byte) (s : State) : Host.Outcome State Fault Refusal :=
  .next (s.request tag 6 (fun _ => readTariffPut body) fun p s => s.tariffPut p)

/-- TARIFF DROP (R19). -/
def State.tariffDrop (s : State) (bank : BankLetter) (zone : Zone) : State :=
  if bank = s.tariffs.active then s.reply .state
  else if ((s.tariffs.bank bank).slots.get zone).isNone then s.reply .noSuch
  else (s.onTariffs fun t => t.write bank zone none).done .plain

def execTariffDrop (tag : Byte) (body : List Byte) (s : State) : Host.Outcome State Fault Refusal :=
  .next (s.request tag 7 (fun _ => readSlot body) fun a s => s.tariffDrop a.1 a.2)

/-- TARIFF GET (R20), from one copy. -/
def State.tariffGet (s : State) (bank : BankLetter) (zone : Zone) : State :=
  let copy := s.tariffs.copy bank zone
  s.done (.tariff s.tariffs.active copy.version s.tariffs.schedule copy.tariff)

def execTariffGet (tag : Byte) (body : List Byte) (s : State) : Host.Outcome State Fault Refusal :=
  .next (s.request tag 8 (fun _ => readSlot body) fun a s => s.tariffGet a.1 a.2)

/-- BANK COPY (R21): the staged bank keeps its version. -/
def Tariffs.copyBank (t : Tariffs) : Tariffs :=
  t.setBank t.staged { t.bank t.staged with slots := (t.bank t.active).slots }

def execBankCopy (tag : Byte) (body : List Byte) (s : State) : Host.Outcome State Fault Refusal :=
  .next (s.request tag 9 (fun _ => readNothing body) fun _ s => (s.onTariffs Tariffs.copyBank).done .plain)

/-- SWITCH AT (R22). -/
def State.switchAt (s : State) (m : Moment) : State :=
  if s.clock.valid ∧ m.day < s.clock.day then s.reply (.field 1)
  else if s.clock.valid ∧ m.later s.clock.current = false then s.reply (.field 2)
  else (s.onTariffs fun t => { t with schedule := some m }).done .plain

def execSwitchAt (tag : Byte) (body : List Byte) (s : State) : Host.Outcome State Fault Refusal :=
  .next (s.request tag 10 (fun _ => readSwitchAt body) fun m s => s.switchAt m)

/-- SWITCH NOW (R23). -/
def State.switchNow (s : State) : State :=
  if s.clock.valid then s.switchover.done .plain else s.reply .state

def execSwitchNow (tag : Byte) (body : List Byte) (s : State) : Host.Outcome State Fault Refusal :=
  .next (s.request tag 11 (fun _ => readNothing body) fun _ s => s.switchNow)

/-- SWITCH CANCEL (R24). -/
def State.switchCancel (s : State) : State :=
  match s.tariffs.schedule with
  | none => s.reply .noSuch
  | some _ => (s.onTariffs fun t => { t with schedule := none }).done .plain

def execSwitchCancel (tag : Byte) (body : List Byte) (s : State) : Host.Outcome State Fault Refusal :=
  .next (s.request tag 12 (fun _ => readNothing body) fun _ s => s.switchCancel)

end Sys2Proof.Machine
end

