-- ==== Sys2Proof/Machine/Cash.lean ====
section
/-! DEFINITION. Cash Accounts (R101 to R119): lifts, lifted records, rounds and collections, with the meanings of LIFT
LIST, COUNT ENTER, ROUND OPEN, ROUND BUILD, ROUND CLOSE and ROUND GET. -/

namespace Sys2Proof.Machine

open Sys2Proof

def State.onCash (s : State) (f : Cash → Cash) : State := { s with cash := f s.cash }

/-! ### Lifts (R104, R105) -/

/-- A change to the newest record of a terminal: the one made later stands later in the list. -/
def onNewest (n : Nat) (f : Lifted → Lifted) : List Lifted → List Lifted
  | [] => []
  | r :: rest =>
    if r.terminal = n ∧ (rest.any fun q => q.terminal == n) = false then f r :: rest else r :: onNewest n f rest

/-- The merge of a lift into a record (R105). -/
def Lifted.merge (r : Lifted) (t : Tally) (scheduled : Bool) : Lifted :=
  { r with
    coins := r.coins.addHeld t.coins
    expected := min (r.expected + t.penceTotal) Config.penceHold
    unscheduled := r.unscheduled || !scheduled
    merged := true }

/-- The lifted record a lift of this terminal makes, or the merge it makes (R104 steps 1 to 3, R105). -/
def Cash.lift (k : Cash) (c : Context) (now : Instant) : Cash :=
  if Config.uncountedRecords ≤ (k.lifted.filter fun r => r.terminal == c.number).length then
    { k with lifted := onNewest c.number (fun r => r.merge c.tally c.collection.isSome) k.lifted }
  else
    let number := nextNumber 65535 (k.lifted.map (·.number)) k.lastLifted
    { k with
      lastLifted := number
      lifted := k.lifted ++
        [{ number := number, terminal := c.number, round := c.collection, coins := c.tally.coins,
           expected := c.tally.penceTotal, lifted := now, unscheduled := c.collection.isNone, merged := false }] }

/-! ### Rounds (R108, R113 to R116) -/

/-- The OPEN round that names a terminal. -/
def Cash.roundOf (k : Cash) (n : Nat) : Option Round :=
  k.rounds.find? fun r => r.isOpen && r.entries.any fun e => e.terminal == n

def Cash.roundNumbered (k : Cash) (number : Nat) : Option Round := k.rounds.find? fun r => r.number == number

/-- The state of a terminal's entry in a round. -/
def Round.entryState (r : Round) (n : Nat) : Option EntryState :=
  (r.entries.find? fun e => e.terminal == n).map (·.state)

/-- A change to the round of a number. -/
def Cash.onRound (k : Cash) (number : Nat) (f : Round → Round) : Cash :=
  { k with rounds := k.rounds.map fun r => if r.number = number then f r else r }

/-- A terminal's entry passes to another state. -/
def Round.setEntry (r : Round) (n : Nat) (state : EntryState) : Round :=
  { r with entries := r.entries.map fun e => if e.terminal = n then { e with state := state } else e }

/-- DOOR OPEN (R113): authorised, or a forced door. -/
def State.doorOpened (s : State) (n : Nat) (code : Option Nat) : State :=
  let forced := s.act n fun c => { c with faults := { c.faults with forcedDoor := true } }
  match s.cash.roundOf n with
  | none => forced
  | some r =>
    if code = some r.code ∧ (r.entryState n = some .due ∨ r.entryState n = some .opened) then
      (s.onCash fun k => k.onRound r.number fun (q : Round) => q.setEntry n EntryState.opened).act n fun c =>
        { c with collection := some r.number }
    else forced

/-- BOX REPLACED (R114): a lift in every case, outside collection with FORCED DOOR in the same act. -/
def State.boxLifted (s : State) (n : Nat) : State :=
  match s.context n with
  | none => s
  | some c =>
    let lifted := s.onCash fun k => k.lift c s.clock.now
    let entered := match c.collection with
      | none => lifted
      | some number =>
        lifted.onCash fun k => k.onRound number fun (r : Round) =>
          if r.entryState n = some EntryState.opened then r.setEntry n EntryState.lifted else r
    entered.act n fun c =>
      ({ c with
          tally := .empty
          faults := { c.faults with forcedDoor := c.faults.forcedDoor || c.collection.isNone } } : Context).reevaluate
        s.defaults

/-- A terminal is in collection under a round. -/
def State.inCollectionUnder (s : State) (number : Nat) : Bool :=
  s.contexts.any fun c => c.collection == some number

/-- The look at a round when a collection under it has ended (R116). -/
def State.lookAtRound (s : State) (number : Nat) : State :=
  match s.cash.roundNumbered number with
  | none => s
  | some r =>
    if r.isOpen ∧ (r.entries.all fun e => e.state == .lifted) = true ∧ s.inCollectionUnder number = false then
      (s.onCash fun k =>
        { k.onRound number (fun r => { r with isOpen := false }) with lastSelfClosed := some number }).notice
        .roundComplete
    else s

/-- The end of a collection (R115, R117); nothing where the terminal is not in collection. -/
def State.collectionEnded (s : State) (n : Nat) : State :=
  match s.context n with
  | none => s
  | some c =>
    match c.collection with
    | none => s
    | some number => (s.act n fun c => { c with collection := none }).lookAtRound number

/-- How many rounds are OPEN. -/
def Cash.openCount (k : Cash) : Nat := (k.rounds.filter (·.isOpen)).length

/-- The table without the CLOSED record opened earliest. -/
def dropClosed : List Round → List Round
  | [] => []
  | r :: rest => if r.isOpen then r :: dropClosed rest else rest

/-- The next round number (R108). -/
def Cash.nextRound (k : Cash) : Nat := nextNumber 65535 (k.rounds.map (·.number)) k.lastRound

/-- A round is opened over a list of terminals (R108); a table of 4 records loses the CLOSED one opened earliest. -/
def Cash.openRound (k : Cash) (code : Nat) (terminals : List Nat) : Cash :=
  { k with
    lastRound := k.nextRound
    rounds := (if Config.roundCapacity ≤ k.rounds.length then dropClosed k.rounds else k.rounds) ++
      [{ number := k.nextRound, code := code, isOpen := true,
         entries := terminals.map fun n => { terminal := n, state := .due } }] }

/-! ### The host's requests -/

/-- LIFT LIST (R106). -/
def State.liftList (s : State) (first : Nat) : DoneFields :=
  let from_ := (s.cash.lifted.filter fun r => decide (first ≤ r.number)).insertionSort fun a b => a.number ≤ b.number
  .lifts (from_.take Config.liftListRecords) (decide (Config.liftListRecords < from_.length))

def execLiftList (tag : Byte) (body : List Byte) (s : State) : Host.Outcome State Fault Refusal :=
  .next (s.request tag 26 (fun _ => readNumber body) fun first s => s.done (s.liftList first))

/-- COUNT ENTER (R107). -/
def State.countEnter (s : State) (number amount : Nat) : State :=
  match s.cash.lifted.find? fun r => r.number == number with
  | none => s.reply .noSuch
  | some r =>
    (s.onCash fun k => { k with lifted := k.lifted.filter fun q => q.number != number }).done
      (.counted ((amount : Int) - (r.expected : Int)) amount r)

def execCountEnter (tag : Byte) (body : List Byte) (s : State) : Host.Outcome State Fault Refusal :=
  .next (s.request tag 27 (fun _ => readCountEnter body) fun a s => s.countEnter a.1 a.2)

/-- No terminal number appears twice. -/
def distinct (l : List Nat) : Bool :=
  match l with
  | [] => true
  | n :: rest => !rest.contains n && distinct rest

/-- ROUND OPEN (R109), its checks in order. -/
def State.roundOpen (s : State) (code : Nat) (terminals : List Nat) : State :=
  if !distinct terminals then s.reply .duplicate
  else if terminals.any fun n => (s.context n).isNone || (s.cash.roundOf n).isSome then s.reply .state
  else if Config.openRounds ≤ s.cash.openCount then s.reply .full
  else (s.onCash fun k => k.openRound code terminals).done (.roundOpened s.cash.nextRound)

def execRoundOpen (tag : Byte) (body : List Byte) (s : State) : Host.Outcome State Fault Refusal :=
  .next (s.request tag 28 (fun _ => readRoundOpen body) fun a s => s.roundOpen a.1 a.2)

/-- The candidates of ROUND BUILD in ascending terminal number (R110). -/
def State.candidates (s : State) (zones : ZoneSet) : List Nat :=
  (s.contexts.filter fun c =>
    zoneIn zones c.zone && (c.faults.boxNearFull || c.faults.boxFull) && (s.cash.roundOf c.number).isNone).map (·.number)

/-- ROUND BUILD (R110). -/
def State.roundBuild (s : State) (zones : ZoneSet) (code : Nat) : State :=
  if Config.openRounds ≤ s.cash.openCount then s.reply .full
  else if (s.candidates zones).isEmpty then s.reply .noSuch
  else
    let listed := (s.candidates zones).take Config.roundEntries
    (s.onCash fun k => k.openRound code listed).done (.roundBuilt s.cash.nextRound listed.length)

def execRoundBuild (tag : Byte) (body : List Byte) (s : State) : Host.Outcome State Fault Refusal :=
  .next (s.request tag 29 (fun _ => readRoundBuild body) fun a s => s.roundBuild a.1 a.2)

/-- A round closed by the host (R111): entries not LIFTED become SKIPPED. -/
def Round.skip (r : Round) : Round :=
  { r with
    isOpen := false
    entries := r.entries.map fun e => if e.state = .lifted then e else { e with state := .skipped } }

/-- The entries of a round in a state. -/
def Round.inState (r : Round) (state : EntryState) : Nat := (r.entries.filter fun e => e.state == state).length

/-- ROUND CLOSE (R111). -/
def State.roundClose (s : State) (number : Nat) : State :=
  match s.cash.roundNumbered number with
  | none => s.reply .noSuch
  | some r =>
    if !r.isOpen || s.inCollectionUnder number then s.reply .state
    else
      (s.onCash fun k => k.onRound number Round.skip).done
        (.roundClosed (r.skip.inState .lifted) (r.skip.inState .skipped))

def execRoundClose (tag : Byte) (body : List Byte) (s : State) : Host.Outcome State Fault Refusal :=
  .next (s.request tag 30 (fun _ => readNumber body) fun number s => s.roundClose number)

/-- The entry's terminal is in collection under the round (R112). -/
def State.collecting (s : State) (n number : Nat) : Bool :=
  match s.context n with
  | some c => c.collection == some number
  | none => false

/-- ROUND GET (R112). -/
def State.roundGet (s : State) (number : Nat) : State :=
  match s.cash.roundNumbered number with
  | none => s.reply .noSuch
  | some r => s.done (.round r (r.entries.map fun e => s.collecting e.terminal number))

def execRoundGet (tag : Byte) (body : List Byte) (s : State) : Host.Outcome State Fault Refusal :=
  .next (s.request tag 31 (fun _ => readNumber body) fun number s => s.roundGet number)

end Sys2Proof.Machine
end

