-- ==== Sys2Proof/Machine/Walk.lean ====
section
/-! DEFINITION. The band walk (R40 to R49, R55), on the latched copies alone. Positions are minutes from minute 0 of the
start day `d`, so day `d`+1 begins at 1,440. -/

namespace Sys2Proof.Machine

open Sys2Proof

/-- A band of the walk, its end already cut at the horizon end (its effective end). -/
structure WalkBand where
  start : Nat
  stop : Nat
  rate : Nat
  step : Nat
  deriving DecidableEq, Repr

/-- The band list of a day type (R15). -/
def ZoneTariff.bands (t : ZoneTariff) : DayType → List Band
  | .weekday => t.weekday
  | .saturday => t.saturday
  | .sunday => t.sunday
  | .special => t.special

/-- The bands of one day that start before the horizon end (R41, R45), the day beginning at `offset`. -/
def dayBands (offset horizon : Nat) (bands : List Band) : List WalkBand :=
  (bands.filter fun b => decide (offset + b.start < horizon)).map fun b =>
    { start := offset + b.start, stop := min (offset + b.stop) horizon, rate := b.rate, step := b.step }

/-- The horizon end as a position. -/
def Computation.horizonAt (c : Computation) : Nat :=
  (c.horizon.day - c.start.day) * 1440 + c.horizon.minute

/-- The bands of the walk under a tariff: day `d`, then day `d`+1. -/
def Computation.bands (c : Computation) (t : ZoneTariff) : List WalkBand :=
  dayBands 0 c.horizonAt (t.bands c.dayType) ++
    (match c.nextDayType with
      | some type => dayBands 1440 c.horizonAt (t.bands type)
      | none => [])

/-- The bands from the chargeable start on (R41): the band that holds the start, or the next one, and those after it. -/
def Computation.ahead (c : Computation) (t : ZoneTariff) : List WalkBand :=
  (c.bands t).filter fun b => decide (c.start.minute < b.stop)

/-- A position as a day number and a minute 0 to 1,439 (R47). -/
def Computation.moment (c : Computation) (position : Nat) : Moment :=
  { day := c.start.day + position / 1440, minute := position % 1440 }

/-- What a walk has bought so far. -/
structure Bought where
  minutes : Nat
  cost : Nat
  expiry : Nat
  segments : List (Nat × Nat × Nat)
  deriving DecidableEq, Repr

def Bought.nothing : Bought := { minutes := 0, cost := 0, expiry := 0, segments := [] }

/-- Minutes bought in one band, from its entry point. A band that buys nothing moves neither the expiry nor the segment
list (R47, R55). -/
def Bought.buy (b : Bought) (entry minutes cost : Nat) : Bought :=
  if minutes = 0 then b
  else
    { minutes := b.minutes + minutes, cost := b.cost + cost, expiry := entry + minutes,
      segments := b.segments ++ [(entry, minutes, cost)] }

/-- Division rounded up (R43). -/
def roundUp (n step : Nat) : Nat := (n + step - 1) / step

/-- The MONEY walk from the band at the head on (R42 to R45): `from_` is the start, `money` the money remaining, `limit` the
chargeable minutes still allowed. -/
def moneyWalk (from_ : Nat) : List WalkBand → Nat → Nat → Bought → Bought × Ending
  | [], _, _, sum => (sum, .horizon)
  | b :: rest, money, limit, sum =>
    let entry := max b.start from_
    let x := min (b.stop - entry) limit
    let cost := roundUp x b.step * b.rate
    if cost ≤ money then
      let sum := sum.buy entry x cost
      if x = limit then (sum, .maxStay) else moneyWalk from_ rest (money - cost) (limit - x) sum
    else (sum.buy entry (money / b.rate * b.step) (money / b.rate * b.rate), .money)

/-- The MINUTES walk (R46). -/
def minutesWalk (from_ : Nat) : List WalkBand → Nat → Bought → Bought × Ending
  | [], _, sum => (sum, .horizon)
  | b :: rest, limit, sum =>
    let entry := max b.start from_
    let x := min (b.stop - entry) limit
    let sum := sum.buy entry x 0
    if x = limit then (sum, .budget) else minutesWalk from_ rest (limit - x) sum

/-- The figures of a walk that bought something (R48, R49): the charged amount and what is left of the money. The segment list
is a TRIAL's alone (R55). -/
def Computation.figures (c : Computation) (first : WalkBand) (bought : Bought) (ending : Ending)
    (charged unused : Nat) : Figures :=
  { start := c.start, chargeableStart := c.moment (max first.start c.start.minute), expiry := c.moment bought.expiry,
    minutes := bought.minutes, walkCost := bought.cost, charged := charged, unused := unused,
    freeStart := decide (c.start.minute < first.start), ending := ending,
    segments :=
      if c.entry.kind = .trial then
        some (bought.segments.map fun g => { entry := c.moment g.1, minutes := g.2.1, cost := g.2.2 })
      else none }

/-- A MONEY walk of `money` pence (R40, R41, R47, R48). -/
def Computation.money (c : Computation) (money : Nat) : Walk :=
  match c.copy.tariff with
  | none => .zoneNotTariffed
  | some t =>
    if money < t.minimumCharge then .belowMinimum
    else if c.horizonAt ≤ c.start.minute then .freeParking c.start
    else
      match c.ahead t with
      | [] => .freeParking c.start
      | first :: rest =>
        let walked := moneyWalk c.start.minute (first :: rest) money t.maximumStay .nothing
        if walked.1.minutes = 0 then .insufficient c.start
        else
          let charged := max walked.1.cost t.minimumCharge
          .computed (c.figures first walked.1 walked.2 charged (money - charged))

/-- A MINUTES walk of `minutes` under a tariff (R41, R46 to R48). -/
def Computation.minutesUnder (c : Computation) (t : ZoneTariff) (minutes : Nat) : Walk :=
  if c.horizonAt ≤ c.start.minute then .freeParking c.start
  else
    match c.ahead t with
    | [] => .freeParking c.start
    | first :: rest =>
      let walked := minutesWalk c.start.minute (first :: rest) minutes .nothing
      .computed (c.figures first walked.1 walked.2 0 0)

/-- A MINUTES walk (R40): a session or referral needs an eligible zone and is lowered to its cap; a trial needs a tariff. -/
def Computation.minutes (c : Computation) (minutes : Nat) : Walk :=
  match c.copy.tariff with
  | none => if c.entry.kind = .trial then .zoneNotTariffed else .zoneNotPermitted
  | some t =>
    if c.entry.kind = .trial then c.minutesUnder t minutes
    else
      match t.residentCap with
      | none => .zoneNotPermitted
      | some cap => c.minutesUnder t (min minutes cap)

/-- The walk of a computation. -/
def Computation.walk (c : Computation) : Walk :=
  match c.entry.budget with
  | .money pence => c.money pence
  | .minutes count => c.minutes count

/-- The result of a computation (R49). -/
def Computation.result (c : Computation) : FareResult :=
  { kind := c.entry.kind, returnTo := c.entry.returnTo, zone := c.entry.zone, permit := c.entry.permit,
    outcome := .walked c.copy.letter c.copy.version c.walk }

/-- The WITHDRAWN result of an entry that is removed while it waits (R36, R49). -/
def FareEntry.withdrawnResult (e : FareEntry) : FareResult :=
  { kind := e.kind, returnTo := e.returnTo, zone := e.zone, permit := e.permit, outcome := .withdrawn }

/-- The refusal reason of a walk that was not COMPUTED (R51, R52, R53). -/
def Walk.reason : Walk → Option Reason
  | .computed _ => none
  | .zoneNotTariffed => some .zoneNotTariffed
  | .belowMinimum => some .belowMinimum
  | .zoneNotPermitted => some .zoneNotPermitted
  | .freeParking _ => some .freeParking
  | .insufficient _ => some .insufficient

/-- The ticket record (R73) of a COMPUTED result, of a version of the bank, at a serial. -/
def FareResult.ticket (r : FareResult) (version : Nat) (f : Figures) (terminal serial : Nat)
    (tariffChanged resident : Bool) (permit : Option Nat) : Ticket :=
  { terminal := terminal, serial := serial, zone := r.zone, start := f.start, expiry := f.expiry,
    charged := if resident then 0 else f.charged, unused := if resident then 0 else f.unused, minutes := f.minutes,
    version := version, freeStart := f.freeStart, maxStay := decide (f.ending = .maxStay),
    horizon := decide (f.ending = .horizon), tariffChanged := tariffChanged, resident := resident, permit := permit }

end Sys2Proof.Machine
end

