-- ==== Sys2Proof/Machine/Fare.lean ====
section
/-! DEFINITION. The Fare Engine's queue (R31 to R38): placing, beginning and latching, serving, removing. -/

namespace Sys2Proof.Machine

open Sys2Proof

def State.onFare (s : State) (f : FareEngine → FareEngine) : State := { s with fare := f s.fare }

/-- The letter of the bank an entry's role names when its computation begins (R37). -/
def Tariffs.letterOf (t : Tariffs) : BankRole → BankLetter
  | .active => t.active
  | .staged => t.staged

/-- What a computation latches at its beginning (R37, R38). For day 65,535 no type is looked up for the next day (R9). -/
def State.latch (s : State) (e : FareEntry) : Computation :=
  let start := e.start.getD s.clock.current
  { entry := e
    copy := s.tariffs.copy (s.tariffs.letterOf e.bank) e.zone
    start := start
    dayType := dayTypeOf s.calendar start.day
    nextDayType := if start.day < 65535 then some (dayTypeOf s.calendar (start.day + 1)) else none
    horizon := horizonEnd start.day }

/-- An entry's computation begins (R37). -/
def State.beginFare (s : State) (e : FareEntry) : State := s.onFare fun q => { q with computing := some (s.latch e) }

/-- An entry joins the fare queue, and begins at once when the engine is IDLE (R33). -/
def State.placeFare (s : State) (e : FareEntry) : State :=
  match s.fare.computing with
  | none => s.beginFare e
  | some _ => s.onFare fun q => { q with queue := q.queue ++ [e] }

/-- After a completion: the oldest entry begins, or the engine is IDLE (R34). -/
def State.serveFare (s : State) : State :=
  match s.fare.queue with
  | [] => s.onFare fun q => { q with computing := none }
  | e :: rest => (s.onFare fun q => { q with queue := rest }).beginFare e

/-- The entry of a terminal's request that waits in the fare queue (R36). -/
def State.waitingFare (s : State) (n request : Nat) : Option FareEntry :=
  s.fare.queue.find? fun e => e.returnTo == .terminal n request

def State.fareWaits (s : State) (n request : Nat) : Bool := (s.waitingFare n request).isSome

/-- That entry is removed; the entries behind it keep their order (R36). -/
def State.unqueueFare (s : State) (n request : Nat) : State :=
  s.onFare fun q => { q with queue := q.queue.filter fun e => e.returnTo != .terminal n request }

end Sys2Proof.Machine
end

