-- ==== Sys2Proof/Machine/Permits.lean ====
section
/-! DEFINITION. The Permit Table's operations (R79 to R100): records, claims, the permit queue, the session checks and
the referrals. -/

namespace Sys2Proof.Machine

open Sys2Proof

def State.onPermits (s : State) (f : Permits → Permits) : State := { s with permits := f s.permits }

/-! ### Records -/

/-- The record of a permit number (R79). -/
def State.permit (s : State) (number : Nat) : Option Permit := s.permits.records.find? fun p => p.number == number

/-- A change to one record. -/
def State.onPermit (s : State) (number : Nat) (f : Permit → Permit) : State :=
  s.onPermits fun t => { t with records := t.records.map fun p => if p.number = number then f p else p }

/-- A new record at its ascending place (R83). -/
def insertPermit (p : Permit) : List Permit → List Permit
  | [] => [p]
  | q :: rest => if p.number < q.number then p :: q :: rest else q :: insertPermit p rest

/-- One record inserted, or the record of its number replaced, as one step (R83). -/
def State.loadRecord (s : State) (f : PermitFields) : State :=
  match s.permit f.number with
  | some _ => s.onPermit f.number fun p => p.replace f
  | none => s.onPermits fun t => { t with records := insertPermit f.record t.records }

/-- How many distinct numbers of the request no record holds (R83). -/
def State.newNumbers (s : State) (records : List PermitFields) : Nat :=
  ((records.map (·.number)).filter fun n => (s.permit n).isNone).dedup.length

/-- A claim is cleared wherever it names this walk; a record whose claim names another walk keeps it (R89). -/
def State.clearClaim (s : State) (claim : Claim) : State :=
  s.onPermits fun t =>
    { t with records := t.records.map fun p => if p.claim = some claim then { p with claim := none } else p }

/-- The charge of a committed session (R91). The claim is cleared by `clearClaim`. -/
def State.charge (s : State) (number : Nat) (day minutes : Nat) (session : LastSession) : State :=
  s.onPermit number fun p =>
    { p with usedDay := some day, usedMinutes := p.effectiveUsed day + minutes, lastSession := some session }

/-! ### The steps of a PERMIT SCAN (R82, R86) -/

/-- The next record a scan chooses: the first from its first number on, or the first above the last one chosen. -/
def nextToScan (records : List Permit) (first : Nat) (chosen : List PermitReading) : Option Permit :=
  records.find? fun p =>
    match chosen.getLast? with
    | none => decide (first ≤ p.number)
    | some r => decide (r.record.number < p.number)

/-- Up to so many further steps of a scan of at most `count` records: each chooses one record and reads it. -/
def scanSteps (records : List Permit) (now : Instant) (first count : Nat) : Nat → List PermitReading → List PermitReading
  | 0, chosen => chosen
  | steps + 1, chosen =>
    match nextToScan records first chosen with
    | none => chosen
    | some p =>
      if chosen.length < count then scanSteps records now first count steps (chosen ++ [p.reading now]) else chosen

/-- What a scan in progress has chosen once so many further steps are made. -/
def State.scanTo (s : State) (steps : Nat) : List PermitReading :=
  match s.permits.working with
  | some (.scan first count) => scanSteps s.permits.records s.clock.now first count steps s.scanned
  | _ => s.scanned

/-- Another access is taken between two steps of a scan in progress (R82): how many are made before it is free (log 10). -/
def State.scanAlong (s : State) : State :=
  { s with scanned := s.scanTo (Config.scanSteps s.choices), choices := s.choices + 1 }

/-! ### Referrals -/

def State.referralOf (s : State) (number : Nat) : Option Referral :=
  s.permits.referrals.find? fun r => r.number == number

/-- The WAITING referral of a terminal, if it has one (R95). -/
def State.waitingOf (s : State) (n : Nat) : Option Referral :=
  s.permits.referrals.find? fun r => r.terminal == n && r.decision.isNone

/-- An entry leaves the list, and the terminal's context referral goes with it (R93). -/
def State.dropReferral (s : State) (r : Referral) : State :=
  (s.onPermits fun t => { t with referrals := t.referrals.filter fun q => q.number != r.number }).onContext r.terminal
    fun c => if c.referral.map (·.referral) = some r.number then { c with referral := none } else c

/-- A referral is refused to its terminal: the held result is set with a reason and the entry leaves (R94, R97, R98). -/
def State.refuseReferral (s : State) (r : Referral) (reason : Reason) : State :=
  (s.hold r.terminal { referral := r.number, request := r.request, outcome := .refusal reason }).dropReferral r

/-- The decision is recorded: the entry is DECIDED (R97). -/
def State.recordDecision (s : State) (number : Nat) (decision : Decision) : State :=
  s.onPermits fun t =>
    { t with referrals := t.referrals.map fun r =>
        if r.number = number then { r with decision := some decision } else r }

/-- The resident session cap of a zone in the bank active at this moment, when its slot is present and eligible (R88,
R98). -/
def State.activeCap (s : State) (zone : Zone) : Option Nat :=
  (s.tariffs.copy s.tariffs.active zone).tariff.bind (·.residentCap)

/-- Checks 4 to 7 of R88: a reason, or the cap read at check 5. -/
def State.sessionChecks (s : State) (p : Permit) (zone : Zone) : Except Reason Nat :=
  let day := s.clock.day
  if p.status ≠ .active ∨ day < p.validFrom ∨ p.validTo < day then .error .permitNotValid
  else
    match (if zoneIn p.zones zone then s.activeCap zone else none) with
    | none => .error .zoneNotPermitted
    | some cap =>
      if p.claim.isSome || p.running s.clock.now then .error .sessionActive
      else if p.remaining day = 0 then .error .allowanceUsed
      else .ok cap

/-- The budget of R89. -/
def State.sessionBudget (s : State) (p : Permit) (minutes cap : Nat) : Nat :=
  min minutes (min (p.remaining s.clock.day) cap)

/-- A REFERRAL entry is placed on the fare queue (R98). -/
def State.placeReferral (s : State) (r : Referral) (zone : Zone) (minutes : Nat) : State :=
  s.placeFare
    { kind := .referral, budget := .minutes minutes, zone := zone, bank := .active, start := none,
      returnTo := .referral r.number r.terminal, permit := some r.permit }

/-! ### Session requests (R87 to R90) -/

/-- A referral is made (R93), when there is room and none stands for the terminal; the answer is WAIT, else BUSY. -/
def State.refer (s : State) (l : Lookup) : State :=
  if Config.referralCapacity ≤ s.permits.referrals.length ∨
      s.permits.referrals.any fun r => r.terminal == l.terminal then
    s.finish l.terminal l.request .busy
  else
    let number := nextNumber 255 (s.permits.referrals.map (·.number)) s.permits.lastReferral
    let entry : Referral :=
      { number := number, terminal := l.terminal, request := l.request, permit := l.permit, minutes := l.minutes,
        arrival := s.clock.now, deadline := s.elapsed + s.permits.referralTimeout, decision := none,
        detached := false }
    let listed := s.onPermits fun t => { t with referrals := t.referrals ++ [entry], lastReferral := number }
    let marked := listed.onContext l.terminal fun c =>
      { c with referral := some { referral := number, request := l.request } }
    (marked.finish l.terminal l.request .wait).notice .referrals

/-- The claim is set and the SESSION walk placed (R89). -/
def State.claimSession (s : State) (l : Lookup) (p : Permit) (cap : Nat) : State :=
  let minutes := s.sessionBudget p l.minutes cap
  (s.onPermit l.permit fun p => { p with claim := some (.session l.terminal l.request) }).placeFare
    { kind := .session, budget := .minutes minutes, zone := l.zone, bank := .active, start := none,
      returnTo := .terminal l.terminal l.request, permit := some l.permit }

/-- A LOOKUP's checks at its completion (R88). -/
def State.lookupChecks (s : State) (l : Lookup) : State :=
  let refuse (reason : Reason) := s.finish l.terminal l.request (.refused reason)
  let condition := s.condition l.terminal
  if !s.clock.valid then refuse .clockNotSet
  else if condition ≠ .inService ∧ condition ≠ .restricted then refuse .notInService
  else
    match s.permit l.permit with
    | none => if s.permits.referralEnabled then s.refer l else refuse .permitUnknown
    | some p =>
      match s.sessionChecks p l.zone with
      | .error reason => refuse reason
      | .ok cap => s.claimSession l p cap

/-- The Permit Table's withdrawn result reaches the Terminal Table: the request in flight is removed and a SESSION's claim cleared (R68,
R90). -/
def State.withdrawn (s : State) (n request : Nat) : State :=
  (s.scanAlong.onContext n fun c => { c with inFlight := none }).clearClaim (.session n request)

/-! ### The permit queue (R81 to R86, R97, R98) -/

def State.settle (s : State) (body : ReplyBody) : State :=
  s.onPermits fun t => { t with working := some (.settled body) }

/-- PERMIT CHANGE at its beginning (R84). -/
def State.beginChange (s : State) (c : PermitChange) : State :=
  match s.permit c.number with
  | none => s.settle .noSuch
  | some p =>
    if (p.change c).validTo < (p.change c).validFrom then s.settle (.field 5)
    else (s.onPermit c.number fun p => p.change c).settle (.done (.changed (p.change c)))

/-- The completion of a PERMIT SCAN (R86): the choices still to come are made, and MORE tells of records above the last. -/
def State.completeScan (s : State) (first count : Nat) : State :=
  let readings := scanSteps s.permits.records s.clock.now first count count s.scanned
  ({ s with scanned := [] } : State).done (.scan readings (nextToScan s.permits.records first readings).isSome)

/-- GRANT ONCE (R98): no record and no claim. -/
def State.grantOnce (s : State) (r : Referral) (minutes : Nat) : State :=
  match s.context r.terminal with
  | none => s
  | some c =>
    let asked := min r.minutes minutes
    s.placeReferral r c.zone (match s.activeCap c.zone with | some cap => min asked cap | none => asked)

/-- REFERRAL ANSWER at its beginning (R97). The model's choice (log 32): where no entry held the number when the request was
accepted and a LOOKUP has since made that entry for another permit, a GRANT AND LOAD loads the record under its own number. -/
def State.beginAnswer (s : State) (number : Nat) (decision : Decision) : State :=
  match s.referralOf number with
  | none => s.settle .tooLate
  | some r =>
    if r.decision.isSome then s.settle .state
    else
      match decision with
      | .deny => ((s.recordDecision number .deny).refuseReferral r .permitNotValid).settle (.done .plain)
      | .grantOnce minutes => ((s.recordDecision number decision).grantOnce r minutes).settle (.done .plain)
      | .grantAndLoad record =>
        if (s.permit record.number).isNone ∧ Config.permitCapacity ≤ s.permits.records.length then s.settle .full
        else (s.recordDecision number decision).onPermits fun t => { t with working := some (.grant number record false) }

/-- An operation begins. -/
def State.beginOp (s : State) (op : PermitOp) : State :=
  match op with
  | .lookup l => s.onPermits fun t => { t with working := some (.lookup l false) }
  | .load records =>
    if Config.permitCapacity < s.permits.records.length + s.newNumbers records then s.settle .full
    else s.onPermits fun t => { t with working := some (.load records 0 0) }
  | .change c => s.beginChange c
  | .drop number =>
    match s.permit number with
    | none => s.settle .noSuch
    | some _ =>
      (s.onPermits fun t => { t with records := t.records.filter fun p => p.number != number }).settle (.done .plain)
  | .get number =>
    match s.permit number with
    | none => s.settle .noSuch
    | some p => s.settle (.done (.permit (p.reading s.clock.now)))
  | .scan first count =>
    ({ s with scanned := [] } : State).onPermits fun t => { t with working := some (.scan first count) }
  | .answer referral decision => s.beginAnswer referral decision

/-- An operation joins the permit queue, and begins at once when none is in progress (R81). -/
def State.placeOp (s : State) (op : PermitOp) : State :=
  match s.permits.working with
  | none => s.beginOp op
  | some _ => s.onPermits fun t => { t with queue := t.queue ++ [op] }

/-- After a completion: the oldest operation begins, or the table is idle (R81). -/
def State.nextOp (s : State) : State :=
  match s.permits.queue with
  | [] => s.onPermits fun t => { t with working := none }
  | op :: rest => (s.onPermits fun t => { t with queue := rest, working := none }).beginOp op

/-- A GRANT AND LOAD at its completion (R98): checks 4 to 7 against the loaded record. An entry detached meanwhile leaves
the list (log 26). The model's choice (log 32): the checks and the claim go by the record's number, the walk by the
referral's permit, should the two differ. -/
def State.grantChecks (s : State) (number : Nat) (record : PermitFields) : State :=
  match s.referralOf number with
  | none => s
  | some r =>
    match (if r.detached then none else s.context r.terminal), s.permit record.number with
    | some c, some p =>
      match s.sessionChecks p c.zone with
      | .error reason => s.refuseReferral r reason
      | .ok cap =>
        let minutes := s.sessionBudget p r.minutes cap
        (s.onPermit record.number fun p => { p with claim := some (.referral number) }).placeReferral r c.zone minutes
    | _, _ => s.dropReferral r

/-- Every record of a load that is not in yet, in order (R83; log 11). -/
def State.loadAll : State → List PermitFields → Nat → Nat → State × Nat × Nat
  | s, [], inserted, replaced => (s, inserted, replaced)
  | s, f :: rest, inserted, replaced =>
    match s.permit f.number with
    | none => (s.loadRecord f).loadAll rest (inserted + 1) replaced
    | some _ => (s.loadRecord f).loadAll rest inserted (replaced + 1)

/-- The completion of a host operation: its reply is handed to the Link Port and the oldest waiting operation begins
(R81). -/
def State.completeOp (s : State) : State :=
  match s.permits.working with
  | none => s
  | some (.lookup _ _) => s
  | some (.settled body) => (s.reply body).nextOp
  | some (.scan first count) => (s.completeScan first count).nextOp
  | some (.load rest inserted replaced) =>
    let loaded := s.loadAll rest inserted replaced
    (loaded.1.done (.loaded loaded.2.1 loaded.2.2)).nextOp
  | some (.grant number record loaded) =>
    (((if loaded then s else s.loadRecord record).grantChecks number record).done .plain).nextOp

/-- One record's step of a load or of a GRANT AND LOAD (R82, R83, R98). -/
def State.insertStep (s : State) : State :=
  match s.permits.working with
  | some (.load (f :: rest) inserted replaced) =>
    match s.permit f.number with
    | none => (s.loadRecord f).onPermits fun t => { t with working := some (.load rest (inserted + 1) replaced) }
    | some _ => (s.loadRecord f).onPermits fun t => { t with working := some (.load rest inserted (replaced + 1)) }
  | some (.grant number record false) =>
    (s.loadRecord record).onPermits fun t => { t with working := some (.grant number record true) }
  | _ => s

/-- A LOOKUP's completion (R87, R88, R90). -/
def State.completeLookup (s : State) : State :=
  match s.permits.working with
  | some (.lookup l marked) => (if marked then s.withdrawn l.terminal l.request else s.lookupChecks l).nextOp
  | _ => s

/-- The operation in progress is the LOOKUP of this request. -/
def PermitWork.isLookup (w : PermitWork) (n request : Nat) : Bool :=
  match w with
  | .lookup l _ => l.terminal == n && l.request == request
  | _ => false

def PermitOp.isLookup (o : PermitOp) (n request : Nat) : Bool :=
  match o with
  | .lookup l => l.terminal == n && l.request == request
  | _ => false

end Sys2Proof.Machine
end

