-- ==== Sys2Proof/Machine/Clock.lean ====
section
/-! DEFINITION. The Borough Clock and the Calendar (R1 to R13), with the meanings of their requests and of SECONDS
EVENT. -/

namespace Sys2Proof.Machine

open Sys2Proof

/-- Every line with a change made to it. -/
def State.onLines (s : State) (f : Line → Line) : State := { s with lines := mapLines f s.lines }

/-- CLOCK SET in range (R5), its steps in order. The CLOCK orders are asked for in ascending terminal number (DEDUCED:
as R29 has it; log 15). -/
def State.clockSet (s : State) (t : Instant) : State :=
  let set := { s with clock := { day := t.day, second := t.second, valid := true } }
  let restarted := set.onLines fun L => { L with paceCounter := 0 }
  (restarted.presentMinute.askAll .clock).done .plain

def execClockSet (tag : Byte) (body : List Byte) (s : State) : Host.Outcome State Fault Refusal :=
  .next (s.request tag 1 (fun _ => readClockSet body) fun t s => s.clockSet t)

/-- CLOCK GET (R8). -/
def State.clockGet (s : State) : State :=
  s.done (.clock s.clock.day s.clock.second s.clock.valid (s.clock.day % 7) (dayTypeOf s.calendar s.clock.day))

def execClockGet (tag : Byte) (body : List Byte) (s : State) : Host.Outcome State Fault Refusal :=
  .next (s.request tag 2 (fun _ => readNothing body) fun _ s => s.clockGet)

/-! ### The Calendar -/

/-- The Calendar with an entry for a day, at its ascending place or in the place of the entry of that day (R10). -/
def putEntry (e : CalendarEntry) : List CalendarEntry → List CalendarEntry
  | [] => [e]
  | d :: rest =>
    if e.day < d.day then e :: d :: rest
    else if e.day = d.day then e :: rest
    else d :: putEntry e rest

/-- The Calendar holds an entry for a day. -/
def State.marked (s : State) (day : Nat) : Bool := s.calendar.any fun e => e.day == day

/-- CALENDAR PUT (R10). -/
def State.calendarPut (s : State) (e : CalendarEntry) : State :=
  if s.marked e.day = false ∧ Config.calendarCapacity ≤ s.calendar.length then s.reply .full
  else ({ s with calendar := putEntry e s.calendar } : State).done .plain

def execCalendarPut (tag : Byte) (body : List Byte) (s : State) : Host.Outcome State Fault Refusal :=
  .next (s.request tag 3 (fun _ => readCalendarPut body) fun e s => s.calendarPut e)

/-- CALENDAR DROP (R11). -/
def State.calendarDrop (s : State) (day : Nat) : State :=
  if s.marked day then
    ({ s with calendar := s.calendar.filter fun e => e.day != day } : State).done .plain
  else s.reply .noSuch

def execCalendarDrop (tag : Byte) (body : List Byte) (s : State) : Host.Outcome State Fault Refusal :=
  .next (s.request tag 4 (fun _ => readDay body) fun day s => s.calendarDrop day)

/-- CALENDAR LIST (R11). -/
def State.calendarList (s : State) (first : Nat) : State :=
  s.done (.calendar (s.calendar.filter fun e => decide (first ≤ e.day)))

def execCalendarList (tag : Byte) (body : List Byte) (s : State) : Host.Outcome State Fault Refusal :=
  .next (s.request tag 5 (fun _ => readDay body) fun first s => s.calendarList first)

/-! ### The seconds event -/

/-- One second on a line's pace counter (R3): at the interval it returns to 0 and a tick is handed on (log 5). -/
def Line.pace (L : Line) : Line :=
  if L.paceCounter + 1 = L.settings.interval then { L with paceCounter := 0, ticksHanded := L.ticksHanded + 1 }
  else { L with paceCounter := L.paceCounter + 1 }

/-- A seconds event begins a new minute (R2): the clock is VALID, was not held, and the new second of day is a multiple
of 60. -/
def Clock.beginsMinute (c : Clock) : Bool := c.valid && !c.held && (c.tick.second % 60 == 0)

/-- The count of the retention oscillator, which goes on without the main supply (R2, R13). -/
def State.tick (s : State) : State := { s with clock := s.clock.tick, elapsed := s.elapsed + 1 }

/-- SECONDS EVENT (R2, R3). Without the main supply only the clock counts, and without the retention supply not even that
(log 6). Each step of a scan in progress reads the time before the event or after it (R82). -/
def State.secondsEvent (s : State) : State :=
  if s.mainSupply then
    let ticked := s.scanAlong.tick
    (if s.clock.beginsMinute then ticked.presentMinute else ticked).onLines Line.pace
  else if s.retentionHeld then s.tick
  else s

def execSecondsEvent (s : State) : Host.Outcome State Fault Refusal := .next s.secondsEvent

end Sys2Proof.Machine
end

