-- ==== Sys2Proof/Machine/Commit.lean ====
section
/-! DEFINITION. The taking of fare results (R50, R67 to R73, R99) and the withdrawal of requests (R36, R68, R90), with the
meanings of COMPUTATION COMPLETE and FARE TRIAL. -/

namespace Sys2Proof.Machine

open Sys2Proof

/-! ### Quotes (R67) -/

def quoteAnswer (condition : Condition) (version : Nat) (walk : Walk) : Answer :=
  match condition with
  | .inService =>
    match walk with
    | .computed f => .quoted f.expiry f.charged f.unused f.minutes f.freeStart f.ending version
    | .zoneNotTariffed => .refused .zoneNotTariffed
    | .belowMinimum => .refused .belowMinimum
    | .zoneNotPermitted => .refused .zoneNotPermitted
    | .freeParking _ => .refused .freeParking
    | .insufficient _ => .refused .insufficient
  | .restricted => .refused .coinsClosed
  | .inCollection => .refused .notInService
  | .suspended => .refused .notInService
  | .outOfService => .refused .notInService
  | .unconfigured => .refused .notInService

/-! ### Sales (R69, R70) -/

/-- Checks 3 to 5 of R69. -/
def saleRefusal (valid : Bool) (condition : Condition) : Option Reason :=
  if !valid then some .clockNotSet
  else if condition = .restricted then some .coinsClosed
  else if condition ≠ .inService then some .notInService
  else none

/-- The commit of a sale (R70). -/
def State.commitSale (s : State) (c : Context) (flight : InFlight) (coins : Coins) (quoteVersion : Option Nat)
    (r : FareResult) (version : Nat) (f : Figures) : State :=
  let serial := nextSerial c.serial
  let changed := match quoteVersion with
    | some v => v != version
    | none => false
  let ticket := r.ticket version f c.number serial changed false none
  let counted := s.act c.number fun c =>
    ({ c with serial := serial, tally := c.tally.add coins } : Context).usePaper s.defaults
  (counted.onContext c.number fun c => { c with last := some (flight.number, ticket) }).finish c.number flight.number
    (.ticket ticket)

/-- A SALE result (R69). -/
def State.takeSale (s : State) (c : Context) (flight : InFlight) (coins : Coins) (quoteVersion : Option Nat)
    (r : FareResult) (version : Nat) (walk : Walk) : State :=
  match walk with
  | .computed f =>
    match saleRefusal s.clock.valid c.condition with
    | some reason => s.finish c.number flight.number (.refused reason)
    | none => s.commitSale c flight coins quoteVersion r version f
  | walk =>
    match walk.reason with
    | some reason => s.finish c.number flight.number (.refused reason)
    | none => s

/-! ### Sessions and referrals (R71, R72, R91, R99) -/

/-- Checks 3 to 8 of R71 on a COMPUTED result; checks 5 to 8 are not made for a GRANT ONCE. The model's choice (log 39): validity
and used minutes go by the walk's start day, as R71 has it, where R1's table of readers has a commit take today's. -/
def State.sessionRefusal (s : State) (c : Context) (r : FareResult) (f : Figures) (once : Bool) : Option Reason :=
  if !s.clock.valid then some .clockNotSet
  else if c.condition ≠ .inService ∧ c.condition ≠ .restricted then some .notInService
  else if once then none
  else
    match r.permit.bind s.permit with
    | none => some .permitUnknown
    | some p =>
      if p.status ≠ .active ∨ f.start.day < p.validFrom ∨ p.validTo < f.start.day then some .permitNotValid
      else if !zoneIn p.zones r.zone then some .zoneNotPermitted
      else if p.allowance < f.minutes + p.effectiveUsed f.start.day then some .allowanceUsed
      else none

/-- The whole of checks 2 to 8 of R71: a reason, or the figures to commit. -/
def State.sessionChecked (s : State) (c : Context) (r : FareResult) (walk : Walk) (once : Bool) :
    Except Reason Figures :=
  match walk with
  | .computed f =>
    match s.sessionRefusal c r f once with
    | some reason => .error reason
    | none => .ok f
  | .zoneNotTariffed => .error .zoneNotTariffed
  | .belowMinimum => .error .belowMinimum
  | .zoneNotPermitted => .error .zoneNotPermitted
  | .freeParking _ => .error .freeParking
  | .insufficient _ => .error .insufficient

/-- Steps 1 to 3 of a session's commit (R72): the serial, the charge and the paper. The charge goes to the walk's start day (R91;
log 39: the model's choice). -/
def State.commitSession (s : State) (c : Context) (r : FareResult) (f : Figures) (once : Bool) : State :=
  let charged := match once, r.permit with
    | false, some number =>
      s.charge number f.start.day f.minutes
        { terminal := c.number, zone := r.zone, start := f.start, expiry := f.expiry, minutes := f.minutes }
    | _, _ => s
  charged.act c.number fun c => ({ c with serial := nextSerial c.serial } : Context).usePaper s.defaults

/-- The resident ticket of a session (R72 step 4). -/
def sessionTicket (c : Context) (r : FareResult) (version : Nat) (f : Figures) : Ticket :=
  r.ticket version f c.number (nextSerial c.serial) false true r.permit

/-- A SESSION result of a request that is not withdrawn. -/
def State.takeSession (s : State) (c : Context) (flight : InFlight) (r : FareResult) (version : Nat) (walk : Walk) :
    State :=
  match s.sessionChecked c r walk false with
  | .error reason => s.finish c.number flight.number (.refused reason)
  | .ok f =>
    let ticket := sessionTicket c r version f
    ((s.commitSession c r f false).onContext c.number fun c =>
      { c with last := some (flight.number, ticket) }).finish c.number flight.number (.ticket ticket)

/-- A REFERRAL result (R71, R72, R99): it becomes the held result. Nothing is committed for a detached entry. -/
def State.takeReferral (s : State) (number : Nat) (r : FareResult) (version : Nat) (walk : Walk) : State :=
  match s.referralOf number with
  | none => s.clearClaim (.referral number)
  | some entry =>
    let once := match entry.decision with
      | some (.grantOnce _) => true
      | _ => false
    let taken :=
      match (if entry.detached then none else s.context entry.terminal) with
      | none => s
      | some c =>
        match s.sessionChecked c r walk once with
        | .error reason =>
          s.hold entry.terminal { referral := number, request := entry.request, outcome := .refusal reason }
        | .ok f =>
          (s.commitSession c r f once).hold entry.terminal
            { referral := number, request := entry.request, outcome := .ticket (sessionTicket c r version f) }
    (taken.clearClaim (.referral number)).dropReferral entry

/-- A result for a terminal's request in flight (R67 to R72): a WITHDRAWN one, and that of a withdrawn request, removes the
request, and nothing is committed or answered (R68). -/
def State.takeTerminal (s : State) (n request : Nat) (r : FareResult) : State :=
  match s.context n with
  | none => s
  | some c =>
    match c.inFlight with
    | none => s
    | some flight =>
      if flight.number ≠ request then s
      else
        match r.outcome, flight.withdrawn with
        | .walked _ version walk, false =>
          match flight.kind with
          | .quote => s.finish n request (quoteAnswer c.condition version walk)
          | .sale coins quoteVersion => s.takeSale c flight coins quoteVersion r version walk
          | .session => s.takeSession c flight r version walk
        | _, _ => s.onContext n fun c => { c with inFlight := none }

/-- The result of a SESSION's walk: the claim the walk holds is cleared whatever the outcome (R71, R90). -/
def State.takeClaimed (s : State) (n request : Nat) (r : FareResult) : State :=
  (s.scanAlong.takeTerminal n request r).clearClaim (.session n request)

/-- A result goes to its owner (R50). The entries of referrals and trials are not withdrawn (R36). -/
def State.deliver (s : State) (r : FareResult) : State :=
  match r.returnTo, r.outcome with
  | .terminal n request, _ =>
    if r.kind = .session then s.takeClaimed n request r else s.takeTerminal n request r
  | .referral number _, .walked _ version walk => s.scanAlong.takeReferral number r version walk
  | .host _, .walked letter version walk => s.done (.trial letter version walk)
  | _, .withdrawn => s

/-- COMPUTATION COMPLETE (R50, R34): the result is handed over, then the queue is served. -/
def State.computationComplete (s : State) : State :=
  match s.fare.computing with
  | none => s
  | some c => (s.deliver c.result).serveFare

def execComputationComplete (s : State) : Host.Outcome State Fault Refusal :=
  .next (s.working State.computationComplete)

/-! ### Withdrawal (R36, R68, R90) -/

/-- The removal of a QUOTE's or SALE's entry is asked for (R36): a waiting one is removed and its WITHDRAWN result is handed to
the Terminal Table, and a computation in progress runs on. -/
def State.withdrawFare (s : State) (n request : Nat) : State :=
  match s.waitingFare n request with
  | some e => (s.unqueueFare n request).takeTerminal n request e.withdrawnResult
  | none => s

/-- The same of a SESSION's walk, whose claim is cleared when its WITHDRAWN result is taken (R36, R90). -/
def State.withdrawWalk (s : State) (n request : Nat) : State :=
  match s.waitingFare n request with
  | some e => (s.unqueueFare n request).takeClaimed n request e.withdrawnResult
  | none => s

/-- The withdrawal of a SESSION (R90): a waiting LOOKUP is removed, one in progress is marked, a walk that waits in the fare
queue is removed (R36), a walk in progress runs on. -/
def State.withdrawSession (s : State) (n request : Nat) : State :=
  if s.permits.queue.any fun o => o.isLookup n request then
    (s.onPermits fun t => { t with queue := t.queue.filter fun o => !o.isLookup n request }).withdrawn n request
  else
    match s.permits.working with
    | some (.lookup l _) =>
      if l.terminal = n ∧ l.request = request then
        s.onPermits fun t => { t with working := some (.lookup l true) }
      else s.withdrawWalk n request
    | _ => s.withdrawWalk n request

/-- The withdrawal of a request in flight (R68): the mark is SET, and its work is asked to be removed (R36, R90). -/
def State.withdraw (s : State) (n request : Nat) : State :=
  match (s.context n).bind (·.inFlight) with
  | none => s
  | some flight =>
    if flight.number = request ∧ flight.withdrawn = false then
      let marked := s.onContext n fun c => { c with inFlight := some { flight with withdrawn := true } }
      match flight.kind with
      | .session => marked.withdrawSession n request
      | .quote => marked.withdrawFare n request
      | .sale _ _ => marked.withdrawFare n request
    else s

/-! ### FARE TRIAL -/

/-- FARE TRIAL (R54): a TRIAL entry is placed, and the request stays outstanding until its computation completes. -/
def State.fareTrial (s : State) (tag : Byte) (t : Trial) : State :=
  s.placeFare
    { kind := .trial, budget := t.budget, zone := t.zone, bank := t.role, start := some t.start,
      returnTo := .host tag, permit := none }

def execFareTrial (tag : Byte) (body : List Byte) (s : State) : Host.Outcome State Fault Refusal :=
  .next (s.request tag 13 (fun _ => readTrial body) fun t s => s.fareTrial tag t)

end Sys2Proof.Machine
end

