-- ==== Sys2Proof/Machine/Terminals.lean ====
section
/-! DEFINITION. The Terminal Table's host requests (R59 to R63) and the four orders of TERMINAL ORDER (R117, R133,
R165). -/

namespace Sys2Proof.Machine

open Sys2Proof

/-! ### TERMINAL SET -/

/-- The threshold override of a terminal's context, if it has one. -/
def State.overrideOf (s : State) (n : Nat) : Option Thresholds := (s.context n).bind (·.override)

/-- Another terminal's context holds the line and drop (R59 check 1). -/
def State.dropTaken (s : State) (f : TerminalSet) : Bool :=
  s.contexts.any fun c => c.number != f.number && c.line == f.line && c.drop == f.drop

/-- The context may not be changed now (R59 check 2). -/
def State.engaged (s : State) (c : Context) : Bool :=
  c.inFlight.isSome || (s.line c.line).busyWith c.number || c.condition == .inCollection

/-- A context is created (R60), with the change of condition from UNCONFIGURED and the three orders in R60's order. -/
def State.createTerminal (s : State) (f : TerminalSet) : State :=
  let c := (Context.create f).reevaluate s.defaults
  let listed : State := { s with contexts := insertContext c s.contexts }
  let reported := listed.report f.number fun r => { r with condition := true }
  ((reported.askOrder f.number .condition).askOrder f.number .plate).askOrder f.number .clock

/-- The fields of a context that TERMINAL SET replaces, with paper remaining lowered to a lower paper capacity (R61). -/
def Context.replace (c : Context) (f : TerminalSet) : Context :=
  { c with
    line := f.line, drop := f.drop, zone := f.zone, boxCapacity := f.boxCapacity, paperCapacity := f.paperCapacity
    paperRemaining :=
      if f.paperCapacity = c.paperCapacity then c.paperRemaining else min c.paperRemaining f.paperCapacity }

/-- The terminal's entries leave a directed queue. -/
def Line.without (L : Line) (n : Nat) : Line := { L with directed := L.directed.filter fun d => d.terminal != n }

/-- What a line's directed queue holds for a terminal becomes owed; a MESSAGE is never owed (R61, R141, R165). -/
def OwedOrders.take (o : OwedOrders) (L : Line) (n : Nat) : OwedOrders :=
  { condition := o.condition || L.holds n .condition, clock := o.clock || L.holds n .clock,
    result := o.result || L.holds n .result, plate := o.plate || L.holds n .plate }

/-- The move of a terminal to another line or drop (R61): its entries leave the former line's queue and become owed; a good
POLL on the new line queues them (R162). -/
def State.moveTerminal (s : State) (n : Nat) (former : LineNo) : State :=
  (s.onContext n fun c => { c with owed := c.owed.take (s.line former) n }).onLine former fun L => L.without n

/-- A context is changed (R61). The move is made before the plate is asked for, so that what the former line held is owed
when it is (log 14). -/
def State.changeTerminal (s : State) (c : Context) (f : TerminalSet) : State :=
  let replaced := s.onContext c.number fun c => c.replace f
  let moved :=
    if c.line = f.line ∧ c.drop = f.drop then replaced else replaced.moveTerminal c.number c.line
  let plated := if c.zone = f.zone then moved else moved.askOrder c.number .plate
  if c.boxCapacity = f.boxCapacity ∧ c.paperCapacity = f.paperCapacity then plated
  else plated.act c.number fun c => c.reevaluate s.defaults

/-- TERMINAL SET with good fields (R59). -/
def State.terminalSet (s : State) (f : TerminalSet) : State :=
  if s.dropTaken f then s.reply .duplicate
  else
    match s.context f.number with
    | none => (s.createTerminal f).done (.terminalSet true)
    | some c => if s.engaged c then s.reply .state else (s.changeTerminal c f).done (.terminalSet false)

def execTerminalSet (tag : Byte) (body : List Byte) (s : State) : Host.Outcome State Fault Refusal :=
  .next (s.request tag 14 (fun s => readTerminalSet s.overrideOf body) fun f s => s.terminalSet f)

/-! ### TERMINAL REMOVE and TERMINAL GET -/

/-- The referrals of a deleted terminal: a WAITING one goes, a DECIDED one is detached (R62, R99). -/
def detach (n : Nat) (list : List Referral) : List Referral :=
  (list.filter fun r => !(r.terminal == n && r.decision.isNone)).map fun r =>
    if r.terminal = n then { r with detached := true } else r

/-- A context is deleted (R62). -/
def State.deleteTerminal (s : State) (c : Context) : State :=
  let gone : State := { s with contexts := s.contexts.filter fun d => d.number != c.number }
  ((gone.onLine c.line fun L => L.without c.number).onPermits fun t =>
    { t with referrals := detach c.number t.referrals }).dropNotices fun k => k == .terminal c.number

/-- TERMINAL REMOVE (R62, R119). -/
def State.terminalRemove (s : State) (n : Nat) : State :=
  match s.context n with
  | none => s.reply .noSuch
  | some c =>
    if !c.tally.isEmpty || (s.cash.roundOf n).isSome || c.inFlight.isSome || (s.line c.line).busyWith n then
      s.reply .state
    else (s.deleteTerminal c).done .plain

def execTerminalRemove (tag : Byte) (body : List Byte) (s : State) : Host.Outcome State Fault Refusal :=
  .next (s.request tag 15 (fun _ => readTerminal body) fun n s => s.terminalRemove n)

/-- TERMINAL GET (R63): the counters are cleared once the reply has taken their values. -/
def State.terminalGet (s : State) (n : Nat) (clear : Bool) : State :=
  match s.context n with
  | none => s.done .unconfigured
  | some c =>
    (if clear then s.onContext n fun c => { c with errors := .zero } else s).done
      (.terminal c c.condition c.faults.code (c.inForce s.defaults))

def execTerminalGet (tag : Byte) (body : List Byte) (s : State) : Host.Outcome State Fault Refusal :=
  .next (s.request tag 16 (fun _ => readTerminalGet body) fun a s => s.terminalGet a.1 a.2)

/-! ### TERMINAL ORDER -/

/-- END COLLECTION (R117). -/
def State.endCollection (s : State) (c : Context) : State :=
  if c.collection.isNone then s.reply .state else (s.collectionEnded c.number).done .plain

/-- SUSPEND and RESUME (R133). -/
def State.setSuspended (s : State) (c : Context) (suspended : Bool) : State :=
  if c.suspended = suspended then s.reply .state
  else (s.act c.number fun c => { c with suspended := suspended }).done .plain

/-- MESSAGE (R165). -/
def State.sendMessage (s : State) (c : Context) (text : List Byte) : State :=
  let L := s.line c.line
  if c.faults.silent || L.halted then s.reply .state
  else if Config.directedCapacity ≤ L.directed.length then s.reply .full
  else
    ((s.onLine c.line fun L =>
      { L with directed := L.directed ++ [{ terminal := c.number, kind := .message text }] }).chooseIfIdle
        c.line).done .plain

/-- TERMINAL ORDER with good fields: a terminal with no context is refused, whatever the order (R117, R133, R165). -/
def State.terminalOrder (s : State) (n : Nat) (order : Order) : State :=
  match s.context n with
  | none => s.reply .noSuch
  | some c =>
    match order with
    | .endCollection => s.endCollection c
    | .suspend => s.setSuspended c true
    | .resume => s.setSuspended c false
    | .message text => s.sendMessage c text

def execEndCollection (tag : Byte) (body : List Byte) (s : State) : Host.Outcome State Fault Refusal :=
  .next (s.request tag 17 (fun _ => readOrder body) fun a s => s.terminalOrder a.1 a.2)

def execSuspend (tag : Byte) (body : List Byte) (s : State) : Host.Outcome State Fault Refusal :=
  .next (s.request tag 17 (fun _ => readOrder body) fun a s => s.terminalOrder a.1 a.2)

def execResume (tag : Byte) (body : List Byte) (s : State) : Host.Outcome State Fault Refusal :=
  .next (s.request tag 17 (fun _ => readOrder body) fun a s => s.terminalOrder a.1 a.2)

def execMessage (tag : Byte) (body : List Byte) (s : State) : Host.Outcome State Fault Refusal :=
  .next (s.request tag 17 (fun _ => readOrder body) fun a s => s.terminalOrder a.1 a.2)

end Sys2Proof.Machine
end

