-- ==== Sys2Proof/Machine/Lines.lean ====
section
/-! DEFINITION. The Line Engines (R137 to R167): the host's seven requests, pace events, and the line's own timer and
transmission events. -/

namespace Sys2Proof.Machine

open Sys2Proof

/-! ### Settings and poll lists -/

/-- LINE SET with good fields (R138). -/
def State.lineSet (s : State) (l : LineNo) (settings : LineSettings) : State :=
  if (s.line l).state ≠ .stopped then s.reply .state
  else (s.onLine l fun L => { L with settings := settings, paceCounter := 0 }).done .plain

def execLineSet (tag : Byte) (body : List Byte) (s : State) : Host.Outcome State Fault Refusal :=
  .next (s.request tag 37 (fun _ => readLineSet body) fun a s => s.lineSet a.1 a.2)

/-- LINE GET (R139). -/
def State.lineGet (s : State) (l : LineNo) : State :=
  s.done (.line (s.line l).settings (s.line l).state (s.line l).exchange)

def execLineGet (tag : Byte) (body : List Byte) (s : State) : Host.Outcome State Fault Refusal :=
  .next (s.request tag 38 (fun _ => readLine body) fun l s => s.lineGet l)

/-- POLL LIST PUT with good fields (R154). -/
def State.pollListPut (s : State) (l : LineNo) (drops : List Nat) : State :=
  if (s.line l).state ≠ .stopped then s.reply .state
  else (s.onLine l fun L => { L with pollList := drops }).done .plain

def execPollListPut (tag : Byte) (body : List Byte) (s : State) : Host.Outcome State Fault Refusal :=
  .next (s.request tag 41 (fun _ => readPollList body) fun a s => s.pollListPut a.1 a.2)

/-- Where the sweep stands, given while the line is in use, that is not STOPPED (R154, R137). -/
def Line.use (L : Line) : Option (Nat × Pass × Option Leg) :=
  if L.state = .stopped then none
  else some (L.position, L.pass, if L.settings.mode = .paced then some L.leg else none)

/-- POLL LIST GET (R154). -/
def State.pollListGet (s : State) (l : LineNo) : State :=
  s.done (.pollList (s.line l).pollList (s.line l).use)

def execPollListGet (tag : Byte) (body : List Byte) (s : State) : Host.Outcome State Fault Refusal :=
  .next (s.request tag 42 (fun _ => readLine body) fun l s => s.pollListGet l)

/-! ### Starting and stopping a line -/

/-- A line brought into use (R140), its sweep as LINE START sets it (R153) and its mode begun (R156 to R158). -/
def Line.start (L : Line) : Line :=
  { L with
    state := .idle, paceCounter := 0, position := 1, passRecord := [], madeExchange := false, earliestReached := false
    leg := .none
    pass := if L.settings.mode = .paced then .none else .running }

/-- LINE START (R140). -/
def State.lineStart (s : State) (l : LineNo) : State :=
  if (s.line l).state ≠ .stopped ∨ (s.line l).pollList = [] then s.reply .state
  else
    (((s.onLine l Line.start).dropNotices fun k => k == .sweepComplete l || k == .paceOverrun l).choose l).done .plain

def execLineStart (tag : Byte) (body : List Byte) (s : State) : Host.Outcome State Fault Refusal :=
  .next (s.request tag 39 (fun _ => readLine body) fun l s => s.lineStart l)

/-- What each terminal's entries in a line's directed queue make owed when the queue is emptied (R141). -/
def State.oweQueue (s : State) (l : LineNo) : State :=
  { s with contexts := s.contexts.map fun c => { c with owed := c.owed.take (s.line l) c.number } }

/-- LINE STOP (R141). -/
def State.lineStop (s : State) (l : LineNo) : State :=
  if (s.line l).halted then s.reply .state
  else
    ((s.oweQueue l).onLine l fun L =>
      { L with directed := [], state := if L.state = .idle then .stopped else .stopping }).done .plain

def execLineStop (tag : Byte) (body : List Byte) (s : State) : Host.Outcome State Fault Refusal :=
  .next (s.request tag 40 (fun _ => readLine body) fun l s => s.lineStop l)

/-! ### Pace events and SWEEP (R158, R159) -/

/-- A pace event at a PACED line in use (R158). -/
def State.paceEvent (s : State) (l : LineNo) : State :=
  if (s.line l).leg = .none then (s.onLine l fun L => { L with leg := .pending }).chooseIfIdle l
  else s.notice (.paceOverrun l)

/-- What a SWEEP request does (R159). -/
def Line.disposition (L : Line) : Disposition :=
  if L.halted then .none
  else
    match L.settings.mode with
    | .single => if L.pass = .none then .started else .none
    | .continuous => .none
    | .paced =>
      match L.settings.source with
      | .clock => .none
      | .host => if L.leg = .none then .leg else .overrun

/-- The effect of a SWEEP with its disposition (R159). -/
def State.sweepEffect (s : State) (l : LineNo) : Disposition → State
  | .none => s
  | .started =>
    (s.onLine l fun L =>
      { L with pass := .running, position := 1, passRecord := [], madeExchange := false }).chooseIfIdle l
  | .leg => s.paceEvent l
  | .overrun => s.paceEvent l

/-- SWEEP (R159): the disposition is read as the request is taken. -/
def State.sweep (s : State) (l : LineNo) : State :=
  (s.sweepEffect l (s.line l).disposition).done (.sweep (s.line l).disposition)

def execSweep (tag : Byte) (body : List Byte) (s : State) : Host.Outcome State Fault Refusal :=
  .next (s.request tag 43 (fun _ => readLine body) fun l s => s.sweep l)

/-- A tick that was handed on is taken; one that was not returns the counter to 0 (R3, log 5). -/
def Line.takeTick (L : Line) : Line :=
  if L.ticksHanded = 0 then { L with paceCounter := 0 } else { L with ticksHanded := L.ticksHanded - 1 }

/-- A tick is a pace event at a line in use that is PACED by the clock; any other line lets it pass (R3, R141, R158). -/
def Line.pacedByClock (L : Line) : Bool := !L.halted && L.settings.mode == .paced && L.settings.source == .clock

/-- PACE TICK (R3, R158). -/
def State.paceTick (s : State) (l : LineNo) : State :=
  let taken := s.onLine l Line.takeTick
  if (s.line l).pacedByClock then taken.paceEvent l else taken

def execPaceTick (line : LineNo) (s : State) : Host.Outcome State Fault Refusal :=
  .next (s.working fun s => s.paceTick line)

/-! ### Transmission, turnaround and timers (R142, R145, R148, R157) -/

/-- What a good exchange with a terminal queues for it: only one whose frame was a POLL (R150, R162). -/
def Exchange.polled (e : Exchange) : Option Nat := if e.frame = .poll then some e.terminal else none

/-- A frame's transmission is complete (R142, R145): a POLL or ORDER opens its response window, an ANSWER ends its
exchange. -/
def State.sent (s : State) (l : LineNo) : State :=
  if (s.line l).driving then
    match (s.line l).exchange with
    | none => s.onLine l fun L => { L with driving := false }
    | some e =>
      match e.phase with
      | .send => s.onLine l fun L => { L with driving := false, exchange := some { e with phase := .window } }
      | .answer => s.endExchange l e.polled
      | .window => s
      | .receive => s
      | .engine => s
  else s

def execFrameTransmissionComplete (line : LineNo) (s : State) : Host.Outcome State Fault Refusal :=
  .next (s.working fun s => s.sent line)

/-- An exchange whose try ended with a rejected frame, which the turnaround finds in its RECEIVE phase, goes back to SEND
(R146). -/
def Exchange.afterTurnaround (e : Exchange) : Exchange := if e.phase = .receive then { e with phase := .send } else e

/-- Three character times have passed since the last received frame (R142): a frame that waited, or the one a rejected reply
calls for again (R146), is sent. -/
def State.turnaroundOver (s : State) (l : LineNo) : State :=
  if (s.line l).turnaround then
    s.onLine l fun L =>
      ({ L with turnaround := false, exchange := L.exchange.map Exchange.afterTurnaround } : Line).transmit
  else s

def execTurnaroundExpiry (line : LineNo) (s : State) : Host.Outcome State Fault Refusal :=
  .next (s.working fun s => s.turnaroundOver line)

/-- The response window runs out with no character begun (R145, R146). -/
def State.windowOver (s : State) (l : LineNo) : State :=
  match (s.line l).exchange with
  | none => s
  | some e => if e.phase = .window then s.noReply l e e.resend else s

def execResponseWindowExpiry (line : LineNo) (s : State) : Host.Outcome State Fault Refusal :=
  .next (s.working fun s => s.windowOver line)

/-- A character begins to arrive in the WINDOW phase (R145). -/
def State.characterBegins (s : State) (l : LineNo) : State :=
  match (s.line l).exchange with
  | none => s
  | some e =>
    if e.phase = .window then s.onLine l fun L => { L with exchange := some { e with phase := .receive } } else s

def execCharacterBeginsToArrive (line : LineNo) (s : State) : Host.Outcome State Fault Refusal :=
  .next (s.working fun s => s.characterBegins line)

/-- The number of the request the exchange took. -/
def Exchange.request (e : Exchange) : Option Nat :=
  match e.taken with
  | some (.request number _) => some number
  | some (.event _ _) => none
  | none => none

/-- The service limit runs out in the ENGINE phase (R148): BUSY is sent, and the Terminal Table is told. -/
def State.serviceLimitOver (s : State) (l : LineNo) : State :=
  match (s.line l).exchange with
  | none => s
  | some e =>
    if e.phase = .engine then
      match e.request with
      | none => s
      | some number => (s.onLine l fun L => L.answer e number .busy).withdraw e.terminal number
    else s

def execServiceLimitExpiry (line : LineNo) (s : State) : Host.Outcome State Fault Refusal :=
  .next (s.working fun s => s.serviceLimitOver line)

/-- The earliest start of the next CONTINUOUS pass is reached (R157): a WAITING pass runs; a RUNNING one is told for its end
(log 4). The model's choice (log 40): at a STOPPING or STOPPED line it changes nothing, of which R157 and R141 do not speak. -/
def State.earliestStart (s : State) (l : LineNo) : State :=
  if !(s.line l).halted && (s.line l).settings.mode == .continuous then
    match (s.line l).pass with
    | .waiting => (s.onLine l fun L => { L with pass := .running }).chooseIfIdle l
    | .running => s.onLine l fun L => { L with earliestReached := true }
    | .none => s
  else s

def execEarliestStartReached (line : LineNo) (s : State) : Host.Outcome State Fault Refusal :=
  .next (s.working fun s => s.earliestStart line)

end Sys2Proof.Machine
end

