-- ==== Sys2Proof/Machine/Link.lean ====
section
/-! DEFINITION. The Link Port (R168 to R177, R179): NOTICE TAKE, PART STATUS and RESTART, and the events of the link. -/

namespace Sys2Proof.Machine

open Sys2Proof

/-! ### Notices and status -/

/-- The fields of the reply that takes an entry (R175, R77), read when the entry has left the queue. -/
def State.noticeFields (s : State) (n : Notice) (left : Nat) : DoneFields :=
  match n.kind with
  | .terminal number =>
    match s.context number with
    | none => .terminalNotice number .empty [] .unconfigured 0 .empty none left
    | some c => .terminalNotice number c.reports c.events c.condition c.faults.code c.faults c.plateVersion left
  | .sweepComplete line => .lineNotice false line n.count left
  | .paceOverrun line => .lineNotice true line n.count left
  | .switchover => .switchoverNotice n.count s.tariffs.active (s.tariffs.bank s.tariffs.active).version left
  | .referrals =>
    .referralsNotice n.count s.permits.referrals.length
      (s.permits.referrals.filter fun r => r.decision.isNone).length left
  | .roundComplete => .roundNotice n.count s.cash.lastSelfClosed left

/-- What taking an entry does to its terminal: the pending report set and the event buffer are emptied (R77). -/
def State.emptyReports (s : State) (kind : NoticeKind) : State :=
  match kind with
  | .terminal number => s.onContext number fun c => { c with reports := .empty, events := [] }
  | .sweepComplete _ => s
  | .paceOverrun _ => s
  | .switchover => s
  | .referrals => s
  | .roundComplete => s

/-- NOTICE TAKE (R175). -/
def State.noticeTake (s : State) : State :=
  match s.notices with
  | [] => s.done .noNotice
  | n :: rest => ((s.setNotices rest).emptyReports n.kind).done (s.noticeFields n rest.length)

def execNoticeTake (tag : Byte) (body : List Byte) (s : State) : Host.Outcome State Fault Refusal :=
  .next (s.request tag 44 (fun _ => readNothing body) fun _ s => s.noticeTake)

/-- PART STATUS (R177). -/
def State.partStatus (s : State) : State :=
  s.done (.status s.link.lastStart s.link.rate s.clock.valid s.contexts.length s.permits.records.length
    (s.lines.toList.map (·.state)) s.notices.length s.link.check s.link.timeout s.link.dropped)

def execPartStatus (tag : Byte) (body : List Byte) (s : State) : Host.Outcome State Fault Refusal :=
  .next (s.request tag 45 (fun _ => readNothing body) fun _ s => s.partStatus)

/-- RESTART (R179): the WARM start follows the reply's transmission. -/
def execRestart (tag : Byte) (body : List Byte) (s : State) : Host.Outcome State Fault Refusal :=
  .next (s.request tag 46 (fun _ => readNothing body) fun _ s => s.done .plain)

/-! ### The events of the link -/

/-- A kind byte that is a request kind of the part (R182). -/
def requestKind (kind : Byte) : Bool := within 1 kind.toNat 46

/-- UNKNOWN KIND (R170). A kind of the part's own is not this command's (log 2). -/
def execUnknownKind (tag kind : Byte) (s : State) : Host.Outcome State Fault Refusal :=
  .next (if requestKind kind then s else s.acceptFrame tag kind fun s => s.reply .unknownKind)

/-- A frame accepted while a request is outstanding (R171). -/
def State.overlapped (s : State) (tag kind : Byte) : State :=
  match s.link.outstanding with
  | none => s
  | some _ => s.acceptFrame tag kind fun s => s

def execOverlap (tag kind : Byte) (s : State) : Host.Outcome State Fault Refusal := .next (s.overlapped tag kind)

/-- A link event while the link takes frames. -/
def State.ifOpen (s : State) (f : Link → Link) : State := if s.linkOpen then s.onLink f else s

def execLinkFrameDiscarded (s : State) : Host.Outcome State Fault Refusal :=
  .next (s.ifOpen fun k => { k with receiver := .hunting, check := countUp Config.counterHold k.check })

/-- The limit of a frame runs out (R169): only a RECEIVING receiver has one. -/
def Link.frameLimit (k : Link) : Link :=
  match k.receiver with
  | .hunting => k
  | .receiving _ => { k with receiver := .hunting, timeout := countUp Config.counterHold k.timeout }

def execFrameLimitExpiry (s : State) : Host.Outcome State Fault Refusal := .next (s.ifOpen Link.frameLimit)

/-- A marker arrives (R169): inside a frame it is a byte of that frame. -/
def Link.marker (k : Link) (now : Nat) : Link :=
  match k.receiver with
  | .hunting => { k with receiver := .receiving now }
  | .receiving _ => k

def execFrameMarkerReceived (s : State) : Host.Outcome State Fault Refusal :=
  .next (s.ifOpen fun k => k.marker s.elapsed)

/-- The reply that RESTART waits for (R179). -/
def Reply.restarts (r : Reply) : Bool := r.kind == 46#8 && r.body == .done .plain

/-- The transmission of a reply is complete (R171, R179). An OVERLAP reply ends no request. After RESTART's reply nothing more
is sent, and the WARM start is due (log 7). -/
def Link.sent (k : Link) : Link :=
  match k.sending with
  | none => k
  | some r =>
    if r.restarts then { k with sending := none, outstanding := none, warmStartDue := true }
    else
      let outstanding := if r.body = .overlap then k.outstanding else none
      match k.waiting with
      | [] => { k with sending := none, outstanding := outstanding }
      | next :: rest => { k with sending := some next, waiting := rest, outstanding := outstanding }

def execReplyTransmissionComplete (s : State) : Host.Outcome State Fault Refusal :=
  .next (s.working fun s => s.onLink Link.sent)

end Sys2Proof.Machine
end

