-- ==== Sys2Proof/Machine/Monitor.lean ====
section
/-! DEFINITION. The Condition Monitor's host requests (R126 to R129). -/

namespace Sys2Proof.Machine

open Sys2Proof

/-- FAULT CLEAR with good fields (R126). -/
def State.faultClear (s : State) (n : Nat) (named : FaultSet) : State :=
  match s.context n with
  | none => s.reply .noSuch
  | some c =>
    (s.act n fun c => { c with faults := c.faults.without named }).done (.faultSet (c.faults.without named))

def execFaultClear (tag : Byte) (body : List Byte) (s : State) : Host.Outcome State Fault Refusal :=
  .next (s.request tag 32 (fun _ => readFaultClear body) fun a s => s.faultClear a.1 a.2)

/-- Every configured terminal without an override is re-evaluated, in ascending terminal number (R128). -/
def State.reevaluateAll (s : State) : State :=
  ((s.contexts.filter fun c => c.override.isNone).map (·.number)).foldl
    (fun s n => s.act n fun c => c.reevaluate s.defaults) s

/-- THRESHOLD DEFAULT SET with good fields (R128). -/
def State.setDefaults (s : State) (t : Thresholds) : State :=
  ({ s with defaults := t } : State).reevaluateAll.done .plain

def execThresholdDefaultSet (tag : Byte) (body : List Byte) (s : State) : Host.Outcome State Fault Refusal :=
  .next (s.request tag 33 (fun _ => readThresholds body) fun t s => s.setDefaults t)

/-- THRESHOLD DEFAULT GET (R128). -/
def execThresholdDefaultGet (tag : Byte) (body : List Byte) (s : State) : Host.Outcome State Fault Refusal :=
  .next (s.request tag 34 (fun _ => readNothing body) fun _ s => s.done (.thresholds s.defaults))

/-- A terminal's override is set or removed, and it is re-evaluated in the same act (R129). -/
def State.override (s : State) (c : Context) (o : Option Thresholds) : State :=
  (s.act c.number fun c => ({ c with override := o } : Context).reevaluate s.defaults).done
    (.thresholds (({ c with override := o } : Context).inForce s.defaults))

/-- THRESHOLD OVERRIDE SET (R129): the context is looked for before fields 2 to 4 are looked at. -/
def State.overrideSet (s : State) (n : Nat) (t : Thresholds) : State :=
  match s.context n with
  | none => s.reply .noSuch
  | some c => s.owned (checkOverride c.boxCapacity c.paperCapacity t) fun t s => s.override c (some t)

def execThresholdOverrideSet (tag : Byte) (body : List Byte) (s : State) : Host.Outcome State Fault Refusal :=
  .next (s.request tag 35 (fun _ => readOverride body) fun a s => s.overrideSet a.1 a.2)

/-- THRESHOLD OVERRIDE DROP (R129). -/
def State.overrideDrop (s : State) (n : Nat) : State :=
  match s.context n with
  | none => s.reply .noSuch
  | some c => if c.override.isNone then s.reply .state else s.override c none

def execThresholdOverrideDrop (tag : Byte) (body : List Byte) (s : State) : Host.Outcome State Fault Refusal :=
  .next (s.request tag 36 (fun _ => readTerminal body) fun n s => s.overrideDrop n)

end Sys2Proof.Machine
end

