-- ==== Sys2Proof/Machine/PermitRequests.lean ====
section
/-! DEFINITION. The Permit Table's host requests (R83 to R86, R92, R96, R97), the completions of its operations (R81,
R83, R88) and the expiry of a referral's deadline (R94). -/

namespace Sys2Proof.Machine

open Sys2Proof

def execPermitLoad (tag : Byte) (body : List Byte) (s : State) : Host.Outcome State Fault Refusal :=
  .next (s.request tag 18 (fun _ => readPermitLoad body) fun records s => s.placeOp (.load records))

def execPermitChange (tag : Byte) (body : List Byte) (s : State) : Host.Outcome State Fault Refusal :=
  .next (s.request tag 19 (fun _ => readPermitChange body) fun c s => s.placeOp (.change c))

def execPermitDrop (tag : Byte) (body : List Byte) (s : State) : Host.Outcome State Fault Refusal :=
  .next (s.request tag 20 (fun _ => readPermitNumber body) fun n s => s.placeOp (.drop n))

def execPermitGet (tag : Byte) (body : List Byte) (s : State) : Host.Outcome State Fault Refusal :=
  .next (s.request tag 21 (fun _ => readPermitNumber body) fun n s => s.placeOp (.get n))

def execPermitScan (tag : Byte) (body : List Byte) (s : State) : Host.Outcome State Fault Refusal :=
  .next (s.request tag 22 (fun _ => readPermitScan body) fun a s => s.placeOp (.scan a.1 a.2))

/-- REFERRAL SET (R92), taken at once. -/
def State.referralSet (s : State) (enabled : Bool) (timeout : Nat) : State :=
  (s.onPermits fun t => { t with referralEnabled := enabled, referralTimeout := timeout }).done .plain

def execReferralSet (tag : Byte) (body : List Byte) (s : State) : Host.Outcome State Fault Refusal :=
  .next (s.request tag 23 (fun _ => readReferralSet body) fun a s => s.referralSet a.1 a.2)

/-- A referral as REFERRAL LIST reads it (R96): 0 seconds are left to a DECIDED one. -/
def Referral.reading (r : Referral) (elapsed : Nat) : ReferralReading :=
  { referral := r, secondsLeft := if r.decision.isSome then 0 else r.deadline - elapsed }

/-- REFERRAL LIST (R96), taken at once. -/
def State.referralList (s : State) : State :=
  s.done (.referrals
    ((s.permits.referrals.insertionSort fun a b => a.number ≤ b.number).map fun r => r.reading s.elapsed))

def execReferralList (tag : Byte) (body : List Byte) (s : State) : Host.Outcome State Fault Refusal :=
  .next (s.request tag 24 (fun _ => readNothing body) fun _ s => s.referralList)

/-- The permit number of the referral that holds a number. -/
def State.referredPermit (s : State) (number : Nat) : Option Nat := (s.referralOf number).map (·.permit)

def execReferralAnswer (tag : Byte) (body : List Byte) (s : State) : Host.Outcome State Fault Refusal :=
  .next (s.request tag 25 (fun s => readReferralAnswer s.referredPermit body) fun a s => s.placeOp (.answer a.1 a.2))

def execLookupComplete (s : State) : Host.Outcome State Fault Refusal := .next (s.working State.completeLookup)

def execRecordInsertion (s : State) : Host.Outcome State Fault Refusal := .next (s.working State.insertStep)

def execPermitOperationComplete (s : State) : Host.Outcome State Fault Refusal := .next (s.working State.completeOp)

/-- The deadline of a WAITING referral expires (R94). -/
def State.expireReferral (s : State) (number : Nat) : State :=
  match s.referralOf number with
  | none => s
  | some r => if r.decision.isSome then s else s.refuseReferral r .permitUnknown

def execReferralDeadlineExpiry (referral : Byte) (s : State) : Host.Outcome State Fault Refusal :=
  .next (s.working fun s => s.expireReferral referral.toNat)

end Sys2Proof.Machine
end

