-- ==== Sys2Proof/Machine/Requests.lean ====
section
/-! DEFINITION. What a terminal sends (R64 to R66, R74, R75, R95, R142 to R150): the tests of a received frame, requests,
events and acknowledgements, with the meanings of the terminals' commands. -/

namespace Sys2Proof.Machine

open Sys2Proof

/-! ### Requests (R65, R66, R95) -/

/-- CANCEL (R95). -/
def State.cancelRequest (s : State) (n request : Nat) : State :=
  match s.waitingOf n with
  | some r => (s.dropReferral r).handAnswer n request .cancelled
  | none => s.handAnswer n request .taken

/-- The implicit cancel of a WAITING referral (R95). -/
def State.implicitCancel (s : State) (n : Nat) : State :=
  match s.waitingOf n with
  | some r => s.dropReferral r
  | none => s

/-- The request in flight is set (R58). -/
def State.setInFlight (s : State) (n : Nat) (kind : FlightKind) (number : Nat) : State :=
  s.onContext n fun c => { c with inFlight := some { kind := kind, number := number, withdrawn := false } }

/-- A QUOTE or SALE is placed on the fare queue (R65 test 5, R33). -/
def State.placeRequest (s : State) (c : Context) (number : Nat) (kind : FareKind) (pence : Nat) : State :=
  s.placeFare
    { kind := kind, budget := .money pence, zone := c.zone, bank := .active, start := none,
      returnTo := .terminal c.number number, permit := none }

/-- Tests 4 to 6 of R65. -/
def State.serveRequest (s : State) (c : Context) (number : Nat) (request : TermRequest) : State :=
  match request with
  | .quote amount => (s.setInFlight c.number .quote number).placeRequest c number .quote amount
  | .sale coins version =>
    match c.last.filter fun l => l.1 == number with
    | some last => s.handAnswer c.number number (.ticket last.2)
    | none => (s.setInFlight c.number (.sale coins version) number).placeRequest c number .sale coins.pence
  | .session permit minutes =>
    match c.last.filter fun l => l.1 == number with
    | some last => s.handAnswer c.number number (.ticket last.2)
    | none =>
      (s.setInFlight c.number .session number).placeOp
        (.lookup { terminal := c.number, request := number, permit := permit, minutes := minutes, zone := c.zone })
  | .cancel => s.cancelRequest c.number number

/-- The request is the SESSION that the context's referral names (R65 test 3). -/
def TermRequest.isReferred (request : TermRequest) (number : Nat) (mark : ReferralMark) : Bool :=
  match request with
  | .session _ _ => mark.request == number
  | _ => false

/-- A request from a terminal (R64, R65); a malformed one is `none`. -/
def State.takeRequest (s : State) (n number : Nat) (request : Option TermRequest) : State :=
  match s.context n with
  | none => s
  | some c =>
    match request with
    | none => s.handAnswer n number (.refused .badRequest)
    | some request =>
      if c.inFlight.isSome then s.handAnswer n number .busy
      else if request = .cancel then s.cancelRequest n number
      else
        match c.referral with
        | none => s.serveRequest c number request
        | some mark =>
          if request.isReferred number mark then s.handAnswer n number .wait
          else (s.implicitCancel n).serveRequest c number request

/-! ### Events (R74, R75) -/

/-- A taken event is handed to its owner (R74). -/
def State.handEvent (s : State) (n : Nat) (event : Event) : State :=
  match event with
  | .doorOpen code => s.doorOpened n code
  | .doorClosed => s.collectionEnded n
  | .boxReplaced => s.boxLifted n
  | .paperOut => s.act n fun c => c.sense s.defaults event
  | .paperLoaded _ => s.act n fun c => c.sense s.defaults event
  | .printerFault => s.act n fun c => c.sense s.defaults event
  | .printFailed _ => s.act n fun c => c.sense s.defaults event
  | .printerOk => s.act n fun c => c.sense s.defaults event
  | .coinPathFault => s.act n fun c => c.sense s.defaults event
  | .coinPathOk => s.act n fun c => c.sense s.defaults event

/-- A taken event is appended to the buffer, and EVENTS joins the pending report set (R75). -/
def State.bufferEvent (s : State) (n number : Nat) (event : Event) : State :=
  (s.onContext n fun c =>
    { c with
      lastEvent := some number
      events := c.events ++ [{ number := number, event := event, taken := s.clock.now }] }).report n
    fun r => { r with events := true }

/-- The event and its answer (R75): a repeat, room in the buffer, or a full buffer. -/
def State.takeEvent (s : State) (n number : Nat) (event : Event) : State × Answer :=
  match s.context n with
  | none => (s, .taken)
  | some c =>
    if c.lastEvent = some number then (s, .taken)
    else if c.events.length < Config.eventCapacity then ((s.handEvent n event).bufferEvent n number event, .taken)
    else (s.report n fun r => { r with held := true }, .hold)

/-! ### Acknowledgements (R149) -/

/-- The acknowledgement of an ORDER reaches its owner. -/
def State.ackOrder (s : State) (l : LineNo) (n : Nat) (content : OrderContent) : State :=
  match content with
  | .condition _ _ => s
  | .clock _ => s
  | .message _ => s
  | .result held =>
    s.onContext n fun c =>
      if c.held.map (·.referral) = held.map (·.referral) then { c with held := none } else c
  | .plate block plate =>
    match plate.tail with
    | some (_, _, version) =>
      ((s.onLine l fun L => { L with chain := none }).onContext n fun c =>
        { c with plateVersion := some version }).report n fun r => { r with plate := true }
    | none => s.onLine l fun L => { L with chain := L.chain.map fun c => { c with acked := block } }

/-- The body of the ACK of an ORDER (R143, R183): the order kind, and the block of a PLATE in 1 byte (log 31). -/
def OrderContent.ack : OrderContent → List Byte
  | .condition _ _ => [1]
  | .clock _ => [2]
  | .result _ => [3]
  | .plate block _ => [4, BitVec.ofNat 8 block]
  | .message _ => [5]

/-! ### Received frames (R142, R144, R147) -/

/-- The exchange that is open to a received frame: in its WINDOW or RECEIVE phase (R144), the time in which it waits to send
its frame again after a rejected one included (log 38). -/
def Line.listening (L : Line) : Option Exchange :=
  L.exchange.filter fun e => e.phase == .window || e.phase == .receive

/-- A frame that meets no open exchange is discarded without counting; the turnaround runs from its end (R142, R144). While
the line drives, its receiver is ignored. -/
def State.discardFrame (s : State) (l : LineNo) : State :=
  if (s.line l).driving then s else s.onLine l fun L => { L with turnaround := true }

/-- A rejected frame (R144): one counter, and the try counts as no reply; the frame is sent again after the turnaround, which
runs from the rejected frame's end (R142, R146). -/
def State.rejectFrame (s : State) (l : LineNo) (e : Exchange) (count : ErrorCounters → ErrorCounters) : State :=
  ((s.onLine l fun L => { L with turnaround := true }).onContext e.terminal fun c =>
    { c with errors := count c.errors }).noReply l e e.awaitResend

def ErrorCounters.protocolError (k : ErrorCounters) : ErrorCounters :=
  { k with protocol := countUp Config.counterHold k.protocol }

def ErrorCounters.checkError (k : ErrorCounters) : ErrorCounters :=
  { k with check := countUp Config.counterHold k.check }

/-- The class of a faulty character (R144 test 1): overrun, then framing, then parity, then noise. -/
def countFault (c : RxChar) (k : ErrorCounters) : ErrorCounters :=
  if c.overrun then { k with overrun := countUp Config.counterHold k.overrun }
  else if c.framing then { k with framing := countUp Config.counterHold k.framing }
  else if c.parity then { k with parity := countUp Config.counterHold k.parity }
  else if c.noise then { k with noise := countUp Config.counterHold k.noise }
  else k

def faulty (c : RxChar) : Bool := c.overrun || c.framing || c.parity || c.noise

/-- The frame sent may receive this frame (R143, R144 test 4). The model's choice (log 33): an ACK with bytes beyond the kind
and block it names fails this test. -/
def SentFrame.expects (sent : SentFrame) (frame : TermFrame) : Bool :=
  match sent, frame with
  | .poll, .idle => true
  | .poll, .request _ _ => true
  | .poll, .event _ _ => true
  | .order content, .ack body => body == content.ack
  | _, _ => false

/-- A good frame from the terminal: the turnaround runs from its end, and SILENT is removed before the frame is handed on
(R125, R142, R150). -/
def State.goodFrame (s : State) (l : LineNo) (n : Nat) : State :=
  (s.onLine l fun L => { L with turnaround := true }).act n fun c =>
    { c with faults := { c.faults with silent := false } }

/-- What is done with an accepted frame (R147, R149). -/
def State.handFrame (s : State) (l : LineNo) (e : Exchange) (frame : TermFrame) : State :=
  match frame with
  | .idle => s.endExchange l e.polled
  | .request number request =>
    (s.onLine l fun L =>
      { L with
        state := if L.state = .stopping then .stopping else .awaitEngine
        exchange := some { e with phase := .engine, taken := some (.request number request) } }).takeRequest
      e.terminal number request
  | .event number event =>
    let taken := s.takeEvent e.terminal number event
    taken.1.onLine l fun L => L.answer { e with taken := some (.event number event) } number taken.2
  | .ack _ =>
    match e.frame with
    | .order content => (s.ackOrder l e.terminal content).endExchange l none
    | .poll => s
  | .unknown => s

/-- A frame that has passed tests 1 and 2 (R144): tests 3 and 4, and what follows. -/
def State.received (s : State) (l : LineNo) (drop : Nat) (frame : TermFrame) : State :=
  match (s.line l).listening with
  | none => s.discardFrame l
  | some e =>
    if drop = e.drop ∧ e.frame.expects frame then (s.goodFrame l e.terminal).handFrame l e frame
    else s.rejectFrame l e ErrorCounters.protocolError

/-- The characters of a received frame (R142, R144), which end where its length gives: tests 1 and 2, then the others. What
stands after the end belongs to another frame, which comes by a command of its own (log 38). -/
def State.receivedRaw (s : State) (l : LineNo) (received : List RxChar) : State :=
  match (s.line l).listening with
  | none => s.discardFrame l
  | some e =>
    let frame := endedAt (received[2]?.map (·.byte.toNat)) received
    match frame.find? faulty with
    | some c => s.rejectFrame l e (countFault c)
    | none =>
      match openLineFrame (frame.map (·.byte)) with
      | none => s.rejectFrame l e ErrorCounters.checkError
      | some (drop, kind, body) => s.received l drop.toNat (termFrame kind body)

/-! ### The commands -/

def execQuote (line : LineNo) (drop number : Byte) (rest : List Byte) (s : State) : Host.Outcome State Fault Refusal :=
  .next (s.working fun s => s.received line drop.toNat (requestFrame number (readQuote rest)))

def execSale (line : LineNo) (drop number : Byte) (rest : List Byte) (s : State) : Host.Outcome State Fault Refusal :=
  .next (s.working fun s => s.received line drop.toNat (requestFrame number (readSale rest)))

def execSession (line : LineNo) (drop number : Byte) (rest : List Byte) (s : State) :
    Host.Outcome State Fault Refusal :=
  .next (s.working fun s => s.received line drop.toNat (requestFrame number (readSession rest)))

def execCancel (line : LineNo) (drop number : Byte) (rest : List Byte) (s : State) :
    Host.Outcome State Fault Refusal :=
  .next (s.working fun s => s.received line drop.toNat (requestFrame number (readCancel rest)))

def execDoorOpen (line : LineNo) (drop number : Byte) (parameter : List Byte) (s : State) :
    Host.Outcome State Fault Refusal :=
  .next (s.working fun s => s.received line drop.toNat (eventFrame number (readDoorOpen parameter)))

def execDoorClosed (line : LineNo) (drop number : Byte) (parameter : List Byte) (s : State) :
    Host.Outcome State Fault Refusal :=
  .next (s.working fun s => s.received line drop.toNat (eventFrame number (readBare .doorClosed parameter)))

def execBoxReplaced (line : LineNo) (drop number : Byte) (parameter : List Byte) (s : State) :
    Host.Outcome State Fault Refusal :=
  .next (s.working fun s => s.received line drop.toNat (eventFrame number (readBare .boxReplaced parameter)))

def execPaperOut (line : LineNo) (drop number : Byte) (parameter : List Byte) (s : State) :
    Host.Outcome State Fault Refusal :=
  .next (s.working fun s => s.received line drop.toNat (eventFrame number (readBare .paperOut parameter)))

def execPaperLoaded (line : LineNo) (drop number : Byte) (parameter : List Byte) (s : State) :
    Host.Outcome State Fault Refusal :=
  .next (s.working fun s => s.received line drop.toNat (eventFrame number (readPaperLoaded parameter)))

def execPrinterFault (line : LineNo) (drop number : Byte) (parameter : List Byte) (s : State) :
    Host.Outcome State Fault Refusal :=
  .next (s.working fun s => s.received line drop.toNat (eventFrame number (readBare .printerFault parameter)))

def execPrintFailed (line : LineNo) (drop number : Byte) (parameter : List Byte) (s : State) :
    Host.Outcome State Fault Refusal :=
  .next (s.working fun s => s.received line drop.toNat (eventFrame number (readPrintFailed parameter)))

def execPrinterOk (line : LineNo) (drop number : Byte) (parameter : List Byte) (s : State) :
    Host.Outcome State Fault Refusal :=
  .next (s.working fun s => s.received line drop.toNat (eventFrame number (readBare .printerOk parameter)))

def execCoinPathFault (line : LineNo) (drop number : Byte) (parameter : List Byte) (s : State) :
    Host.Outcome State Fault Refusal :=
  .next (s.working fun s => s.received line drop.toNat (eventFrame number (readBare .coinPathFault parameter)))

def execCoinPathOk (line : LineNo) (drop number : Byte) (parameter : List Byte) (s : State) :
    Host.Outcome State Fault Refusal :=
  .next (s.working fun s => s.received line drop.toNat (eventFrame number (readBare .coinPathOk parameter)))

def execIdle (line : LineNo) (drop : Byte) (s : State) : Host.Outcome State Fault Refusal :=
  .next (s.working fun s => s.received line drop.toNat .idle)

def execAck (line : LineNo) (drop : Byte) (body : List Byte) (s : State) : Host.Outcome State Fault Refusal :=
  .next (s.working fun s => s.received line drop.toNat (.ack body))

def execRejectedFrame (line : LineNo) (received : List RxChar) (s : State) : Host.Outcome State Fault Refusal :=
  .next (s.working fun s => s.receivedRaw line received)

/-- LINE FRAME DISCARDED (R144): a frame that meets no open exchange. -/
def State.frameDiscarded (s : State) (l : LineNo) : State :=
  match (s.line l).listening with
  | none => s.discardFrame l
  | some _ => s

def execLineFrameDiscarded (line : LineNo) (s : State) : Host.Outcome State Fault Refusal :=
  .next (s.working fun s => s.frameDiscarded line)

end Sys2Proof.Machine
end

