-- ==== Sys2Proof/Machine/Starts.lean ====
section
/-! DEFINITION. The starts and the supplies (R13, R30, R56, R78, R100, R120, R136, R152, R167, R178 to R180). -/

namespace Sys2Proof.Machine

open Sys2Proof

/-! ### What a start does to each block -/

/-- The Link Port after a start of a kind has begun (R178 step 1, R180). The rate stays until START COMPLETE reads the
strap. -/
def Link.restart (k : Link) (kind : StartKind) : Link :=
  { rate := k.rate, receiver := .hunting, outstanding := none, waiting := [], sending := none, check := 0, timeout := 0,
    dropped := 0, lastStart := kind, starting := true, warmStartDue := false }

/-- A line after a POWER or WARM start (R13, R152, R167): settings and poll list are kept, the sweep waits for LINE START. -/
def Line.restart (L : Line) : Line :=
  { L with
    state := .stopped, exchange := none, driving := false, turnaround := false, chain := none, directed := []
    paceCounter := 0, ticksHanded := 0 }

/-- An order of this kind to the terminal has started: it is in the exchange, or it is the chain (R78). -/
def Line.started (L : Line) (n : Nat) (kind : OrderKind) : Bool :=
  (match L.exchange with
    | none => false
    | some e =>
      e.terminal == n &&
        (match e.frame, kind with
          | .order (.clock _), .clock => true
          | .order (.plate _ _), .plate => true
          | _, _ => false)) ||
  (match L.chain with
    | none => false
    | some c => c.terminal == n && kind == .plate)

/-- The owed orders after a POWER or WARM start (R78). -/
def Context.owedAtStart (c : Context) (L : Line) : OwedOrders :=
  { condition := true
    clock := c.owed.clock || L.holds c.number .clock || L.started c.number .clock
    result := false
    plate := c.owed.plate || L.holds c.number .plate || L.started c.number .plate }

/-- A context after a POWER or WARM start (R78), but for its reports and events. -/
def Context.restart (c : Context) (L : Line) : Context :=
  { c with
    faults := { c.faults with silent := false }
    owed := c.owedAtStart L
    inFlight := none, referral := none, held := none }

/-- The Permit Table after a POWER or WARM start (R100). -/
def Permits.restart (t : Permits) : Permits :=
  { t with records := t.records.map fun p => { p with claim := none }, queue := [], working := none, referrals := [] }

/-- What POWER and WARM starts have in common. -/
def State.restarted (s : State) (kind : StartKind) : State :=
  { s with
    contexts := s.contexts.map fun c => c.restart (s.line c.line)
    permits := s.permits.restart
    fare := { queue := [], computing := none }
    lines := mapLines Line.restart s.lines
    link := s.link.restart kind
    scanned := []
    mainSupply := true
    retentionHeld := true }

/-- Every pending report set and event buffer is emptied, and the Notice Queue with them (R78, R180). -/
def State.emptied (s : State) : State :=
  ({ s with contexts := s.contexts.map fun c => { c with reports := .empty, events := [] } } : State).setNotices []

/-- The terminals whose condition the start changed, in ascending terminal number (R136). R178 gives this order for a POWER start;
for a WARM start it is the model's choice (log 36). -/
def State.changedBy (s after : State) : List Nat :=
  (s.contexts.map (·.number)).filter fun n => s.condition n != after.condition n

/-- CONDITION joins the pending report set of each terminal whose condition changed. -/
def State.reportChanged (after s : State) : State :=
  (s.changedBy after).foldl (fun t n => t.report n fun r => { r with condition := true }) after

/-! ### The starts -/

/-- COLD (R13, R30, R56, R78, R100, R120, R136, R152, R167, R180). The commands that wait and the model's measure of elapsed
time go on. -/
def State.coldStart (s : State) : State :=
  { State.reset with
    link := s.link.restart .cold, elapsed := s.elapsed, choices := s.choices, pending := s.pending }

/-- POWER: terminal entries first, then the SWITCHOVER of a switchover that fell due (R13, R178; log 25). -/
def State.powerStart (s : State) : State :=
  let up := (s.restarted .power).emptied.reportChanged s
  if up.clock.valid then up.presentMinute else up

/-- WARM: the Notice Queue, the report sets and the event buffers are kept (R78, R180). -/
def State.warmStart (s : State) : State := (s.restarted .warm).reportChanged s

/-- COLD START (R178): the main supply returns and the retention supply was lost. -/
def execColdStart (s : State) : Host.Outcome State Fault Refusal := .next s.coldStart

/-- POWER START (R178); when the retention supply was lost, the start is COLD. -/
def execPowerStart (s : State) : Host.Outcome State Fault Refusal :=
  .next (if s.retentionHeld then s.powerStart else s.coldStart)

/-- WARM START (R179). -/
def execWarmStart (s : State) : Host.Outcome State Fault Refusal := .next (s.working State.warmStart)

/-- MAIN SUPPLY LOSS (R178; log 6). -/
def execMainSupplyLoss (s : State) : Host.Outcome State Fault Refusal := .next { s with mainSupply := false }

/-- RETENTION SUPPLY LOSS (R178): only while the main supply is off. -/
def execRetentionSupplyLoss (s : State) : Host.Outcome State Fault Refusal :=
  .next (if s.mainSupply then s else { s with retentionHeld := false })

/-- The start is complete (R178 step 3): the strap is read and the starting mark cleared. -/
def State.startComplete (s : State) (strap : LinkRate) : State :=
  if s.link.starting then s.onLink fun k => { k with rate := strap, starting := false } else s

def execStartComplete (strap : LinkRate) (s : State) : Host.Outcome State Fault Refusal :=
  .next (s.working fun s => s.startComplete strap)

end Sys2Proof.Machine
end

