-- ==== Sys2Proof/Machine/Dispatch.lean ====
section
/-! DEFINITION. The meaning of every command. -/

namespace Sys2Proof.Machine

open Sys2Proof

def exec (i : Instr) (s : State) : Host.Outcome State Fault Refusal :=
  match i with
  | .clockSet tag body => Sys2Proof.Machine.execClockSet tag body s
  | .clockGet tag body => Sys2Proof.Machine.execClockGet tag body s
  | .calendarPut tag body => Sys2Proof.Machine.execCalendarPut tag body s
  | .calendarDrop tag body => Sys2Proof.Machine.execCalendarDrop tag body s
  | .calendarList tag body => Sys2Proof.Machine.execCalendarList tag body s
  | .tariffPut tag body => Sys2Proof.Machine.execTariffPut tag body s
  | .tariffDrop tag body => Sys2Proof.Machine.execTariffDrop tag body s
  | .tariffGet tag body => Sys2Proof.Machine.execTariffGet tag body s
  | .bankCopy tag body => Sys2Proof.Machine.execBankCopy tag body s
  | .switchAt tag body => Sys2Proof.Machine.execSwitchAt tag body s
  | .switchNow tag body => Sys2Proof.Machine.execSwitchNow tag body s
  | .switchCancel tag body => Sys2Proof.Machine.execSwitchCancel tag body s
  | .fareTrial tag body => Sys2Proof.Machine.execFareTrial tag body s
  | .terminalSet tag body => Sys2Proof.Machine.execTerminalSet tag body s
  | .terminalRemove tag body => Sys2Proof.Machine.execTerminalRemove tag body s
  | .terminalGet tag body => Sys2Proof.Machine.execTerminalGet tag body s
  | .endCollection tag body => Sys2Proof.Machine.execEndCollection tag body s
  | .suspend tag body => Sys2Proof.Machine.execSuspend tag body s
  | .resume tag body => Sys2Proof.Machine.execResume tag body s
  | .message tag body => Sys2Proof.Machine.execMessage tag body s
  | .permitLoad tag body => Sys2Proof.Machine.execPermitLoad tag body s
  | .permitChange tag body => Sys2Proof.Machine.execPermitChange tag body s
  | .permitDrop tag body => Sys2Proof.Machine.execPermitDrop tag body s
  | .permitGet tag body => Sys2Proof.Machine.execPermitGet tag body s
  | .permitScan tag body => Sys2Proof.Machine.execPermitScan tag body s
  | .referralSet tag body => Sys2Proof.Machine.execReferralSet tag body s
  | .referralList tag body => Sys2Proof.Machine.execReferralList tag body s
  | .referralAnswer tag body => Sys2Proof.Machine.execReferralAnswer tag body s
  | .liftList tag body => Sys2Proof.Machine.execLiftList tag body s
  | .countEnter tag body => Sys2Proof.Machine.execCountEnter tag body s
  | .roundOpen tag body => Sys2Proof.Machine.execRoundOpen tag body s
  | .roundBuild tag body => Sys2Proof.Machine.execRoundBuild tag body s
  | .roundClose tag body => Sys2Proof.Machine.execRoundClose tag body s
  | .roundGet tag body => Sys2Proof.Machine.execRoundGet tag body s
  | .faultClear tag body => Sys2Proof.Machine.execFaultClear tag body s
  | .thresholdDefaultSet tag body => Sys2Proof.Machine.execThresholdDefaultSet tag body s
  | .thresholdDefaultGet tag body => Sys2Proof.Machine.execThresholdDefaultGet tag body s
  | .thresholdOverrideSet tag body => Sys2Proof.Machine.execThresholdOverrideSet tag body s
  | .thresholdOverrideDrop tag body => Sys2Proof.Machine.execThresholdOverrideDrop tag body s
  | .lineSet tag body => Sys2Proof.Machine.execLineSet tag body s
  | .lineGet tag body => Sys2Proof.Machine.execLineGet tag body s
  | .lineStart tag body => Sys2Proof.Machine.execLineStart tag body s
  | .lineStop tag body => Sys2Proof.Machine.execLineStop tag body s
  | .pollListPut tag body => Sys2Proof.Machine.execPollListPut tag body s
  | .pollListGet tag body => Sys2Proof.Machine.execPollListGet tag body s
  | .sweep tag body => Sys2Proof.Machine.execSweep tag body s
  | .noticeTake tag body => Sys2Proof.Machine.execNoticeTake tag body s
  | .partStatus tag body => Sys2Proof.Machine.execPartStatus tag body s
  | .restart tag body => Sys2Proof.Machine.execRestart tag body s
  | .unknownKind tag kind => Sys2Proof.Machine.execUnknownKind tag kind s
  | .overlap tag kind => Sys2Proof.Machine.execOverlap tag kind s
  | .linkFrameDiscarded => Sys2Proof.Machine.execLinkFrameDiscarded s
  | .frameLimitExpiry => Sys2Proof.Machine.execFrameLimitExpiry s
  | .replyTransmissionComplete => Sys2Proof.Machine.execReplyTransmissionComplete s
  | .secondsEvent => Sys2Proof.Machine.execSecondsEvent s
  | .paceTick line => Sys2Proof.Machine.execPaceTick line s
  | .computationComplete => Sys2Proof.Machine.execComputationComplete s
  | .quote line drop number rest => Sys2Proof.Machine.execQuote line drop number rest s
  | .sale line drop number rest => Sys2Proof.Machine.execSale line drop number rest s
  | .session line drop number rest => Sys2Proof.Machine.execSession line drop number rest s
  | .cancel line drop number rest => Sys2Proof.Machine.execCancel line drop number rest s
  | .lookupComplete => Sys2Proof.Machine.execLookupComplete s
  | .recordInsertion => Sys2Proof.Machine.execRecordInsertion s
  | .permitOperationComplete => Sys2Proof.Machine.execPermitOperationComplete s
  | .referralDeadlineExpiry referral => Sys2Proof.Machine.execReferralDeadlineExpiry referral s
  | .doorOpen line drop number parameter => Sys2Proof.Machine.execDoorOpen line drop number parameter s
  | .doorClosed line drop number parameter => Sys2Proof.Machine.execDoorClosed line drop number parameter s
  | .boxReplaced line drop number parameter => Sys2Proof.Machine.execBoxReplaced line drop number parameter s
  | .paperOut line drop number parameter => Sys2Proof.Machine.execPaperOut line drop number parameter s
  | .paperLoaded line drop number parameter => Sys2Proof.Machine.execPaperLoaded line drop number parameter s
  | .printerFault line drop number parameter => Sys2Proof.Machine.execPrinterFault line drop number parameter s
  | .printFailed line drop number parameter => Sys2Proof.Machine.execPrintFailed line drop number parameter s
  | .printerOk line drop number parameter => Sys2Proof.Machine.execPrinterOk line drop number parameter s
  | .coinPathFault line drop number parameter => Sys2Proof.Machine.execCoinPathFault line drop number parameter s
  | .coinPathOk line drop number parameter => Sys2Proof.Machine.execCoinPathOk line drop number parameter s
  | .frameTransmissionComplete line => Sys2Proof.Machine.execFrameTransmissionComplete line s
  | .turnaroundExpiry line => Sys2Proof.Machine.execTurnaroundExpiry line s
  | .responseWindowExpiry line => Sys2Proof.Machine.execResponseWindowExpiry line s
  | .serviceLimitExpiry line => Sys2Proof.Machine.execServiceLimitExpiry line s
  | .idle line drop => Sys2Proof.Machine.execIdle line drop s
  | .ack line drop body => Sys2Proof.Machine.execAck line drop body s
  | .rejectedFrame line received => Sys2Proof.Machine.execRejectedFrame line received s
  | .lineFrameDiscarded line => Sys2Proof.Machine.execLineFrameDiscarded line s
  | .earliestStartReached line => Sys2Proof.Machine.execEarliestStartReached line s
  | .coldStart => Sys2Proof.Machine.execColdStart s
  | .powerStart => Sys2Proof.Machine.execPowerStart s
  | .warmStart => Sys2Proof.Machine.execWarmStart s
  | .mainSupplyLoss => Sys2Proof.Machine.execMainSupplyLoss s
  | .retentionSupplyLoss => Sys2Proof.Machine.execRetentionSupplyLoss s
  | .startComplete strap => Sys2Proof.Machine.execStartComplete strap s
  | .frameMarkerReceived => Sys2Proof.Machine.execFrameMarkerReceived s
  | .characterBeginsToArrive line => Sys2Proof.Machine.execCharacterBeginsToArrive line s

end Sys2Proof.Machine
end

