-- ==== Sys2Proof/Machine/Frames.lean ====
section
/-! DEFINITION. The bytes the part sends (R181 to R185): the host link frame of a reply, the line frame of a POLL, an ORDER or
an ANSWER, and the record forms inside them. What State holds as records is read here as the bytes a host or a terminal
sees. Where a rule lists a field and gives neither its code nor its place among optional fields, logs 18 and 19 say what is
taken. -/

namespace Sys2Proof.Machine

open Sys2Proof

/-! ### Named values (R181) -/

def flagByte (b : Bool) : Byte := if b then 1 else 0

def BankLetter.byte : BankLetter → Byte
  | .a => 65
  | .b => 66

def DayType.byte : DayType → Byte
  | .weekday => 0
  | .saturday => 1
  | .sunday => 2
  | .special => 3

def PermitStatus.byte : PermitStatus → Byte
  | .active => 0
  | .suspended => 1
  | .withdrawn => 2

def Condition.byte : Condition → Byte
  | .unconfigured => 0
  | .inCollection => 1
  | .suspended => 2
  | .outOfService => 3
  | .restricted => 4
  | .inService => 5

def SweepMode.byte : SweepMode → Byte
  | .single => 0
  | .continuous => 1
  | .paced => 2

def PaceSource.byte : PaceSource → Byte
  | .clock => 0
  | .host => 1

def LineState.byte : LineState → Byte
  | .stopped => 0
  | .idle => 1
  | .stopping => 2
  | .awaitReply => 3
  | .awaitEngine => 4

def Disposition.byte : Disposition → Byte
  | .none => 0
  | .started => 1
  | .leg => 2
  | .overrun => 3

def EntryState.byte : EntryState → Byte
  | .due => 0
  | .opened => 1
  | .lifted => 2
  | .skipped => 3

def StartKind.byte : StartKind → Byte
  | .cold => 0
  | .power => 1
  | .warm => 2

def LinkRate.bits : LinkRate → Nat
  | .r57600 => 57600
  | .r115200 => 115200

/-- The outcomes of R49, numbered from 0; 1 is WITHDRAWN, which no trial has (R36). -/
def Walk.byte : Walk → Byte
  | .computed _ => 0
  | .zoneNotTariffed => 2
  | .belowMinimum => 3
  | .zoneNotPermitted => 4
  | .freeParking _ => 5
  | .insufficient _ => 6

/-- The reasons of R64, numbered from 1. -/
def Reason.byte : Reason → Byte
  | .badRequest => 1
  | .coinsClosed => 2
  | .notInService => 3
  | .clockNotSet => 4
  | .zoneNotTariffed => 5
  | .belowMinimum => 6
  | .freeParking => 7
  | .insufficient => 8
  | .zoneNotPermitted => 9
  | .permitUnknown => 10
  | .permitNotValid => 11
  | .sessionActive => 12
  | .allowanceUsed => 13

/-- A sum of weights. -/
def weighted : List (Bool × Nat) → Nat
  | [] => 0
  | (b, weight) :: rest => (if b then weight else 0) + weighted rest

def FaultSet.byte (f : FaultSet) : Byte :=
  BitVec.ofNat 8 (weighted
    [(f.forcedDoor, 1), (f.silent, 2), (f.printer, 4), (f.paperOut, 8), (f.boxFull, 16), (f.coinPath, 32),
     (f.boxNearFull, 64), (f.paperLow, 128)])

def ReportSet.byte (r : ReportSet) : Byte :=
  BitVec.ofNat 8 (weighted [(r.condition, 1), (r.events, 2), (r.held, 4), (r.plate, 8)])

/-- The flags of a quote or trial. -/
def walkFlags (freeStart : Bool) (ending : Ending) : Byte :=
  BitVec.ofNat 8 (weighted
    [(freeStart, 1), (ending == .maxStay, 2), (ending == .horizon, 4), (ending == .money, 32), (ending == .budget, 64)])

def Ticket.flags (t : Ticket) : Byte :=
  BitVec.ofNat 8 (weighted
    [(t.freeStart, 1), (t.maxStay, 2), (t.horizon, 4), (t.tariffChanged, 8), (t.resident, 16)])

/-! ### Record forms (R181, R184) -/

def byte (n : Nat) : Byte := BitVec.ofNat 8 n

/-- An optional field whose values include 0: a presence byte before it. -/
def optionalBytes {α : Type} (f : α → List Byte) : Option α → List Byte
  | none => [0]
  | some a => 1 :: f a

def Moment.bytes (m : Moment) : List Byte := toBinary 2 m.day ++ toBinary 2 m.minute

def Instant.bytes (t : Instant) : List Byte := toBinary 2 t.day ++ toBinary 3 t.second

def Band.bytes (b : Band) : List Byte := toBinary 2 b.start ++ toBinary 2 b.stop ++ toMoney b.rate ++ [byte b.step]

/-- A list with its count in one byte. -/
def listBytes {α : Type} (f : α → List Byte) (l : List α) : List Byte := byte l.length :: l.flatMap f

/-- The fields of a zone tariff from index 3 on, in the form of TARIFF PUT. -/
def ZoneTariff.bytes (t : ZoneTariff) : List Byte :=
  toMoney t.minimumCharge ++ toBinary 2 t.maximumStay ++ [flagByte t.residentCap.isSome] ++
    toBinary 2 (t.residentCap.getD 0) ++
    [byte t.weekday.length, byte t.saturday.length, byte t.sunday.length, byte t.special.length] ++
    (t.weekday ++ t.saturday ++ t.sunday ++ t.special).flatMap Band.bytes

/-- The 30 bytes of a ticket record. -/
def Ticket.bytes (t : Ticket) : List Byte :=
  [byte t.terminal] ++ toPacked 3 t.serial ++ [byte t.zone.val] ++ t.start.bytes ++ t.expiry.bytes ++
    toMoney t.charged ++ toMoney t.unused ++ toBinary 2 t.minutes ++ toBinary 2 t.version ++ [t.flags] ++
    toPacked 4 (t.permit.getD 0)

/-- Six counts of 2 bytes. -/
def Coins.bytes (c : Coins) : List Byte :=
  toBinary 2 c.p5 ++ toBinary 2 c.p10 ++ toBinary 2 c.p20 ++ toBinary 2 c.p50 ++ toBinary 2 c.p100 ++
    toBinary 2 c.p200

/-- The 27 bytes of a lifted record. -/
def Lifted.bytes (r : Lifted) : List Byte :=
  toBinary 2 r.number ++ [byte r.terminal] ++ toBinary 2 (r.round.getD 0) ++ r.coins.bytes ++ toMoney r.expected ++
    r.lifted.bytes ++ [byte (weighted [(r.unscheduled, 1), (r.merged, 2)])]

/-- A signed amount. -/
def signedBytes (n : Int) : List Byte := flagByte (decide (n < 0)) :: toMoney n.natAbs

/-- An event kind and its parameter, as an EVENT carries them (R183). -/
def Event.bytes : Event → List Byte
  | .doorOpen code => 1 :: optionalBytes (toPacked 3) code
  | .doorClosed => [2]
  | .boxReplaced => [3]
  | .paperOut => [4]
  | .paperLoaded count => 5 :: optionalBytes (toBinary 2) count
  | .printerFault => [6]
  | .printFailed serial => 7 :: toPacked 3 serial
  | .printerOk => [8]
  | .coinPathFault => [9]
  | .coinPathOk => [10]

def EventRecord.bytes (r : EventRecord) : List Byte := byte r.number :: r.event.bytes ++ r.taken.bytes

def Thresholds.bytes (t : Thresholds) : List Byte :=
  toBinary 2 t.nearFull ++ toBinary 2 t.full ++ toBinary 2 t.paperLow

/-- A permit record with every field of R79. -/
def Permit.bytes (p : Permit) : List Byte :=
  toPacked 4 p.number ++ toBinary 2 p.zones.toNat ++ toBinary 2 p.validFrom ++ toBinary 2 p.validTo ++
    [p.status.byte] ++ toBinary 2 p.allowance ++ optionalBytes (toBinary 2) p.usedDay ++ toBinary 2 p.usedMinutes ++
    optionalBytes
      (fun (l : LastSession) =>
        [byte l.terminal, byte l.zone.val] ++ l.start.bytes ++ l.expiry.bytes ++ toBinary 2 l.minutes)
      p.lastSession ++
    optionalBytes
      (fun c => match c with
        | .session terminal request => [Config.claimCode true, byte terminal, byte request]
        | .referral number => [Config.claimCode false, byte number])
      p.claim

def PermitReading.bytes (r : PermitReading) : List Byte :=
  r.record.bytes ++ toBinary 2 r.effectiveUsed ++ toBinary 2 r.remaining ++ [Config.runningCode r.running]

def ReferralReading.bytes (r : ReferralReading) : List Byte :=
  [byte r.referral.number, byte r.referral.terminal, byte r.referral.request] ++ toPacked 4 r.referral.permit ++
    toBinary 2 r.referral.minutes ++ r.referral.arrival.bytes ++
    [byte r.secondsLeft, flagByte r.referral.decision.isSome, Config.detachedCode r.referral.detached]

def LineSettings.bytes (t : LineSettings) : List Byte :=
  toBinary 2 t.rate ++ [byte t.window, byte t.retries, byte t.serviceLimit, t.mode.byte] ++ toBinary 2 t.period ++
    [t.source.byte, byte t.interval, byte t.leg]

/-- A request in flight (R58). -/
def InFlight.bytes (f : InFlight) : List Byte :=
  (match f.kind with
    | .quote => [1, byte f.number]
    | .sale coins version =>
      [2, byte f.number, byte coins.p5, byte coins.p10, byte coins.p20, byte coins.p50, byte coins.p100,
        byte coins.p200] ++ optionalBytes (toBinary 2) version
    | .session => [3, byte f.number]) ++ [Config.withdrawnCode f.withdrawn]

/-- A held result (R72) in a TERMINAL GET. -/
def HeldResult.bytes (h : HeldResult) : List Byte :=
  [byte h.referral, byte h.request] ++
    (match h.outcome with
      | .ticket t => Config.heldCode true :: t.bytes
      | .refusal r => [Config.heldCode false, r.byte])

def ErrorCounters.bytes (k : ErrorCounters) : List Byte :=
  toBinary 2 k.parity ++ toBinary 2 k.framing ++ toBinary 2 k.noise ++ toBinary 2 k.overrun ++ toBinary 2 k.check ++
    toBinary 2 k.protocol ++ toBinary 2 k.noReply

/-- The fields of R57 in its order. -/
def Context.bytes (c : Context) : List Byte :=
  [byte c.number, byte c.line.val, byte c.drop, byte c.zone.val] ++ toBinary 2 c.boxCapacity ++
    toBinary 2 c.paperCapacity ++ toBinary 2 c.paperRemaining ++ optionalBytes Thresholds.bytes c.override ++
    [c.faults.byte, Config.suspendedCode c.suspended] ++ toBinary 2 (c.collection.getD 0) ++ toPacked 3 c.serial ++
    optionalBytes (fun (l : Nat × Ticket) => byte l.1 :: l.2.bytes) c.last ++
    optionalBytes (fun n => [byte n]) c.lastEvent ++ listBytes EventRecord.bytes c.events ++
    [c.reports.byte, Config.owedCode c.owed.condition c.owed.clock c.owed.result c.owed.plate] ++
    optionalBytes (toBinary 2) c.plateVersion ++ optionalBytes InFlight.bytes c.inFlight ++
    optionalBytes (fun (m : ReferralMark) => [byte m.referral, byte m.request]) c.referral ++
    optionalBytes HeldResult.bytes c.held ++ c.errors.bytes

/-! ### Orders and answers -/

/-- The content of an ORDER, its kind and, in 1 byte (log 31), its block before it (R183, R184, R28). -/
def OrderContent.bytes : OrderContent → List Byte
  | .condition told code => [1, told.byte, byte code]
  | .clock time => 2 :: time.bytes
  | .result none => 3 :: Config.emptyResult
  | .result (some h) =>
    [3, byte h.referral, byte h.request] ++
      (match h.outcome with
        | .ticket t => t.bytes
        | .refusal r => [r.byte])
  | .plate block content =>
    [4, byte block, byte content.zone.val] ++ listBytes Band.bytes content.bands ++
      [Config.notTariffedCode content.notTariffed] ++
      (match content.tail with
        | some (charge, stay, version) => toMoney charge ++ toBinary 2 stay ++ toBinary 2 version
        | none => [])
  | .message text => 5 :: text

/-- An answer, after the number it answers (R183). -/
def Answer.bytes : Answer → List Byte
  | .quoted expiry charged unused minutes freeStart ending version =>
    1 :: expiry.bytes ++ toMoney charged ++ toMoney unused ++ toBinary 2 minutes ++ [walkFlags freeStart ending] ++
      toBinary 2 version
  | .ticket record => 2 :: record.bytes
  | .refused reason => [3, reason.byte]
  | .wait => [4]
  | .busy => [5]
  | .cancelled => [6]
  | .taken => [7]
  | .hold => [8]

/-- The frame an exchange sends in its SEND or ANSWER phase (R143, R183). -/
def Exchange.bytes (e : Exchange) : List Byte :=
  match e.phase, e.answer with
  | .answer, some (number, answer) => lineFrame (byte e.drop) 3 (byte number :: answer.bytes)
  | _, _ =>
    match e.frame with
    | .poll => lineFrame (byte e.drop) 1 []
    | .order content => lineFrame (byte e.drop) 2 content.bytes

/-- What a line's driver sends: nothing while it is released (R142). -/
def Line.output (L : Line) : Option (List Byte) := if L.driving then L.exchange.map Exchange.bytes else none

/-! ### Replies -/

/-- The frame of an exchange as LINE GET names it (R139). -/
def SentFrame.named : SentFrame → List Byte
  | .poll => [1]
  | .order content => 2 :: content.ack

def Phase.place : Phase → Nat
  | .send => 0
  | .window => 1
  | .receive => 2
  | .engine => 3
  | .answer => 4

def Pass.place : Pass → Nat
  | .none => 0
  | .running => 1
  | .waiting => 2

def Leg.bytes : Leg → List Byte
  | .none => [Config.legCode 0]
  | .pending => [Config.legCode 1]
  | .running left => [Config.legCode 2, byte left]

def Segment.bytes (g : Segment) : List Byte := g.entry.bytes ++ toBinary 2 g.minutes ++ toMoney g.cost

/-- What a FARE TRIAL gives of its walk (R54). -/
def Walk.bytes (w : Walk) : List Byte :=
  w.byte ::
    (match w with
      | .computed f =>
        f.chargeableStart.bytes ++ f.expiry.bytes ++ toBinary 2 f.minutes ++ toMoney f.walkCost ++ toMoney f.charged ++
          toMoney f.unused ++ [walkFlags f.freeStart f.ending] ++ listBytes Segment.bytes (f.segments.getD [])
      | _ => [])

/-- The fields of a DONE reply, in the order their rule lists them (log 19). The model's choice (log 31): the day of week of
CLOCK GET, the position of POLL LIST GET, the tries used of LINE GET and the count of a notice, whose widths R181 does not
give, are 1 byte. -/
def DoneFields.bytes : DoneFields → List Byte
  | .plain => []
  | .clock day second valid dayOfWeek today =>
    toBinary 2 day ++ toBinary 3 second ++ [flagByte valid, byte dayOfWeek, today.byte]
  | .calendar entries => listBytes (fun (e : CalendarEntry) => toBinary 2 e.day ++ [e.type.byte]) entries
  | .tariff active version schedule slot =>
    [active.byte] ++ toBinary 2 version ++ optionalBytes Moment.bytes schedule ++ optionalBytes ZoneTariff.bytes slot
  | .trial letter version walk => [letter.byte] ++ toBinary 2 version ++ walk.bytes
  | .terminalSet created => [flagByte (!created)]
  | .unconfigured => [Condition.unconfigured.byte]
  | .terminal context condition highest inForce =>
    context.bytes ++ [condition.byte, byte highest] ++ inForce.bytes ++ context.tally.coins.bytes ++
      toBinary 2 context.tally.coinTotal ++ toMoney context.tally.penceTotal
  | .loaded inserted replaced => [byte inserted, byte replaced]
  | .changed record => record.bytes
  | .permit reading => reading.bytes
  | .scan readings more => listBytes PermitReading.bytes readings ++ [flagByte more]
  | .referrals entries => listBytes ReferralReading.bytes entries
  | .lifts records more => listBytes Lifted.bytes records ++ [flagByte more]
  | .counted difference amount record => signedBytes difference ++ toMoney amount ++ record.bytes
  | .roundOpened number => toBinary 2 number
  | .roundBuilt number entries => toBinary 2 number ++ [byte entries]
  | .roundClosed lifted skipped => [byte lifted, byte skipped]
  | .round r marks =>
    toBinary 2 r.number ++ toPacked 3 r.code ++ [flagByte (!r.isOpen)] ++
      listBytes (fun (e : RoundEntry × Bool) => [byte e.1.terminal, e.1.state.byte, Config.inCollectionCode e.2])
        (r.entries.zip marks) ++
      [byte (r.inState .due), byte (r.inState .opened), byte (r.inState .lifted),
        byte (r.inState .skipped)]
  | .faultSet faults => [faults.byte]
  | .thresholds t => t.bytes
  | .line settings state exchange =>
    settings.bytes ++ [state.byte] ++
      optionalBytes
        (fun (e : Exchange) =>
          byte e.terminal :: e.frame.named ++ [byte e.triesUsed, Config.phaseCode e.phase.place])
        exchange
  | .pollList drops use =>
    listBytes (fun d => [byte d]) drops ++ [byte ((use.map (·.1)).getD 0)] ++
      optionalBytes (fun (pass : Pass) => [Config.passCode pass.place]) (use.map (·.2.1)) ++
      optionalBytes Leg.bytes (use.bind (·.2.2))
  | .sweep disposition => [disposition.byte]
  | .noNotice => [0]
  | .terminalNotice number reports events condition highest faults plateVersion left =>
    [1, byte number, reports.byte] ++ listBytes EventRecord.bytes events ++
      [condition.byte, byte highest, faults.byte] ++ optionalBytes (toBinary 2) plateVersion ++ [byte left]
  | .lineNotice overrun l count left => [if overrun then 3 else 2, byte l.val, byte count, byte left]
  | .switchoverNotice count letter version left => [4, byte count, letter.byte] ++ toBinary 2 version ++ [byte left]
  | .referralsNotice count entries waiting left => [5, byte count, byte entries, byte waiting, byte left]
  | .roundNotice count last left => [6, byte count] ++ toBinary 2 (last.getD 0) ++ [byte left]
  | .status start rate valid terminals permits lines notices check timeout dropped =>
    [start.byte] ++ toBinary 3 (LinkRate.bits rate) ++ [flagByte valid, byte terminals] ++ toBinary 2 permits ++
      lines.map LineState.byte ++ [byte notices] ++ toBinary 2 check ++ toBinary 2 timeout ++ toBinary 2 dropped

/-- A reply's body: the result code of R172 and its fields (R182). -/
def ReplyBody.bytes : ReplyBody → List Byte
  | .done fields => 0 :: fields.bytes
  | .field index => [1, byte index]
  | .noSuch => [2]
  | .full => [3]
  | .state => [4]
  | .duplicate => [5]
  | .overlap => [6]
  | .tooLate => [7]
  | .unknownKind => [8]

/-- A reply's frame on the link (R182). -/
def Reply.bytes (r : Reply) : List Byte := linkFrame r.tag r.kind r.body.bytes

/-- What the link sends: the frame of the reply being sent (R168, R171). -/
def Link.output (k : Link) : Option (List Byte) := k.sending.map Reply.bytes

end Sys2Proof.Machine
end

