-- ==== Sys2Proof/Safety.lean ====
section
/-! DEFINITION. The terms claims are made in: when a command is taken, what a reply leaves on the link, and the rules the spec
states about every state. -/

namespace Sys2Proof.Machine

open Sys2Proof

/-! ### When a command is taken -/

/-- The link takes the next frame as a request: the part is supplied, no start is under way or due, and no request is
outstanding (R169, R170, R178). -/
def State.ready (s : State) : Bool := s.linkOpen && s.link.outstanding.isNone

/-- The Link Port once a request has been accepted and has become outstanding (R169, R170). -/
def Link.accept (k : Link) (tag kind : Byte) : Link :=
  { k with receiver := .hunting, outstanding := some { tag := tag, kind := kind } }

/-- The Link Port once a request has been accepted and its reply handed over (R170 to R172). -/
def Link.answered (k : Link) (tag kind : Byte) (body : ReplyBody) : Link :=
  (k.accept tag kind).push { tag := tag, kind := kind, body := body }

/-- The state once a request has been accepted. -/
def State.accepted (s : State) (tag kind : Byte) : State := { s with link := s.link.accept tag kind }

/-- The state once a request has been accepted and its reply handed over: the Link Port alone has changed. -/
def State.replied (s : State) (tag kind : Byte) (body : ReplyBody) : State :=
  { s with link := s.link.answered tag kind body }

/-- The part waits on a line for the reply of a terminal: an exchange in its WINDOW or RECEIVE phase, and the terminal
configured on that line (R145). -/
def State.awaits (s : State) (l : LineNo) (e : Exchange) (c : Context) : Prop :=
  s.mainSupply = true ∧ (s.line l).listening = some e ∧ (s.line l).state ≠ .idle ∧ s.context e.terminal = some c ∧
    c.line = l

/-- The part waits on a line for the reply of a terminal that is not SILENT. -/
def State.hears (s : State) (l : LineNo) (e : Exchange) (c : Context) : Prop :=
  s.awaits l e c ∧ c.faults.silent = false

/-- A switchover is due at a minute (R25). -/
def Tariffs.due (t : Tariffs) (now : Moment) : Bool :=
  match t.schedule with
  | some m => !m.later now
  | none => false

/-! ### What is left alone -/

/-- Nothing that no terminal's frame and no timer of a line changes has changed. -/
def State.sameStore (s t : State) : Prop :=
  t.clock = s.clock ∧ t.calendar = s.calendar ∧ t.tariffs = s.tariffs ∧ t.defaults = s.defaults ∧
    t.mainSupply = s.mainSupply ∧ t.retentionHeld = s.retentionHeld ∧ t.elapsed = s.elapsed ∧ t.pending = s.pending

/-- Of the terminals at most this one, and of the lines at most this one, has changed. -/
def State.onlyAt (s t : State) (n : Nat) (l : LineNo) : Prop :=
  (∀ m, m ≠ n → t.context m = s.context m) ∧ ∀ m, m ≠ l → t.line m = s.line m

/-- The exchange stands in its ANSWER phase with this answer to what was taken from the terminal (R147, R148). -/
def Exchange.answering (e : Exchange) (taken : FromTerminal) (number : Nat) (answer : Answer) : Exchange :=
  { e with phase := .answer, taken := some taken, answer := some (number, answer) }

/-- The terminal's line is handed an answer to its request (R148): an exchange that waits for it in its ENGINE phase passes
to its ANSWER phase with it. -/
def State.answers (s t : State) (l : LineNo) (n request : Nat) (answer : Answer) : Prop :=
  ∀ e r, (s.line l).state ≠ .idle → (s.line l).exchange = some e → e.terminal = n → e.phase = .engine →
    e.taken = some (.request request r) →
    (t.line l).exchange = some { e with phase := .answer, answer := some (request, answer) }

/-- A terminal's request or event is answered at once: its exchange passes to the ANSWER phase with this answer, and neither
its context nor anything else outside its line has changed (R147, R148). -/
def State.answersAtOnce (s t : State) (l : LineNo) (e : Exchange) (c : Context) (taken : FromTerminal) (number : Nat)
    (answer : Answer) : Prop :=
  t.context e.terminal = some c ∧ (t.line l).exchange = some (e.answering taken number answer) ∧
    (t.line l).state = (if (s.line l).state = .stopping then .stopping else .awaitReply) ∧ s.onlyAt t e.terminal l ∧
    t.fare = s.fare ∧ t.permits = s.permits ∧ t.cash = s.cash ∧ t.link = s.link ∧ t.notices = s.notices ∧ s.sameStore t

/-- The Fare Engine once an entry has been placed (R33, R37): it begins in an idle engine, and waits behind every other
otherwise. -/
def State.fareWith (s : State) (entry : FareEntry) : FareEngine :=
  match s.fare.computing with
  | none => { s.fare with computing := some (s.latch entry) }
  | some _ => { s.fare with queue := s.fare.queue ++ [entry] }

/-- The fare entry of a terminal's QUOTE or SALE (R65 test 5). -/
def Context.fareEntry (c : Context) (kind : FareKind) (pence number : Nat) : FareEntry :=
  { kind := kind, budget := .money pence, zone := c.zone, bank := .active, start := none,
    returnTo := .terminal c.number number, permit := none }

/-- The permit referrals and the terminal's referral once a request has met the referral (R65 test 3, R95): a WAITING entry is
gone, and with it the mark that names it, and a DECIDED one stays. -/
def State.impliedCancel (s : State) (n : Nat) (mark : ReferralMark) : List Referral × Option ReferralMark :=
  match s.waitingOf n with
  | some r =>
    (s.permits.referrals.filter fun q => q.number != r.number, if mark.referral = r.number then none else some mark)
  | none => (s.permits.referrals, some mark)

/-! ### A good frame from a SILENT terminal (R125, R150) -/

/-- A context without SILENT. -/
def Context.heard (c : Context) : Context := { c with faults := { c.faults with silent := false } }

/-- A good frame changes the condition of a terminal, which was OUT OF SERVICE for SILENT alone. -/
def Context.revived (c : Context) : Bool := c.heard.condition != c.condition

/-- The context once SILENT has been removed: a change of condition is reported (R76, R134). -/
def Context.unsilenced (c : Context) : Context :=
  { c.heard with reports := { c.reports with condition := c.reports.condition || c.revived } }

/-- The owed kinds with the CONDITION order that a change of condition asks for (R134, R161). -/
def Context.owedOnceHeard (c : Context) : OwedOrders :=
  { c.owed with condition := c.owed.condition || c.revived }

/-- The Notice Queue once a good frame has removed SILENT: a change of condition puts the terminal's entry in it, when its
pending report set was empty (R76). -/
def State.noticesOnceHeard (s : State) (c : Context) : List Notice :=
  if c.revived = true ∧ c.reports.isEmpty = true then s.notices ++ [{ kind := .terminal c.number, count := 1 }]
  else s.notices

/-! ### What changes -/

/-- Of the lines at most this one has changed, and nothing else has but the Notice Queue, with ATTENTION. -/
def State.onlyLine (s t : State) (l : LineNo) : Prop :=
  (∀ m, m ≠ l → t.line m = s.line m) ∧ t.contexts = s.contexts ∧ t.permits = s.permits ∧ t.cash = s.cash ∧
    t.fare = s.fare ∧ t.link = s.link ∧ s.sameStore t

/-- An event is recorded (R75, R76): it is the last taken, the newest of the buffer, and reported with any change of
condition. -/
def Context.recorded (c d : Context) (number : Nat) (event : Event) (now : Instant) : Prop :=
  d.lastEvent = some number ∧ d.events = c.events ++ [{ number := number, event := event, taken := now }] ∧
    d.reports.events = true ∧ (d.condition ≠ c.condition → d.reports.condition = true)

/-- One more occurrence of a part-level kind is noted (R173): the count of its entry rises by one, held at 255, or it has an
entry of count 1. -/
def oneMore (kind : NoticeKind) (before after : List Notice) : Prop :=
  (after.find? fun x => x.kind == kind).map (·.count) =
    some (match before.find? fun x => x.kind == kind with
      | none => 1
      | some x => if x.count < 255 then x.count + 1 else x.count)

/-- The characters received are one frame and what comes after it (R142, R183): the frame ends where its length gives, or no
more was received. -/
def framed (frame rest : List RxChar) : Prop :=
  (∃ length, frame[2]? = some length ∧ frame.length = length.byte.toNat + 6) ∨
    (rest = [] ∧ ∀ length, frame[2]? = some length → frame.length ≤ length.byte.toNat + 6)

/-! ### Orders that stand for a terminal (R161) -/

/-- The frame is an automatic ORDER of a kind. -/
def SentFrame.orders (frame : SentFrame) (kind : OrderKind) : Bool :=
  match frame, kind with
  | .order (.condition _ _), .condition => true
  | .order (.clock _), .clock => true
  | .order (.result _), .result => true
  | .order (.plate _ _), .plate => true
  | _, _ => false

/-- An order of a kind stands for a terminal: owed, in its line's directed queue, or in its line's exchange. -/
def State.ordered (s : State) (c : Context) (kind : OrderKind) : Prop :=
  c.owed.has kind = true ∨ (s.line c.line).holds c.number kind = true ∨
    ∃ e, (s.line c.line).exchange = some e ∧ e.terminal = c.number ∧ e.frame.orders kind = true

/-- The kinds of order a terminal is owed, in R162's order. -/
def OwedOrders.kinds (o : OwedOrders) : List OrderKind :=
  (if o.condition then [.condition] else []) ++ (if o.clock then [.clock] else []) ++
    (if o.result then [.result] else []) ++ (if o.plate then [.plate] else [])

/-! ### The next exchange of a line (R145, R155 to R158, R160, R163) -/

/-- The record of an exchange at its beginning (R145): a POLL to a SILENT terminal has one try, and the first try is used at
once unless the turnaround is still running, for which the transmission waits (log 37). -/
def Line.opening (L : Line) (c : Context) (frame : SentFrame) : Exchange :=
  { terminal := c.number, drop := c.drop, frame := frame,
    triesAllowed := if frame = .poll ∧ c.faults.silent = true then 1 else 1 + L.settings.retries,
    triesUsed := if L.turnaround then 0 else 1, phase := .send, taken := none, answer := none }

/-- An exchange with a terminal has begun on a line: at the choice of its frame, its transmission after the turnaround
(log 37). -/
def Line.begins (L : Line) (c : Context) (frame : SentFrame) : Prop :=
  L.state = .awaitReply ∧ L.exchange = some (L.opening c frame) ∧ (L.turnaround = false → L.driving = true)

/-- The chain that a line has once a directed entry's exchange has begun: that of a PLATE entry takes the copy of the
terminal's zone in the active bank (R28, R164). -/
def State.chainOf (s : State) (c : Context) (kind : OrderKind) : Option Chain :=
  match kind with
  | .plate =>
    some { terminal := c.number, zone := c.zone, copy := s.tariffs.copy s.tariffs.active c.zone, acked := 0 }
  | _ => none

/-- The frame of a directed entry's exchange, whose content is read at its beginning (R28, R160). -/
def State.carries (s : State) (c : Context) (kind : OrderKind) (frame : SentFrame) : Prop :=
  match kind with
  | .condition => frame = .order (.condition c.condition c.faults.code)
  | .clock => frame = .order (.clock s.clock.now)
  | .result => frame = .order (.result c.held)
  | .message text => frame = .order (.message text)
  | .plate => frame = .order (.plate 1 (plateBlock c.zone (s.tariffs.copy s.tariffs.active c.zone) 1))

/-- The entries of these drops are passed over (R155): a configured terminal of the line that holds one is SILENT and in the
pass record. -/
def State.passesOver (s : State) (l : LineNo) (record drops : List Nat) : Prop :=
  ∀ drop ∈ drops, ∀ c ∈ s.contexts, c.line = l → c.drop = drop → c.faults.silent = true ∧ c.number ∈ record

/-- The entry of this drop is polled (R155): the one terminal that holds it is not SILENT, or not in the pass record. -/
def State.pollable (s : State) (l : LineNo) (record : List Nat) (drop : Nat) (c : Context) : Prop :=
  c ∈ s.contexts ∧ c.line = l ∧ c.drop = drop ∧ (∀ d ∈ s.contexts, d.line = l → d.drop = drop → d = c) ∧
    ¬(c.faults.silent = true ∧ c.number ∈ record)

/-- A sweep that has taken so many further entries (R155): the position has advanced, and entry 1 has started the pass at this
count of seconds events (R157, R158; log 4). -/
def Line.taking (L : Line) (entries elapsed : Nat) : Line :=
  let first := L.position == 1 && entries != 0
  { L with
    position := L.position + entries
    passStart := if first then elapsed else L.passStart
    earliestReached := if first then false else L.earliestReached
    pass := if first && L.settings.mode == .paced then .running else L.pass }

/-- A sweep that has taken so many further entries and polls the terminal of the last one (R155). -/
def Line.polling (L : Line) (entries elapsed : Nat) (c : Context) : Line :=
  { L.taking entries elapsed with
    state := .awaitReply, exchange := some (L.opening c .poll), driving := L.driving || !L.turnaround
    passRecord := L.passRecord ++ [c.number], madeExchange := true }

/-- A sweep at position 1 of a pass that has taken no entry (R153). -/
def Line.rewound (L : Line) (pass : Pass) : Line :=
  { L with pass := pass, position := 1, passRecord := [], madeExchange := false }

/-- The entries still to be taken stand before the end of the list (R153). -/
def Line.before (L : Line) (rest : List Nat) : Prop :=
  ∃ taken, L.pollList = taken ++ rest ∧ L.position = taken.length + 1

/-- The entries still to take in a PACED leg (R158): those left of a RUNNING one, or the leg length at a PENDING one. -/
def Line.legLeft (L : Line) (left : Nat) : Prop :=
  L.leg = .running left ∨ (L.leg = .pending ∧ left = L.settings.leg)

/-- What taking the entries of a PACED leg does to a line with so many still to take (R155, R158): some are passed over and the
next is polled; or the last of the leg is passed over, and the leg is over; or the end of the list is, and SWEEP COMPLETE is
noted. A PACED pass is RUNNING from entry 1 on and NONE after the end of the list (log 16). -/
def State.takesLeg (s t : State) (l : LineNo) (L : Line) (left : Nat) : Prop :=
  (∀ skipped drop after c, L.before (skipped ++ drop :: after) → skipped.length < left →
    s.passesOver l L.passRecord skipped → s.pollable l L.passRecord drop c →
    t.line l = { L.polling (skipped.length + 1) s.elapsed c with leg := .running (left - skipped.length - 1) } ∧
      t.notices = s.notices) ∧
  (∀ skipped after, L.before (skipped ++ after) → skipped.length = left → after ≠ [] → skipped ≠ [] →
    s.passesOver l L.passRecord skipped →
    t.line l = { L.taking skipped.length s.elapsed with leg := .none, state := .idle } ∧ t.notices = s.notices) ∧
  (∀ skipped, L.before skipped → skipped.length ≤ left → skipped ≠ [] → s.passesOver l L.passRecord skipped →
    t.line l = { (L.taking skipped.length s.elapsed).rewound .none with leg := .none, state := .idle } ∧
      oneMore (.sweepComplete l) s.notices t.notices ∧ t.attention = true)

/-- What beginning a SINGLE pass does to a line at position 1 (R155, R156, R159): the entries of no terminal are passed over and
the next is polled; or all are, and the pass is over at once, with SWEEP COMPLETE noted. -/
def State.takesPass (s t : State) (l : LineNo) (L : Line) : Prop :=
  (∀ skipped drop after c, L.pollList = skipped ++ drop :: after → s.passesOver l [] skipped → s.pollable l [] drop c →
    t.line l = (L.rewound .running).polling (skipped.length + 1) s.elapsed c ∧ t.notices = s.notices) ∧
  (s.passesOver l [] L.pollList →
    t.line l = { ((L.rewound .running).taking L.pollList.length s.elapsed).rewound .none with state := .idle } ∧
      oneMore (.sweepComplete l) s.notices t.notices ∧ t.attention = true)

/-! ### Numbers that are given out (R93, R104, R108) -/

/-- The number after another, from 1 to `top`, which 1 follows. -/
def numberAfter (top n : Nat) : Nat := if n < top then n + 1 else 1

/-- The next number after the last one given that no record holds: each number passed over is held. -/
def nextUnheld (top : Nat) (held : List Nat) (last number : Nat) : Prop :=
  number ∉ held ∧
    ∃ passed : Nat, number = (numberAfter top)^[passed + 1] last ∧
      ∀ k, k < passed → (numberAfter top)^[k + 1] last ∈ held

/-! ### Trials of a computation (R55) -/

/-- The same computation as a TRIAL of a budget, whose result has the segment list. -/
def Computation.tried (c : Computation) (budget : Budget) : Computation :=
  { c with entry := { c.entry with kind := .trial, budget := budget } }

/-! ### Checks, the first that fails deciding -/

/-- Checks 2 to 5 of R69 on a SALE result. -/
def State.saleFails (s : State) (c : Context) (walk : Walk) : Option Reason :=
  match walk with
  | .computed _ =>
    if s.clock.valid = false then some .clockNotSet
    else if c.condition = .restricted then some .coinsClosed
    else if c.condition ≠ .inService then some .notInService
    else none
  | walk => walk.reason

/-- Checks 2 to 8 of R71 on a SESSION or REFERRAL result; checks 5 to 8 are not made for a GRANT ONCE, and
6 and 8 go by the walk's start day (log 39: the model's choice against R1's table). -/
def State.sessionFails (s : State) (c : Context) (k : Computation) (once : Bool) : Option Reason :=
  match k.walk with
  | .computed f =>
    if s.clock.valid = false then some .clockNotSet
    else if c.condition ≠ .inService ∧ c.condition ≠ .restricted then some .notInService
    else if once = true then none
    else
      match k.entry.permit.bind s.permit with
      | none => some .permitUnknown
      | some p =>
        if p.status ≠ .active ∨ k.start.day < p.validFrom ∨ p.validTo < k.start.day then some .permitNotValid
        else if p.zones.getLsbD k.entry.zone.val = false then some .zoneNotPermitted
        else if p.allowance < f.minutes + p.effectiveUsed k.start.day then some .allowanceUsed
        else none
  | walk => walk.reason

/-- Checks 4 to 7 of R88 on a record. -/
def State.recordFails (s : State) (p : Permit) (zone : Zone) : Option Reason :=
  if p.status ≠ .active ∨ s.clock.day < p.validFrom ∨ p.validTo < s.clock.day then some .permitNotValid
  else if p.zones.getLsbD zone.val = false ∨ s.activeCap zone = none then some .zoneNotPermitted
  else if p.claim ≠ none ∨ p.running s.clock.now = true then some .sessionActive
  else if p.remaining s.clock.day = 0 then some .allowanceUsed
  else none

/-- Checks 1 to 7 of R88 on a LOOKUP: the reason of the first that fails, with none for check 3 while referral is ENABLED. -/
def State.lookupFails (s : State) (c : Context) (l : Lookup) : Option Reason :=
  if s.clock.valid = false then some .clockNotSet
  else if c.condition ≠ .inService ∧ c.condition ≠ .restricted then some .notInService
  else
    match s.permit l.permit with
    | none => if s.permits.referralEnabled = true then none else some .permitUnknown
    | some p => s.recordFails p l.zone

/-! ### Permits as they are read (R80, R86) -/

/-- A reading of a record at the current time: the record, its effective used minutes and remaining allowance for today, and
whether its last session is running. -/
def State.readsAs (s : State) (p : Permit) (r : PermitReading) : Prop :=
  r.record = p ∧ r.effectiveUsed = (if p.usedDay = some s.clock.day then p.usedMinutes else 0) ∧
    r.remaining = p.allowance - r.effectiveUsed ∧
    (r.running = true ↔ ∃ last, p.lastSession = some last ∧
      (s.clock.day < last.expiry.day ∨
        (last.expiry.day = s.clock.day ∧ s.clock.second < last.expiry.minute * 60)))

/-- The records that lie before a PERMIT SCAN in progress: those from its first number on, or above the last it chose. -/
def State.scanAhead (s : State) (first : Nat) : List Permit :=
  s.permits.records.filter fun p =>
    match s.scanned.getLast? with
    | none => decide (first ≤ p.number)
    | some r => decide (r.record.number < p.number)

/-- The record with one claim cleared (R89). -/
def Permit.without (p : Permit) (claim : Claim) : Permit :=
  { p with claim := if p.claim = some claim then none else p.claim }

/-! ### Rounds (R108, R116) -/

/-- An OPEN round names a terminal. -/
def Cash.listed (k : Cash) (n : Nat) : Prop := ∃ r ∈ k.rounds, r.isOpen = true ∧ ∃ e ∈ r.entries, e.terminal = n

/-- The rounds that stay in the table when another is opened: all of them, but of 4 the CLOSED one opened earliest goes. -/
def Cash.keptRounds (k : Cash) (kept : List Round) : Prop :=
  (k.rounds.length < 4 ∧ kept = k.rounds) ∨
    ∃ before r after, k.rounds = before ++ r :: after ∧ k.rounds.length = 4 ∧ r.isOpen = false ∧
      (∀ q ∈ before, q.isOpen = true) ∧ kept = before ++ after

/-- The end of a terminal's collection under a round completes it: it is OPEN, all its entries are LIFTED and no other terminal
is in collection under it. -/
def State.completes (s : State) (n number : Nat) : Prop :=
  ∃ r, s.cash.roundNumbered number = some r ∧ r.isOpen = true ∧ (∀ x ∈ r.entries, x.state = .lifted) ∧
    ∀ x ∈ s.contexts, x.number ≠ n → x.collection ≠ some number

/-! ### Tariffs as R15 has them -/

/-- A band list of R15: each band ends after its start, starts no earlier than the band before ends, and has a rate and a
step length. `after` is the end of the band before. -/
def bandsValid (after : Nat) : List Band → Prop
  | [] => True
  | b :: rest =>
    after ≤ b.start ∧ b.start < b.stop ∧ b.stop ≤ 1440 ∧ 1 ≤ b.rate ∧ b.rate ≤ 9999 ∧ 1 ≤ b.step ∧ b.step ≤ 60 ∧
      bandsValid b.stop rest

/-- A zone tariff within the values of R15. -/
def ZoneTariff.valid (t : ZoneTariff) : Prop :=
  bandsValid 0 t.weekday ∧ bandsValid 0 t.saturday ∧ bandsValid 0 t.sunday ∧ bandsValid 0 t.special ∧
    t.weekday.length ≤ 6 ∧ t.saturday.length ≤ 6 ∧ t.sunday.length ≤ 6 ∧ t.special.length ≤ 6 ∧
    t.minimumCharge ≤ 9999 ∧ 1 ≤ t.maximumStay ∧ t.maximumStay ≤ 1440 ∧
    ∀ cap, t.residentCap = some cap → 1 ≤ cap ∧ cap ≤ 1440

/-- A computation latched as R37 and R12 have it: its start is a minute of a day the clock can show. -/
def Computation.latched (c : Computation) : Prop :=
  c.start.day ≤ 65535 ∧ c.start.minute ≤ 1439 ∧ c.horizon = horizonEnd c.start.day

/-- One moment is no later than another. -/
def Moment.upTo (a b : Moment) : Prop := a.day < b.day ∨ (a.day = b.day ∧ a.minute ≤ b.minute)

/-- One moment is before another. -/
def Moment.before (a b : Moment) : Prop := a.day < b.day ∨ (a.day = b.day ∧ a.minute < b.minute)

/-! ### What the spec states of every state -/

/-- The current time is one the clock can show (R1). -/
def State.clockShown (s : State) : Prop := s.clock.day ≤ 65535 ∧ s.clock.second ≤ 86399

/-- The Calendar is in ascending order, no day twice, with at most 64 entries of days the clock can show (R10). -/
def State.calendarKept (s : State) : Prop :=
  (s.calendar.map (·.day)).Pairwise (· < ·) ∧ s.calendar.length ≤ Config.calendarCapacity

/-- ATTENTION is high exactly while the Notice Queue holds an entry (R174). -/
def State.attentionFollows (s : State) : Prop := s.attention = !s.notices.isEmpty

/-- The contexts stand in ascending terminal number, no number twice (R57). -/
def State.contextsKept (s : State) : Prop := (s.contexts.map (·.number)).Pairwise (· < ·)

/-- No kind of notice stands twice in the queue (R173). -/
def State.noticesOnce (s : State) : Prop := (s.notices.map (·.kind)).Nodup

/-- A terminal's entry is queued exactly while its pending report set is not empty (R76). -/
def State.reportsQueued (s : State) : Prop :=
  ∀ n, (∃ e ∈ s.notices, e.kind = .terminal n) ↔ ∃ c, s.context n = some c ∧ c.reports.isEmpty = false

/-- R57, R76 and R173 together: they hold in every state a run reaches, and every command keeps them. -/
def State.noticesKept (s : State) : Prop := s.contextsKept ∧ s.noticesOnce ∧ s.reportsQueued

/-- The permit records stand in ascending permit number, no number twice (R79). -/
def State.permitsKept (s : State) : Prop := (s.permits.records.map (·.number)).Pairwise (· < ·)

/-- The automatic entries of a directed queue (R160). -/
def Line.automatic (L : Line) : List Directed :=
  L.directed.filter fun d => match d.kind with | .message _ => false | _ => true

/-- A directed queue holds at most 16 entries, and no automatic order twice for one terminal (R160). -/
def State.directedKept (s : State) : Prop :=
  ∀ l, (s.line l).directed.length ≤ Config.directedCapacity ∧ (s.line l).automatic.Nodup

end Sys2Proof.Machine
end

