-- ==== Sys2Proof/Certificates/Slice0/Obligations.lean ====
section
/-! DEFINITION. The statements for the provers. A kind byte written as a number is the request's kind of R182. -/

open Sys2Proof Sys2Proof.Machine

/-! ## The machine as a whole -/

/-- A step runs the command at the front of the queue on the state whose queue is the rest; with no command waiting the part
idles. The queue and the idling are the model's own (log 1). -/
def Obligations.StepTakesTheFrontCommand : Prop :=
  ∀ s : State,
    (∀ (c : Instr) (rest : List Instr), s.pending = c :: rest → step s = exec c { s with pending := rest }) ∧
    (s.pending = [] → step s = .next s)

/-- R174: every step keeps ATTENTION high exactly while the Notice Queue holds an entry. -/
def Obligations.AttentionFollowsTheQueue : Prop :=
  ∀ s t : State, s.attentionFollows → step s = .next t → t.attentionFollows

/-- R57, R76, R173: every step keeps the contexts in ascending number, no notice kind twice in the queue, and a terminal's
entry queued exactly while its pending report set is not empty. -/
def Obligations.NoticesStandForReports : Prop :=
  ∀ s t : State, s.noticesKept → step s = .next t → t.noticesKept

/-- R160: every step keeps each directed queue at 16 entries or fewer, no automatic order twice for one terminal. -/
def Obligations.DirectedQueuesStayBounded : Prop :=
  ∀ s t : State, s.directedKept → step s = .next t → t.directedKept

/-- R1, R2, R5, R10, R79: every step keeps the time one the clock can show, the Calendar ascending, no day twice, 64 entries or
fewer, and the permit records in ascending permit number, no number twice. -/
def Obligations.ClockCalendarAndPermitsStayInOrder : Prop :=
  ∀ s t : State, s.clockShown ∧ s.calendarKept ∧ s.permitsKept → step s = .next t →
    t.clockShown ∧ t.calendarKept ∧ t.permitsKept

/-- The state after reset meets every invariant stated here. -/
def Obligations.ResetMeetsTheInvariants : Prop :=
  State.reset.attentionFollows ∧ State.reset.noticesKept ∧ State.reset.directedKept ∧ State.reset.clockShown ∧
    State.reset.calendarKept ∧ State.reset.permitsKept

/-- R14: nothing but a COLD start changes what the active bank holds, its version included. A switchover leaves the bank that
was active as it was. A POWER start whose retention supply was lost is a COLD start. -/
def Obligations.TheActiveBankIsNeverWritten : Prop :=
  ∀ (c : Instr) (s t : State), c ≠ .coldStart → (c = .powerStart → s.retentionHeld = true) → exec c s = .next t →
    t.tariffs.bank s.tariffs.active = s.tariffs.bank s.tariffs.active

/-! ## Frames read back -/

/-- R182: a well-formed request's frame is read back as that request. -/
def Obligations.RequestFramesAreReadBack : Prop :=
  ∀ (i : Instr) (bytes : List Byte), i.wf = true → linkBytes i = some bytes → linkCommand bytes = some i

/-- R183: a well-formed terminal frame is read back as that command on its line. -/
def Obligations.TerminalFramesAreReadBack : Prop :=
  ∀ (i : Instr) (line : LineNo) (bytes : List Byte),
    i.wf = true → lineOf i = some line → lineBytes i = some bytes → lineCommand line bytes = i

/-- R15, R16, R181, R184: the body of a TARIFF PUT laid out for a tariff within the values of R15 is read as that bank, zone
and tariff. -/
def Obligations.TariffPutBodyIsRead : Prop :=
  ∀ (bank : BankLetter) (zone : Zone) (t : ZoneTariff), t.valid →
    readTariffPut (bank.byte :: byte zone.val :: t.bytes) = .ok { bank := bank, zone := zone, tariff := t }

/-! ## Clock and Calendar -/

/-- R8: CLOCK GET gives the five readings, and the Link Port alone has changed. -/
def Obligations.ClockGetReadsTheClock : Prop :=
  ∀ (s : State) (tag : Byte), s.ready = true →
    exec (.clockGet tag []) s =
      .next (s.replied tag 2 (.done
        (.clock s.clock.day s.clock.second s.clock.valid (s.clock.day % 7) (dayTypeOf s.calendar s.clock.day))))

/-- R5: CLOCK SET gives the time, makes the clock VALID, sets the pace counters to 0, carries out a switchover that is due, and
is answered DONE; the Calendar, the permits, the cash accounts and the Fare Engine are as they were. -/
def Obligations.ClockSetGivesTheTime : Prop :=
  ∀ (s : State) (tag : Byte) (day second : Nat), s.ready = true → day ≤ 65535 → second ≤ 86399 →
    ∃ t, exec (.clockSet tag (toBinary 2 day ++ toBinary 3 second)) s = .next t ∧
      t.clock = { day := day, second := second, valid := true } ∧
      (∀ l, (t.line l).paceCounter = 0 ∧ (t.line l).settings = (s.line l).settings) ∧
      t.tariffs =
        (if s.tariffs.due { day := day, minute := second / 60 } then s.tariffs.switch else s.tariffs) ∧
      t.link = s.link.answered tag 1 (.done .plain) ∧
      t.calendar = s.calendar ∧ t.permits = s.permits ∧ t.cash = s.cash ∧ t.fare = s.fare ∧
      t.defaults = s.defaults ∧ t.elapsed = s.elapsed ∧ t.pending = s.pending ∧
      ∀ n, (t.context n).map (fun c => { c with owed := .none }) =
        (s.context n).map fun c => { c with owed := .none }

/-- R5 step 4, R7, R161: after a CLOCK SET every configured terminal has a CLOCK order: owed, in its line's directed queue, or
in its line's exchange with the time given, which begins at its choice (log 37: the model's choice). -/
def Obligations.ClockSetReachesEveryTerminal : Prop :=
  ∀ (s t : State) (tag : Byte) (day second : Nat), s.ready = true → day ≤ 65535 → second ≤ 86399 → s.contextsKept →
    exec (.clockSet tag (toBinary 2 day ++ toBinary 3 second)) s = .next t →
    ∀ n c, s.context n = some c →
      ∃ d, t.context n = some d ∧ d.line = c.line ∧
        (d.owed.clock = true ∨ (t.line d.line).holds n .clock = true ∨
          ∃ e, (t.line d.line).exchange = some e ∧ e.terminal = n ∧
            e.frame = .order (.clock { day := day, second := second }))

/-- R9 to R11: CALENDAR PUT places or replaces the day's entry and is answered DONE, or is refused FULL when it would add to 64
entries; from then on the day has the type given and every other day the type it had. CALENDAR DROP removes the day's
entry, after which the day has the type of its day of week, or is refused NO SUCH; CALENDAR LIST gives every entry from a
day on and changes the Link Port alone. -/
def Obligations.CalendarRequestsKeepTheDayTypes : Prop :=
  (∀ (s : State) (tag : Byte) (e : CalendarEntry), s.ready = true → e.day ≤ 65535 →
     exec (.calendarPut tag (toBinary 2 e.day ++ [e.type.byte])) s =
       .next (if s.marked e.day = false ∧ 64 ≤ s.calendar.length then s.replied tag 3 .full
         else ({ s with calendar := putEntry e s.calendar } : State).replied tag 3 (.done .plain)) ∧
     ∀ day, dayTypeOf (putEntry e s.calendar) day = if day = e.day then e.type else dayTypeOf s.calendar day) ∧
  ∀ (s : State) (tag : Byte) (day : Nat), s.ready = true → day ≤ 65535 →
    exec (.calendarDrop tag (toBinary 2 day)) s =
      .next (if s.marked day then
          ({ s with calendar := s.calendar.filter fun e => e.day != day } : State).replied tag 4 (.done .plain)
        else s.replied tag 4 .noSuch) ∧
    dayTypeOf (s.calendar.filter fun e => e.day != day) day =
      (if day % 7 < 5 then .weekday else if day % 7 = 5 then .saturday else .sunday) ∧
    exec (.calendarList tag (toBinary 2 day)) s =
      .next (s.replied tag 5 (.done (.calendar (s.calendar.filter fun e => decide (day ≤ e.day)))))

/-- R2, R3, R25: a seconds event advances the time as R2 lays down and every pace counter as R3 does, and carries out a
switchover that a new minute of a VALID clock makes due. Nothing of the Calendar, the permits, the cash accounts, the Fare
Engine or the link changes. -/
def Obligations.SecondsEventCounts : Prop :=
  ∀ s : State, s.mainSupply = true →
    ∃ t, exec .secondsEvent s = .next t ∧
      t.clock =
        (if s.clock.day = 65535 ∧ s.clock.second = 86399 then s.clock
          else if s.clock.second < 86399 then { s.clock with second := s.clock.second + 1 }
          else { s.clock with day := s.clock.day + 1, second := 0 }) ∧
      (∀ l, (t.line l).paceCounter =
        if (s.line l).paceCounter + 1 = (s.line l).settings.interval then 0 else (s.line l).paceCounter + 1) ∧
      t.tariffs =
        (if s.clock.valid = true ∧ ¬(s.clock.day = 65535 ∧ s.clock.second = 86399) ∧ t.clock.second % 60 = 0 ∧
            s.tariffs.due t.clock.current = true then s.tariffs.switch else s.tariffs) ∧
      t.calendar = s.calendar ∧ t.permits = s.permits ∧ t.cash = s.cash ∧ t.fare = s.fare ∧ t.link = s.link ∧
      t.pending = s.pending

/-- R3, R158: a pace tick at a line paced by the clock makes a leg NONE PENDING, and at a PENDING or RUNNING leg is dropped
with PACE OVERRUN noted; at any other line it has no effect on the sweep. Taking the tick off the count of those handed on
is the model's own (log 5). R159: SWEEP gives the disposition of its table and does what that line of the table says. R155, R156,
R158, R163: an IDLE line with nothing queued takes the leg's, or the pass's, first entries in the same act: some are passed over
and the next is polled, or the leg or the pass is over at once. The model's own choices: a PACED pass is RUNNING from entry 1 on
(log 16), the pass start is a count of seconds events (log 4), and an exchange begins at its choice (log 37). -/
def Obligations.SweepsAndPaceTicks : Prop :=
  (∀ (s : State) (l : LineNo), s.mainSupply = true →
     ((s.line l).pacedByClock = true → (s.line l).leg ≠ .none →
       exec (.paceTick l) s = .next ((s.onLine l Line.takeTick).notice (.paceOverrun l))) ∧
     ((s.line l).pacedByClock = true → (s.line l).leg = .none →
       ((s.line l).state ≠ .idle →
         exec (.paceTick l) s = .next (s.onLine l fun L => { L.takeTick with leg := .pending })) ∧
       ((s.line l).state = .idle → (s.line l).chain = none → (s.line l).directed = [] →
         ∃ t, exec (.paceTick l) s = .next t ∧ s.onlyLine t l ∧
           s.takesLeg t l (s.line l).takeTick (s.line l).settings.leg)) ∧
     ((s.line l).pacedByClock = false → exec (.paceTick l) s = .next (s.onLine l Line.takeTick))) ∧
  ∀ (s : State) (tag : Byte) (l : LineNo), s.ready = true →
    ((s.line l).halted = true ∨ (s.line l).settings.mode = .continuous ∨
        ((s.line l).settings.mode = .paced ∧ (s.line l).settings.source = .clock) ∨
        ((s.line l).settings.mode = .single ∧ (s.line l).pass ≠ .none) →
      exec (.sweep tag [byte l.val]) s = .next (s.replied tag 43 (.done (.sweep .none)))) ∧
    ((s.line l).halted = false →
      ((s.line l).settings.mode = .single → (s.line l).pass = .none →
        ((s.line l).state ≠ .idle →
          exec (.sweep tag [byte l.val]) s =
            .next ((s.onLine l fun L => L.rewound .running).replied tag 43 (.done (.sweep .started)))) ∧
        ((s.line l).state = .idle → (s.line l).chain = none → (s.line l).directed = [] →
          ∃ u, exec (.sweep tag [byte l.val]) s = .next (u.replied tag 43 (.done (.sweep .started))) ∧
            s.onlyLine u l ∧ s.takesPass u l (s.line l))) ∧
      ((s.line l).settings.mode = .paced → (s.line l).settings.source = .host →
        ((s.line l).leg = .none →
          ((s.line l).state ≠ .idle →
            exec (.sweep tag [byte l.val]) s =
              .next ((s.onLine l fun L => { L with leg := .pending }).replied tag 43 (.done (.sweep .leg)))) ∧
          ((s.line l).state = .idle → (s.line l).chain = none → (s.line l).directed = [] →
            ∃ u, exec (.sweep tag [byte l.val]) s = .next (u.replied tag 43 (.done (.sweep .leg))) ∧
              s.onlyLine u l ∧ s.takesLeg u l (s.line l) (s.line l).settings.leg)) ∧
        ((s.line l).leg ≠ .none →
          exec (.sweep tag [byte l.val]) s =
            .next ((s.notice (.paceOverrun l)).replied tag 43 (.done (.sweep .overrun))))))

/-! ## Tariff banks -/

/-- R18: TARIFF PUT into the staged bank writes the named slot and no other, leaves both versions, the roles and the schedule
as they were, and is answered DONE; into the active bank it is refused STATE. -/
def Obligations.TariffPutWritesOneSlot : Prop :=
  ∀ (s : State) (tag : Byte) (body : List Byte) (p : TariffPut), s.ready = true → readTariffPut body = .ok p →
    (p.bank = s.tariffs.active → exec (.tariffPut tag body) s = .next (s.replied tag 6 .state)) ∧
    (p.bank ≠ s.tariffs.active →
      ∃ tariffs, exec (.tariffPut tag body) s =
          .next (({ s with tariffs := tariffs } : State).replied tag 6 (.done .plain)) ∧
        tariffs.active = s.tariffs.active ∧ tariffs.schedule = s.tariffs.schedule ∧
        ∀ letter zone, tariffs.copy letter zone =
          if letter = p.bank ∧ zone = p.zone then { s.tariffs.copy letter zone with tariff := some p.tariff }
          else s.tariffs.copy letter zone)

/-- R19: TARIFF DROP with a bad bank or zone is refused FIELD with that field's index; for the active bank it is refused STATE;
for an absent slot NO SUCH; otherwise the slot becomes absent, the version is left as it is, nothing else of the Tariff
Store changes, and the reply is DONE. -/
def Obligations.TariffDropMakesASlotAbsent : Prop :=
  ∀ (s : State) (tag : Byte), s.ready = true →
    (∀ body index, readSlot body = .error index →
      exec (.tariffDrop tag body) s = .next (s.replied tag 7 (.field index))) ∧
    (∀ code zone : Byte, bankOfCode code.toNat = none → readSlot [code, zone] = .error 1) ∧
    (∀ (bank : BankLetter) (zone : Byte), 15 < zone.toNat → readSlot [bank.byte, zone] = .error 2) ∧
    ∀ (bank : BankLetter) (zone : Zone),
      (bank = s.tariffs.active →
        exec (.tariffDrop tag [bank.byte, byte zone.val]) s = .next (s.replied tag 7 .state)) ∧
      (bank ≠ s.tariffs.active → (s.tariffs.copy bank zone).tariff = none →
        exec (.tariffDrop tag [bank.byte, byte zone.val]) s = .next (s.replied tag 7 .noSuch)) ∧
      (bank ≠ s.tariffs.active → (s.tariffs.copy bank zone).tariff ≠ none →
        ∃ tariffs, exec (.tariffDrop tag [bank.byte, byte zone.val]) s =
            .next (({ s with tariffs := tariffs } : State).replied tag 7 (.done .plain)) ∧
          tariffs.active = s.tariffs.active ∧ tariffs.schedule = s.tariffs.schedule ∧
          ∀ letter z, tariffs.copy letter z =
            if letter = bank ∧ z = zone then { s.tariffs.copy letter z with tariff := none }
            else s.tariffs.copy letter z)

/-- R20, R21: TARIFF GET gives the active letter, the named bank's version, the schedule and the slot, and changes the Link
Port alone; BANK COPY gives the staged bank the active bank's slots and keeps the versions, the roles and the schedule. -/
def Obligations.TariffGetAndBankCopy : Prop :=
  ∀ (s : State) (tag : Byte), s.ready = true →
    (∀ (bank : BankLetter) (zone : Zone),
      exec (.tariffGet tag [bank.byte, byte zone.val]) s =
        .next (s.replied tag 8 (.done (.tariff s.tariffs.active (s.tariffs.bank bank).version s.tariffs.schedule
          ((s.tariffs.bank bank).slots.get zone))))) ∧
    ∃ tariffs, exec (.bankCopy tag []) s = .next (({ s with tariffs := tariffs } : State).replied tag 9 (.done .plain)) ∧
      tariffs.active = s.tariffs.active ∧ tariffs.schedule = s.tariffs.schedule ∧
      tariffs.bank s.tariffs.active = s.tariffs.bank s.tariffs.active ∧
      tariffs.bank s.tariffs.staged =
        { version := (s.tariffs.bank s.tariffs.staged).version, slots := (s.tariffs.bank s.tariffs.active).slots }

/-- R22: SWITCH AT refuses a time not later than the current minute while the clock is VALID, naming the day or the minute, and
otherwise sets the schedule; with the clock INVALID it sets whatever time is given. R23, R26: SWITCH NOW with the clock
INVALID is refused STATE; with the clock VALID the banks exchange roles, the new active bank takes the old one's version
plus one, modulo 65,536, both keep their slots, the schedule is emptied, one more SWITCHOVER is noted, and the reply is DONE.
R29: every configured terminal then has a PLATE order: owed, in its line's directed queue, or begun as its line's chain with
the copy of its zone in the new active bank (an exchange begins at its choice, log 37: the model's choice). -/
def Obligations.SwitchoversAreSetAndMade : Prop :=
  (∀ (s : State) (tag : Byte) (day minute : Nat), s.ready = true → day ≤ 65535 → minute ≤ 1439 →
     exec (.switchAt tag (toBinary 2 day ++ toBinary 2 minute)) s =
       .next (if s.clock.valid = true ∧ day < s.clock.day then s.replied tag 10 (.field 1)
         else if s.clock.valid = true ∧ day = s.clock.day ∧ minute ≤ s.clock.second / 60 then
           s.replied tag 10 (.field 2)
         else
           ({ s with tariffs := { s.tariffs with schedule := some { day := day, minute := minute } } } : State).replied
             tag 10 (.done .plain))) ∧
  ∀ (s : State) (tag : Byte), s.ready = true →
    (s.clock.valid = false → exec (.switchNow tag []) s = .next (s.replied tag 11 .state)) ∧
    (s.clock.valid = true →
      ∃ t, exec (.switchNow tag []) s = .next t ∧
        t.tariffs.active = s.tariffs.staged ∧ t.tariffs.schedule = none ∧
        t.tariffs.bank s.tariffs.active = s.tariffs.bank s.tariffs.active ∧
        t.tariffs.bank s.tariffs.staged =
          { slots := (s.tariffs.bank s.tariffs.staged).slots
            version := ((s.tariffs.bank s.tariffs.active).version + 1) % 65536 } ∧
        oneMore .switchover s.notices t.notices ∧ t.attention = true ∧
        t.link = s.link.answered tag 11 (.done .plain) ∧
        t.clock = s.clock ∧ t.calendar = s.calendar ∧ t.permits = s.permits ∧ t.cash = s.cash ∧ t.fare = s.fare ∧
        (s.contextsKept → ∀ n c, s.context n = some c →
          ∃ d, t.context n = some d ∧ d = { c with owed := d.owed } ∧
            (d.owed.plate = true ∨ (t.line c.line).holds n .plate = true ∨
              ∃ chain, (t.line c.line).chain = some chain ∧ chain.terminal = n ∧ chain.zone = c.zone ∧
                chain.copy = t.tariffs.copy t.tariffs.active c.zone)))

/-- R24: SWITCH CANCEL empties a schedule that holds an entry and is answered DONE, is refused NO SUCH for an empty one, and
changes neither bank. -/
def Obligations.SwitchCancelEmptiesTheSchedule : Prop :=
  ∀ (s : State) (tag : Byte), s.ready = true →
    exec (.switchCancel tag []) s =
      .next (if s.tariffs.schedule = none then s.replied tag 12 .noSuch
        else ({ s with tariffs := { s.tariffs with schedule := none } } : State).replied tag 12 (.done .plain))

/-! ## The Fare Engine -/

/-- R42 to R45, R47 to R49, R55: what every COMPUTED MONEY walk under a tariff within R15 is worth; a TRIAL's result alone has a
segment list, and what the same walk's list holds adds up to the figures. R40, R46 to R49: the same of a COMPUTED MINUTES walk; a
session's or referral's is held to the zone's cap. R41, R47, R49: FREE PARKING and INSUFFICIENT carry the start. -/
def Obligations.WalksAddUp : Prop :=
  (∀ (c : Computation) (t : ZoneTariff) (money : Nat) (f : Figures),
     c.latched → c.copy.tariff = some t → t.valid → c.entry.budget = .money money → c.walk = .computed f →
     f.charged + f.unused = money ∧ t.minimumCharge ≤ f.charged ∧ f.charged = max f.walkCost t.minimumCharge ∧
       1 ≤ f.minutes ∧ f.minutes ≤ t.maximumStay ∧
       (f.segments = none ↔ c.entry.kind ≠ .trial) ∧
       (∃ list, (c.tried (.money money)).walk = .computed { f with segments := some list } ∧
         (list.map (·.minutes)).sum = f.minutes ∧ (list.map (·.cost)).sum = f.walkCost) ∧
       f.start = c.start ∧ c.start.upTo f.chargeableStart ∧ f.chargeableStart.before f.expiry ∧
       f.expiry.upTo c.horizon) ∧
  (∀ (c : Computation) (t : ZoneTariff) (minutes : Nat) (f : Figures),
    c.latched → c.copy.tariff = some t → t.valid → c.entry.budget = .minutes minutes → 1 ≤ minutes →
    c.walk = .computed f →
    f.charged = 0 ∧ f.unused = 0 ∧ f.walkCost = 0 ∧ 1 ≤ f.minutes ∧ f.minutes ≤ minutes ∧
      (c.entry.kind ≠ .trial → ∃ cap, t.residentCap = some cap ∧ f.minutes ≤ cap) ∧
      (f.segments = none ↔ c.entry.kind ≠ .trial) ∧
      (∃ list walked,
        walked = (match t.residentCap with
          | some cap => if c.entry.kind = .trial then minutes else min minutes cap
          | none => minutes) ∧
        (c.tried (.minutes walked)).walk = .computed { f with segments := some list } ∧
        (list.map (·.minutes)).sum = f.minutes) ∧
      f.start = c.start ∧ c.start.upTo f.chargeableStart ∧ f.chargeableStart.before f.expiry ∧
      f.expiry.upTo c.horizon) ∧
  ∀ (c : Computation) (start : Moment), c.walk = .freeParking start ∨ c.walk = .insufficient start → start = c.start

/-- R54, R33, R37: a FARE TRIAL places its entry, which begins at once in an idle engine with the start it carries and the copy
of the bank it names, and waits behind every other otherwise; the request stays outstanding without a reply. R50, R54,
R34: the completion of a trial hands the outstanding request its reply and serves the fare queue, oldest entry first. -/
def Obligations.TrialsArePlacedAndAnswered : Prop :=
  (∀ (s : State) (tag : Byte) (body : List Byte) (trial : Trial) (entry : FareEntry), s.ready = true →
     readTrial body = .ok trial →
     entry = { kind := .trial, budget := trial.budget, zone := trial.zone, bank := trial.role, start := some trial.start,
               returnTo := .host tag, permit := none } →
     (s.fare.computing = none →
       ∃ latched : Computation,
         exec (.fareTrial tag body) s =
           .next { s with link := s.link.accept tag 13, fare := { s.fare with computing := some latched } } ∧
         latched.entry = entry ∧ latched.start = trial.start ∧ latched.horizon = horizonEnd trial.start.day ∧
         latched.copy =
           s.tariffs.copy (if trial.role = .active then s.tariffs.active else s.tariffs.staged) trial.zone ∧
         latched.dayType = dayTypeOf s.calendar trial.start.day) ∧
     (s.fare.computing ≠ none →
       exec (.fareTrial tag body) s =
         .next { s with link := s.link.accept tag 13, fare := { s.fare with queue := s.fare.queue ++ [entry] } })) ∧
  ∀ (s : State) (c : Computation) (tag : Byte) (o : Outstanding), s.mainSupply = true → s.fare.computing = some c →
    c.entry.returnTo = .host tag → s.link.outstanding = some o →
    exec .computationComplete s =
      .next { s with
        link := s.link.push
          { tag := o.tag, kind := o.kind, body := .done (.trial c.copy.letter c.copy.version c.walk) }
        fare := match s.fare.queue with
          | [] => { queue := [], computing := none }
          | e :: rest => { queue := rest, computing := some (s.latch e) } }

/-- R69, R70, R73, R102, R103, R124: a SALE result that passes every check is committed: the serial, the six coin counts and
both totals of the tally, paper remaining and the last ticket as R70 has them, the request in flight removed, and TICKET
handed to the line; nothing of permits, cash accounts, banks, clock or link changes, nor any other terminal or line. One that
fails a check commits nothing and is REFUSED with the reason of the first check that fails. R67: a QUOTE result is answered
by the condition and the walk. R68, R69: the result of a withdrawn SALE or QUOTE removes the request in flight, and nothing
is committed or answered. -/
def Obligations.SalesAreCommittedOrRefused : Prop :=
  ∀ (s : State) (k : Computation) (n request : Nat) (c : Context), s.mainSupply = true → s.fare.computing = some k →
    k.entry.returnTo = .terminal n request → s.context n = some c →
    (∀ coins quote f, k.entry.kind = .sale →
      c.inFlight = some { kind := .sale coins quote, number := request, withdrawn := false } → k.walk = .computed f →
      s.saleFails c k.walk = none →
      ∃ t d ticket, exec .computationComplete s = .next t ∧ t.context n = some d ∧
        d.serial = (if c.serial < 999999 then c.serial + 1 else 1) ∧
        d.tally =
          { coins :=
              { p5 := c.tally.coins.p5 + coins.p5, p10 := c.tally.coins.p10 + coins.p10,
                p20 := c.tally.coins.p20 + coins.p20, p50 := c.tally.coins.p50 + coins.p50,
                p100 := c.tally.coins.p100 + coins.p100, p200 := c.tally.coins.p200 + coins.p200 }
            coinTotal :=
              c.tally.coinTotal + (coins.p5 + coins.p10 + coins.p20 + coins.p50 + coins.p100 + coins.p200)
            penceTotal :=
              c.tally.penceTotal + (5 * coins.p5 + 10 * coins.p10 + 20 * coins.p20 + 50 * coins.p50 +
                100 * coins.p100 + 200 * coins.p200) } ∧
        d.paperRemaining = c.paperRemaining - 1 ∧
        (d.faults.paperOut = true ↔ c.faults.paperOut = true ∨ d.paperRemaining = 0) ∧
        d.inFlight = none ∧
        ticket =
          { terminal := n, serial := d.serial, zone := k.entry.zone, start := k.start, expiry := f.expiry,
            charged := f.charged, unused := f.unused, minutes := f.minutes, version := k.copy.version,
            freeStart := f.freeStart, maxStay := f.ending == .maxStay, horizon := f.ending == .horizon,
            tariffChanged := quote.any (· != k.copy.version), resident := false, permit := none } ∧
        d.last = some (request, ticket) ∧ s.answers t c.line n request (.ticket ticket) ∧
        d.suspended = c.suspended ∧ d.collection = c.collection ∧ d.events = c.events ∧ d.errors = c.errors ∧
        s.onlyAt t n c.line ∧ t.permits = s.permits ∧ t.cash = s.cash ∧ t.link = s.link ∧ s.sameStore t) ∧
    (∀ coins quote reason, k.entry.kind = .sale →
      c.inFlight = some { kind := .sale coins quote, number := request, withdrawn := false } →
      s.saleFails c k.walk = some reason →
      ∃ t, exec .computationComplete s = .next t ∧ t.context n = some { c with inFlight := none } ∧
        s.answers t c.line n request (.refused reason) ∧ s.onlyAt t n c.line ∧ t.notices = s.notices ∧
        t.permits = s.permits ∧ t.cash = s.cash ∧ t.link = s.link ∧ s.sameStore t) ∧
    (k.entry.kind = .quote → c.inFlight = some { kind := .quote, number := request, withdrawn := false } →
      ∃ t, exec .computationComplete s = .next t ∧ t.context n = some { c with inFlight := none } ∧
        (∀ f, c.condition = .inService → k.walk = .computed f →
          s.answers t c.line n request
            (.quoted f.expiry f.charged f.unused f.minutes f.freeStart f.ending k.copy.version)) ∧
        (∀ reason, c.condition = .inService → k.walk.reason = some reason →
          s.answers t c.line n request (.refused reason)) ∧
        (c.condition = .restricted → s.answers t c.line n request (.refused .coinsClosed)) ∧
        (c.condition ≠ .inService → c.condition ≠ .restricted →
          s.answers t c.line n request (.refused .notInService)) ∧
        s.onlyAt t n c.line ∧ t.notices = s.notices ∧ t.permits = s.permits ∧ t.cash = s.cash ∧ t.link = s.link ∧
        s.sameStore t) ∧
    (∀ kind, k.entry.kind ≠ .session → c.inFlight = some { kind := kind, number := request, withdrawn := true } →
      ∃ t, exec .computationComplete s = .next t ∧ t.context n = some { c with inFlight := none } ∧
        (∀ m, m ≠ n → t.context m = s.context m) ∧ t.lines = s.lines ∧ t.notices = s.notices ∧
        t.permits = s.permits ∧ t.cash = s.cash ∧ t.link = s.link ∧ s.sameStore t)

/-- R71, R72, R91: a SESSION result that passes every check is committed to the permit's record: the used day, the used minutes
and the last session of R91; the claim of this walk is cleared, and TICKET handed to the line. One that fails a check is
REFUSED with the reason of the first that fails, and one that is withdrawn (R68, R90) is not answered; the claim is cleared
and nothing is committed. R98, R99: a REFERRAL result that passes, checks 5 to 8 not made for a GRANT ONCE, becomes the held
ticket, charged to the record of a GRANT AND LOAD and to none for a GRANT ONCE; one that fails becomes the held refusal; of a
detached entry nothing is committed or held. In each case the claim that names the referral is cleared, the entry leaves the
list, and the last ticket stays. The walk's start day, not today's, decides at a commit (log 39: the model's choice between R71 with
R91 and R1's table). -/
def Obligations.SessionIsCharged : Prop :=
  (∀ (s : State) (k : Computation) (n request : Nat) (c : Context), s.mainSupply = true → s.fare.computing = some k →
    k.entry.returnTo = .terminal n request → k.entry.kind = .session → s.context n = some c →
    (∀ f p, c.inFlight = some { kind := .session, number := request, withdrawn := false } → k.walk = .computed f →
      k.entry.permit = some p.number → s.permit p.number = some p → s.sessionFails c k false = none →
      ∃ t d ticket, exec .computationComplete s = .next t ∧ t.context n = some d ∧
        d.serial = (if c.serial < 999999 then c.serial + 1 else 1) ∧ d.inFlight = none ∧ d.tally = c.tally ∧
        d.paperRemaining = c.paperRemaining - 1 ∧
        ticket =
          { terminal := n, serial := d.serial, zone := k.entry.zone, start := k.start, expiry := f.expiry, charged := 0,
            unused := 0, minutes := f.minutes, version := k.copy.version, freeStart := f.freeStart,
            maxStay := f.ending == .maxStay, horizon := f.ending == .horizon, tariffChanged := false, resident := true,
            permit := some p.number } ∧
        d.last = some (request, ticket) ∧ s.answers t c.line n request (.ticket ticket) ∧
        t.permit p.number = some
          { p with
            usedDay := some k.start.day
            usedMinutes := p.effectiveUsed k.start.day + f.minutes
            lastSession := some
              { terminal := n, zone := k.entry.zone, start := k.start, expiry := f.expiry, minutes := f.minutes }
            claim := if p.claim = some (.session n request) then none else p.claim } ∧
        (∀ m, m ≠ p.number → t.permit m = (s.permit m).map fun q => q.without (.session n request)) ∧
        s.onlyAt t n c.line ∧ t.cash = s.cash ∧ t.link = s.link ∧ s.sameStore t) ∧
    (∀ reason, c.inFlight = some { kind := .session, number := request, withdrawn := false } →
      s.sessionFails c k false = some reason →
      ∃ t, exec .computationComplete s = .next t ∧ t.context n = some { c with inFlight := none } ∧
        s.answers t c.line n request (.refused reason) ∧
        (∀ m, t.permit m = (s.permit m).map fun q => q.without (.session n request)) ∧
        s.onlyAt t n c.line ∧ t.notices = s.notices ∧ t.cash = s.cash ∧ t.link = s.link ∧ s.sameStore t) ∧
    (∀ kind, c.inFlight = some { kind := kind, number := request, withdrawn := true } →
      ∃ t, exec .computationComplete s = .next t ∧ t.context n = some { c with inFlight := none } ∧
        (∀ m, t.permit m = (s.permit m).map fun q => q.without (.session n request)) ∧
        (∀ m, m ≠ n → t.context m = s.context m) ∧ t.lines = s.lines ∧ t.notices = s.notices ∧ t.cash = s.cash ∧
        t.link = s.link ∧ s.sameStore t)) ∧
  ∀ (s : State) (k : Computation) (number terminal : Nat) (r : Referral) (once : Bool), s.mainSupply = true →
    s.fare.computing = some k → k.entry.returnTo = .referral number terminal → s.referralOf number = some r →
    (once = true ↔ ∃ minutes, r.decision = some (.grantOnce minutes)) →
    ∃ t, exec .computationComplete s = .next t ∧
      t.permits.referrals = s.permits.referrals.filter (fun q => q.number != number) ∧
      t.permits.queue = s.permits.queue ∧ t.permits.working = s.permits.working ∧
      t.cash = s.cash ∧ t.link = s.link ∧ s.sameStore t ∧
      (∀ c f, r.detached = false → s.context r.terminal = some c → k.walk = .computed f →
        s.sessionFails c k once = none →
        ∃ d ticket, t.context r.terminal = some d ∧ d.serial = (if c.serial < 999999 then c.serial + 1 else 1) ∧
          ticket =
            { terminal := r.terminal, serial := d.serial, zone := k.entry.zone, start := k.start, expiry := f.expiry,
              charged := 0, unused := 0, minutes := f.minutes, version := k.copy.version, freeStart := f.freeStart,
              maxStay := f.ending == .maxStay, horizon := f.ending == .horizon, tariffChanged := false,
              resident := true, permit := k.entry.permit } ∧
          d.held = some { referral := number, request := r.request, outcome := .ticket ticket } ∧
          d.referral = (if c.referral.map (·.referral) = some number then none else c.referral) ∧
          d.last = c.last ∧ d.tally = c.tally ∧ d.inFlight = c.inFlight ∧ d.paperRemaining = c.paperRemaining - 1 ∧
          t.ordered d .result ∧ s.onlyAt t r.terminal c.line ∧
          (once = true → ∀ m, t.permit m = (s.permit m).map fun q => q.without (.referral number)) ∧
          (∀ p, once = false → k.entry.permit = some p.number → s.permit p.number = some p →
            t.permit p.number = some
              { p with
                usedDay := some k.start.day
                usedMinutes := p.effectiveUsed k.start.day + f.minutes
                lastSession := some
                  { terminal := r.terminal, zone := k.entry.zone, start := k.start, expiry := f.expiry,
                    minutes := f.minutes }
                claim := if p.claim = some (.referral number) then none else p.claim } ∧
            ∀ m, m ≠ p.number → t.permit m = (s.permit m).map fun q => q.without (.referral number))) ∧
      (∀ c reason, r.detached = false → s.context r.terminal = some c → s.sessionFails c k once = some reason →
        ∃ d, t.context r.terminal = some d ∧
          d = { c with
            held := some { referral := number, request := r.request, outcome := .refusal reason }
            referral := if c.referral.map (·.referral) = some number then none else c.referral
            owed := d.owed } ∧
          t.ordered d .result ∧ s.onlyAt t r.terminal c.line ∧
          ∀ m, t.permit m = (s.permit m).map fun q => q.without (.referral number)) ∧
      (r.detached = true →
        (∀ m, t.context m = (s.context m).map fun c =>
          if m = r.terminal ∧ c.referral.map (·.referral) = some number then { c with referral := none } else c) ∧
        t.lines = s.lines ∧ t.notices = s.notices ∧
        ∀ m, t.permit m = (s.permit m).map fun q => q.without (.referral number))

/-! ## Terminal contexts -/

/-- R59, R60: TERMINAL SET for a terminal with no context, at a free line and drop, creates the context of R60, with the fault set
of its first re-evaluation (R130), reports the change of condition and is answered DONE with CREATED. Its CONDITION, PLATE and
CLOCK orders stand: they join the directed queue in that order at a line that is not IDLE and has room for them, and are owed
at one that is STOPPED or STOPPING. R59, R61: for a configured terminal it is refused DUPLICATE, then STATE;
otherwise it replaces the five fields, lowers paper remaining, re-evaluates the faults when a capacity has changed, asks for a
PLATE when the zone has, makes the former queue's entries owed when the line or drop has, and keeps the rest of the context.
No other terminal changes. -/
def Obligations.TerminalSetCreatesAndChanges : Prop :=
  (∀ (s : State) (tag : Byte) (body : List Byte) (f : TerminalSet), s.ready = true →
     readTerminalSet s.overrideOf body = .ok f → s.context f.number = none → s.dropTaken f = false →
     ∃ t c, exec (.terminalSet tag body) s = .next t ∧ t.context f.number = some c ∧
       c.number = f.number ∧ c.line = f.line ∧ c.drop = f.drop ∧ c.zone = f.zone ∧ c.boxCapacity = f.boxCapacity ∧
       c.paperCapacity = f.paperCapacity ∧ c.paperRemaining = f.paperCapacity ∧ c.override = none ∧
       c.faults =
         { forcedDoor := false, silent := false, printer := false, paperOut := false, coinPath := false
           boxFull := decide (min s.defaults.full f.boxCapacity = 0)
           boxNearFull := decide (min s.defaults.nearFull (min s.defaults.full f.boxCapacity) = 0)
           paperLow := decide (f.paperCapacity ≤ s.defaults.paperLow) } ∧
       c.suspended = false ∧ c.collection = none ∧ c.serial = 0 ∧ c.last = none ∧ c.lastEvent = none ∧ c.events = [] ∧
       c.reports = { condition := true, events := false, held := false, plate := false } ∧
       (∃ x ∈ t.notices, x.kind = .terminal f.number) ∧
       c.plateVersion = none ∧ c.inFlight = none ∧ c.referral = none ∧ c.held = none ∧
       c.errors = .zero ∧ c.tally = .empty ∧
       (t.ordered c .condition ∧ t.ordered c .plate ∧ t.ordered c .clock) ∧
       ((s.line f.line).halted = false → (s.line f.line).state ≠ .idle → (s.line f.line).directed.length ≤ 13 →
         (∀ x ∈ (s.line f.line).directed, x.terminal ≠ f.number) →
         c.owed = .none ∧
           t.line f.line =
             { s.line f.line with
               directed := (s.line f.line).directed ++
                 [{ terminal := f.number, kind := .condition }, { terminal := f.number, kind := .plate },
                  { terminal := f.number, kind := .clock }] }) ∧
       ((s.line f.line).halted = true → (∀ x ∈ (s.line f.line).directed, x.terminal ≠ f.number) →
         c.owed = { condition := true, clock := true, result := false, plate := true } ∧
           t.line f.line = s.line f.line) ∧
       s.onlyAt t f.number f.line ∧ t.link = s.link.answered tag 14 (.done (.terminalSet true)) ∧
       t.permits = s.permits ∧ t.cash = s.cash ∧ t.fare = s.fare ∧ s.sameStore t) ∧
  ∀ (s : State) (tag : Byte) (body : List Byte) (f : TerminalSet) (c : Context), s.ready = true →
    readTerminalSet s.overrideOf body = .ok f → s.context f.number = some c →
    (s.dropTaken f = true → exec (.terminalSet tag body) s = .next (s.replied tag 14 .duplicate)) ∧
    (s.dropTaken f = false → s.engaged c = true →
      exec (.terminalSet tag body) s = .next (s.replied tag 14 .state)) ∧
    (s.dropTaken f = false → s.engaged c = false →
      ∃ t d, exec (.terminalSet tag body) s = .next t ∧ t.context f.number = some d ∧
        d = { c with
          line := f.line, drop := f.drop, zone := f.zone, boxCapacity := f.boxCapacity, paperCapacity := f.paperCapacity
          paperRemaining := d.paperRemaining, faults := d.faults, owed := d.owed, reports := d.reports } ∧
        (c.paperRemaining ≤ c.paperCapacity → d.paperRemaining = min c.paperRemaining f.paperCapacity) ∧
        d.faults =
          (if f.boxCapacity = c.boxCapacity ∧ f.paperCapacity = c.paperCapacity then c.faults
            else { c.faults with
              boxFull := decide ((d.inForce s.defaults).full ≤ c.tally.coinTotal)
              boxNearFull := decide ((d.inForce s.defaults).nearFull ≤ c.tally.coinTotal)
              paperLow := decide (d.paperRemaining ≤ (d.inForce s.defaults).paperLow) }) ∧
        d.reports = { c.reports with condition := c.reports.condition || d.condition != c.condition } ∧
        (f.zone ≠ c.zone → t.ordered d .plate) ∧
        ((f.line ≠ c.line ∨ f.drop ≠ c.drop) → f.zone = c.zone → f.boxCapacity = c.boxCapacity →
          f.paperCapacity = c.paperCapacity →
          d.owed =
              { condition := c.owed.condition || (s.line c.line).holds f.number .condition
                clock := c.owed.clock || (s.line c.line).holds f.number .clock
                result := c.owed.result || (s.line c.line).holds f.number .result
                plate := c.owed.plate || (s.line c.line).holds f.number .plate } ∧
            t.line c.line =
              { s.line c.line with directed := (s.line c.line).directed.filter fun x => x.terminal != f.number } ∧
            ∀ l, l ≠ c.line → t.line l = s.line l) ∧
        (∀ l, l ≠ c.line → l ≠ f.line → t.line l = s.line l) ∧
        (∀ m, m ≠ f.number → t.context m = s.context m) ∧
        t.link = s.link.answered tag 14 (.done (.terminalSet false)) ∧
        t.permits = s.permits ∧ t.cash = s.cash ∧ t.fare = s.fare ∧ s.sameStore t)

/-- R62, R119: TERMINAL REMOVE is refused NO SUCH or STATE, and otherwise deletes the context with its entries in the directed
queue and the Notice Queue. R99: its WAITING referral is removed and a DECIDED one stays, detached; its lifted records
stay. -/
def Obligations.TerminalRemoveDeletesAContext : Prop :=
  ∀ (s : State) (tag : Byte) (n : Nat), s.ready = true → n ≤ 127 →
    (s.context n = none → exec (.terminalRemove tag [byte n]) s = .next (s.replied tag 15 .noSuch)) ∧
    (∀ c, s.context n = some c →
      (c.tally.isEmpty = false ∨ s.cash.roundOf n ≠ none ∨ c.inFlight ≠ none ∨ (s.line c.line).busyWith n = true) →
      exec (.terminalRemove tag [byte n]) s = .next (s.replied tag 15 .state)) ∧
    (∀ c, s.context n = some c → c.tally.isEmpty = true → s.cash.roundOf n = none → c.inFlight = none →
      (s.line c.line).busyWith n = false →
      ∃ t, exec (.terminalRemove tag [byte n]) s = .next t ∧ t.context n = none ∧
        (∀ m, m ≠ n → t.context m = s.context m) ∧
        (t.line c.line).directed = (s.line c.line).directed.filter (fun d => d.terminal != n) ∧
        t.notices = s.notices.filter (fun e => e.kind != .terminal n) ∧ t.attention = !t.notices.isEmpty ∧
        t.permits =
          { s.permits with
            referrals :=
              (s.permits.referrals.filter fun r => r.terminal != n || r.decision.isSome).map fun r =>
                if r.terminal = n then { r with detached := true } else r } ∧
        t.link = s.link.answered tag 15 (.done .plain) ∧ t.cash = s.cash ∧ t.fare = s.fare ∧ s.sameStore t)

/-- R63: TERMINAL GET gives the context, its condition, highest fault class and thresholds in force, and changes nothing but
the error counters, which CLEAR sets to 0 once the reply has their values. -/
def Obligations.TerminalGetReadsAContext : Prop :=
  ∀ (s : State) (tag : Byte) (n : Nat), s.ready = true → n ≤ 127 →
    (s.context n = none →
      exec (.terminalGet tag [byte n, 0]) s = .next (s.replied tag 16 (.done .unconfigured)) ∧
      exec (.terminalGet tag [byte n, 1]) s = .next (s.replied tag 16 (.done .unconfigured))) ∧
    (∀ c, s.context n = some c →
      exec (.terminalGet tag [byte n, 0]) s =
        .next (s.replied tag 16 (.done (.terminal c c.condition c.faults.code (c.inForce s.defaults)))) ∧
      exec (.terminalGet tag [byte n, 1]) s =
        .next ((s.onContext n fun d => { d with errors := .zero }).replied tag 16
          (.done (.terminal c c.condition c.faults.code (c.inForce s.defaults)))))

/-- R117, R133: SUSPEND, RESUME and END COLLECTION at a configured terminal: refused STATE where there is nothing to do, and
otherwise the flag or the collection changes, and the condition with it. R115, R116: END COLLECTION looks at the round as a
DOOR CLOSED does. -/
def Obligations.SuspendResumeAndEndCollection : Prop :=
  ∀ (s : State) (tag : Byte) (n : Nat) (c : Context), s.ready = true → n ≤ 127 → s.context n = some c →
    (c.suspended = true → exec (.suspend tag [byte n, 2]) s = .next (s.replied tag 17 .state)) ∧
    (c.suspended = false → exec (.resume tag [byte n, 3]) s = .next (s.replied tag 17 .state)) ∧
    (c.collection = none → exec (.endCollection tag [byte n, 1]) s = .next (s.replied tag 17 .state)) ∧
    (c.suspended = false →
      ∃ t d, exec (.suspend tag [byte n, 2]) s = .next t ∧ t.context n = some d ∧
        t.condition n = (if c.collection = none then .suspended else .inCollection) ∧
        d.suspended = true ∧ d.faults = c.faults ∧ d.collection = c.collection ∧
        (t.condition n ≠ s.condition n → d.reports.condition = true) ∧
        (∀ m, m ≠ n → t.context m = s.context m) ∧ t.link = s.link.answered tag 17 (.done .plain) ∧
        t.permits = s.permits ∧ t.cash = s.cash ∧ t.fare = s.fare ∧ s.sameStore t) ∧
    (c.suspended = true →
      ∃ t d, exec (.resume tag [byte n, 3]) s = .next t ∧ t.context n = some d ∧
        d.suspended = false ∧ d.faults = c.faults ∧ d.collection = c.collection ∧
        (t.condition n ≠ s.condition n → d.reports.condition = true) ∧
        (∀ m, m ≠ n → t.context m = s.context m) ∧ t.link = s.link.answered tag 17 (.done .plain) ∧
        t.permits = s.permits ∧ t.cash = s.cash ∧ t.fare = s.fare ∧ s.sameStore t) ∧
    (∀ number, c.collection = some number →
      ∃ t d, exec (.endCollection tag [byte n, 1]) s = .next t ∧ t.context n = some d ∧
        d.collection = none ∧ d.faults = c.faults ∧ d.suspended = c.suspended ∧ d.tally = c.tally ∧
        d.reports.condition = true ∧
        (s.completes n number →
          t.cash =
              { s.cash with
                rounds := s.cash.rounds.map fun r => if r.number = number then { r with isOpen := false } else r
                lastSelfClosed := some number } ∧
            oneMore .roundComplete s.notices t.notices) ∧
        (¬s.completes n number → t.cash = s.cash) ∧
        (∀ m, m ≠ n → t.context m = s.context m) ∧ t.link = s.link.answered tag 17 (.done .plain) ∧
        t.permits = s.permits ∧ t.fare = s.fare ∧ s.sameStore t)

/-- R165, R161, R163: MESSAGE is refused NO SUCH, then STATE, then FULL; otherwise its entry joins the directed queue as its
newest, and an IDLE line with nothing else queued takes it at once. Its exchange begins at that choice (log 37: the model's
choice). -/
def Obligations.MessageIsQueued : Prop :=
  ∀ (s : State) (tag : Byte) (n : Nat) (text : List Byte), s.ready = true → n ≤ 127 →
    1 ≤ text.length → text.length ≤ 40 → (∀ b ∈ text, 32 ≤ b.toNat ∧ b.toNat ≤ 126) →
    (s.context n = none → exec (.message tag (byte n :: 4 :: text)) s = .next (s.replied tag 17 .noSuch)) ∧
    (∀ c, s.context n = some c →
      ((c.faults.silent = true ∨ (s.line c.line).halted = true) →
        exec (.message tag (byte n :: 4 :: text)) s = .next (s.replied tag 17 .state)) ∧
      (c.faults.silent = false → (s.line c.line).halted = false → 16 ≤ (s.line c.line).directed.length →
        exec (.message tag (byte n :: 4 :: text)) s = .next (s.replied tag 17 .full)) ∧
      (c.faults.silent = false → (s.line c.line).halted = false → (s.line c.line).directed.length < 16 →
        (s.line c.line).state ≠ .idle →
        exec (.message tag (byte n :: 4 :: text)) s =
          .next ((s.onLine c.line fun L =>
            { L with directed := L.directed ++ [{ terminal := n, kind := .message text }] }).replied tag 17
              (.done .plain))) ∧
      (c.faults.silent = false → (s.line c.line).state = .idle → (s.line c.line).directed = [] →
        (s.line c.line).chain = none →
        exec (.message tag (byte n :: 4 :: text)) s =
          .next ((s.onLine c.line fun L =>
            { L with
              state := .awaitReply, exchange := some (L.opening c (.order (.message text)))
              driving := L.driving || !L.turnaround }).replied tag 17 (.done .plain))))

/-! ## Permits -/

/-- R81: a host's permit request that finds an operation in progress joins the permit queue behind every other, and stays
outstanding. R80, R84, R85, R86: PERMIT CHANGE, DROP and GET that begin at once settle their outcome at their beginning: NO
SUCH for a number no record holds; FIELD 5 for a change that would leave the days in the wrong order; the present fields
replaced; the record removed; the reading taken. Their replies wait for the completion, and so does a PERMIT SCAN's, which
begins with nothing chosen (log 10: the model's reading of R82). R82, R86: an access taken while a scan is in progress finds
it with as many records chosen as the free value of log 10 gives, each the next one in ascending order and read as it then
stood; stated of a SECONDS EVENT. R97, R98: a REFERRAL ANSWER that begins at once is settled TOO LATE, STATE or FULL;
otherwise the decision is recorded, GRANT ONCE places its walk with the smallest of the minutes asked, the minutes granted
and the cap, and GRANT AND LOAD goes on to its record. -/
def Obligations.PermitRequestsBeginOrWait : Prop :=
  (∀ (s : State) (tag : Byte) (body : List Byte), s.ready = true → s.permits.working ≠ none →
     (∀ records, readPermitLoad body = .ok records →
       exec (.permitLoad tag body) s =
         .next { s with link := s.link.accept tag 18, permits := { s.permits with queue := s.permits.queue ++ [.load records] } }) ∧
     (∀ c, readPermitChange body = .ok c →
       exec (.permitChange tag body) s =
         .next { s with link := s.link.accept tag 19, permits := { s.permits with queue := s.permits.queue ++ [.change c] } }) ∧
     (∀ n, readPermitNumber body = .ok n →
       exec (.permitDrop tag body) s =
         .next { s with link := s.link.accept tag 20, permits := { s.permits with queue := s.permits.queue ++ [.drop n] } } ∧
       exec (.permitGet tag body) s =
         .next { s with link := s.link.accept tag 21, permits := { s.permits with queue := s.permits.queue ++ [.get n] } }) ∧
     (∀ first count, readPermitScan body = .ok (first, count) →
       exec (.permitScan tag body) s =
         .next { s with
           link := s.link.accept tag 22
           permits := { s.permits with queue := s.permits.queue ++ [.scan first count] } }) ∧
     (∀ n decision, readReferralAnswer s.referredPermit body = .ok (n, decision) →
       exec (.referralAnswer tag body) s =
         .next { s with
           link := s.link.accept tag 25
           permits := { s.permits with queue := s.permits.queue ++ [.answer n decision] } })) ∧
  (∀ (s : State) (tag : Byte) (body : List Byte), s.ready = true → s.permits.working = none →
    (∀ n, readPermitNumber body = .ok n → s.permit n = none →
      exec (.permitGet tag body) s =
        .next { s with link := s.link.accept tag 21, permits := { s.permits with working := some (.settled .noSuch) } } ∧
      exec (.permitDrop tag body) s =
        .next { s with link := s.link.accept tag 20, permits := { s.permits with working := some (.settled .noSuch) } }) ∧
    (∀ n p, readPermitNumber body = .ok n → s.permit n = some p →
      (∃ r, s.readsAs p r ∧
        exec (.permitGet tag body) s =
          .next { s with
            link := s.link.accept tag 21
            permits := { s.permits with working := some (.settled (.done (.permit r))) } }) ∧
      exec (.permitDrop tag body) s =
        .next { s with
          link := s.link.accept tag 20
          permits := { s.permits with
            records := s.permits.records.filter fun p => p.number != n
            working := some (.settled (.done .plain)) } }) ∧
    (∀ c, readPermitChange body = .ok c → s.permit c.number = none →
      exec (.permitChange tag body) s =
        .next { s with link := s.link.accept tag 19, permits := { s.permits with working := some (.settled .noSuch) } }) ∧
    (∀ c p q, readPermitChange body = .ok c → s.permit c.number = some p →
      q = { p with
        status := c.status.getD p.status, allowance := c.allowance.getD p.allowance
        validFrom := c.validFrom.getD p.validFrom, validTo := c.validTo.getD p.validTo, zones := c.zones.getD p.zones } →
      (q.validTo < q.validFrom →
        exec (.permitChange tag body) s =
          .next { s with
            link := s.link.accept tag 19, permits := { s.permits with working := some (.settled (.field 5)) } }) ∧
      (q.validFrom ≤ q.validTo →
        ∃ t, exec (.permitChange tag body) s = .next t ∧
          t = { s with
            link := s.link.accept tag 19
            permits := { s.permits with
              records := t.permits.records, working := some (.settled (.done (.changed q))) } } ∧
          t.permit c.number = some q ∧ ∀ m, m ≠ c.number → t.permit m = s.permit m)) ∧
    (∀ first count, readPermitScan body = .ok (first, count) →
      exec (.permitScan tag body) s =
        .next { s with
          link := s.link.accept tag 22
          scanned := []
          permits := { s.permits with working := some (.scan first count) } })) ∧
  (∀ (s : State) (first count : Nat), s.mainSupply = true → s.permits.working = some (.scan first count) →
    s.permitsKept →
    ∃ t new, exec .secondsEvent s = .next t ∧ t.permits = s.permits ∧ t.scanned = s.scanned ++ new ∧
      new.map (·.record) <+: s.scanAhead first ∧ t.scanned.length ≤ max s.scanned.length count ∧
      ∀ r ∈ new, s.readsAs r.record r) ∧
  ∀ (s : State) (tag : Byte) (body : List Byte) (n : Nat) (decision : Decision), s.ready = true →
    s.permits.working = none → readReferralAnswer s.referredPermit body = .ok (n, decision) →
    (s.referralOf n = none →
      exec (.referralAnswer tag body) s =
        .next { s with link := s.link.accept tag 25, permits := { s.permits with working := some (.settled .tooLate) } }) ∧
    (∀ r, s.referralOf n = some r → r.decision ≠ none →
      exec (.referralAnswer tag body) s =
        .next { s with link := s.link.accept tag 25, permits := { s.permits with working := some (.settled .state) } }) ∧
    (∀ r minutes c entry, s.referralOf n = some r → r.decision = none → decision = .grantOnce minutes →
      s.context r.terminal = some c →
      entry = { kind := .referral, zone := c.zone, bank := .active, start := none, permit := some r.permit
                returnTo := .referral n r.terminal
                budget := .minutes (match s.activeCap c.zone with
                  | some cap => min (min r.minutes minutes) cap
                  | none => min r.minutes minutes) } →
      exec (.referralAnswer tag body) s =
        .next { s with
          link := s.link.accept tag 25
          permits := { s.permits with
            referrals := s.permits.referrals.map fun q => if q.number = n then { q with decision := some decision } else q
            working := some (.settled (.done .plain)) }
          fare := match s.fare.computing with
            | none => { s.fare with computing := some (s.latch entry) }
            | some _ => { s.fare with queue := s.fare.queue ++ [entry] } }) ∧
    (∀ r record, s.referralOf n = some r → r.decision = none → decision = .grantAndLoad record →
      (s.permit record.number = none → 2048 ≤ s.permits.records.length →
        exec (.referralAnswer tag body) s =
          .next { s with link := s.link.accept tag 25, permits := { s.permits with working := some (.settled .full) } }) ∧
      ((s.permit record.number ≠ none ∨ s.permits.records.length < 2048) →
        exec (.referralAnswer tag body) s =
          .next { s with
            link := s.link.accept tag 25
            permits := { s.permits with
              referrals := s.permits.referrals.map fun q => if q.number = n then { q with decision := some decision } else q
              working := some (.grant n record false) } }))

/-- R83: a PERMIT LOAD that begins at once is settled FULL when the records held and the distinct numbers no record holds would
pass 2,048, and otherwise begins with all its records to come. R82, R83, R98: each RECORD INSERTION takes the oldest of them,
or the record of a GRANT AND LOAD: a number no record holds is inserted, a number one holds has the host's fields replaced
and the rest kept; no other record changes. -/
def Obligations.PermitLoadTakesItsRecords : Prop :=
  (∀ (s : State) (tag : Byte) (body : List Byte) (records : List PermitFields) (added : List Nat), s.ready = true →
    readPermitLoad body = .ok records → s.permits.working = none → added.Nodup →
    (∀ n, n ∈ added ↔ (∃ f ∈ records, f.number = n) ∧ s.permit n = none) →
    exec (.permitLoad tag body) s =
      .next { s with
        link := s.link.accept tag 18
        permits := { s.permits with
          working := some (if 2048 < s.permits.records.length + added.length then .settled .full
            else .load records 0 0) } }) ∧
  (∀ (s : State) (f : PermitFields) (rest : List PermitFields) (inserted replaced : Nat), s.mainSupply = true →
    s.permits.working = some (.load (f :: rest) inserted replaced) →
    ∃ t, exec .recordInsertion s = .next t ∧
      t = { s with permits := { s.permits with records := t.permits.records, working := t.permits.working } } ∧
      (∀ m, m ≠ f.number → t.permit m = s.permit m) ∧
      (s.permit f.number = none →
        t.permit f.number = some f.record ∧ t.permits.working = some (.load rest (inserted + 1) replaced)) ∧
      (∀ p, s.permit f.number = some p →
        t.permit f.number = some (p.replace f) ∧ t.permits.working = some (.load rest inserted (replaced + 1)))) ∧
  ∀ (s : State) (f : PermitFields) (n : Nat), s.mainSupply = true → s.permits.working = some (.grant n f false) →
    ∃ t, exec .recordInsertion s = .next t ∧
      t = { s with permits := { s.permits with records := t.permits.records, working := some (.grant n f true) } } ∧
      (∀ m, m ≠ f.number → t.permit m = s.permit m) ∧
      (s.permit f.number = none → t.permit f.number = some f.record) ∧
      ∀ p, s.permit f.number = some p → t.permit f.number = some (p.replace f)

/-- R81: at the completion of a host's operation its reply is handed over and the oldest waiting operation begins, or the table
is idle; the settled replies are those of log 10. R83: a PERMIT LOAD whose last record is in gives the counts of records
inserted and replaced. R80, R86: a PERMIT SCAN gives, after the records it has chosen, the next ones in ascending order up to
the count asked, each read as it stands, and MORE exactly when records lie above the last one given. R97, R98: a GRANT AND LOAD
is answered DONE; the record that passes checks 4 to 7 takes the referral's claim and the REFERRAL walk is placed; one that
fails sets the held refusal with that check's reason, and the entry leaves the list. Where the record's number is not the
referral's, the claim and the checks go by the record's and the walk by the referral's: the model's own choice (log 32). -/
def Obligations.PermitCompletionIsAnswered : Prop :=
  ∀ (s : State) (o : Outstanding), s.mainSupply = true → s.link.outstanding = some o →
    (∀ body, s.permits.working = some (.settled body) →
      (s.permits.queue = [] →
        exec .permitOperationComplete s =
          .next { s with
            link := s.link.push { tag := o.tag, kind := o.kind, body := body }
            permits := { s.permits with working := none } }) ∧
      (∀ l rest, s.permits.queue = .lookup l :: rest →
        exec .permitOperationComplete s =
          .next { s with
            link := s.link.push { tag := o.tag, kind := o.kind, body := body }
            permits := { s.permits with queue := rest, working := some (.lookup l false) } })) ∧
    (∀ inserted replaced, s.permits.working = some (.load [] inserted replaced) → s.permits.queue = [] →
      exec .permitOperationComplete s =
        .next { s with
          link := s.link.push { tag := o.tag, kind := o.kind, body := .done (.loaded inserted replaced) }
          permits := { s.permits with working := none } }) ∧
    (∀ first count, s.permits.working = some (.scan first count) → s.permits.queue = [] → s.permitsKept →
      ∃ new more,
        exec .permitOperationComplete s =
          .next { s with
            link := s.link.push { tag := o.tag, kind := o.kind, body := .done (.scan (s.scanned ++ new) more) }
            scanned := []
            permits := { s.permits with working := none } } ∧
        new.map (·.record) = (s.scanAhead first).take (count - s.scanned.length) ∧
        (∀ r ∈ new, s.readsAs r.record r) ∧
        (more = true ↔ count - s.scanned.length < (s.scanAhead first).length)) ∧
    (∀ n record r c p, s.permits.working = some (.grant n record true) → s.permits.queue = [] →
      s.referralOf n = some r → r.detached = false → s.context r.terminal = some c →
      s.permit record.number = some p →
      (∀ cap entry, s.recordFails p c.zone = none → s.activeCap c.zone = some cap →
        entry = { kind := .referral, zone := c.zone, bank := .active, start := none, permit := some r.permit
                  returnTo := .referral r.number r.terminal
                  budget := .minutes (min r.minutes (min (p.remaining s.clock.day) cap)) } →
        ∃ t, exec .permitOperationComplete s = .next t ∧
          t = { s with
            link := s.link.push { tag := o.tag, kind := o.kind, body := .done .plain }
            permits := { s.permits with records := t.permits.records, working := none }
            fare := match s.fare.computing with
              | none => { s.fare with computing := some (s.latch entry) }
              | some _ => { s.fare with queue := s.fare.queue ++ [entry] } } ∧
          t.permit record.number = some { p with claim := some (.referral n) } ∧
          ∀ m, m ≠ record.number → t.permit m = s.permit m) ∧
      (∀ reason, s.recordFails p c.zone = some reason →
        ∃ t d, exec .permitOperationComplete s = .next t ∧ t.context r.terminal = some d ∧
          d = { c with
            held := some { referral := r.number, request := r.request, outcome := .refusal reason }
            referral := if c.referral.map (·.referral) = some r.number then none else c.referral
            owed := d.owed } ∧
          t.ordered d .result ∧ s.onlyAt t r.terminal c.line ∧
          t.permits =
            { s.permits with
              referrals := s.permits.referrals.filter (fun q => q.number != r.number), working := none } ∧
          t.link = s.link.push { tag := o.tag, kind := o.kind, body := .done .plain } ∧
          t.fare = s.fare ∧ t.cash = s.cash ∧ s.sameStore t))

/-- R87 to R89: a LOOKUP that fails a check is answered REFUSED with the reason of the first that fails, check 3 while referral
is DISABLED, and keeps nothing. One that passes the seven checks sets the record's claim and places the SESSION walk with the
smallest of the minutes asked, the remaining allowance and the cap. R93: one that finds no record while referral is ENABLED
makes a referral of the next number not held, marks the terminal's context with it, is answered WAIT and noted as REFERRALS,
the deadline counted in seconds events (log 4); it is answered BUSY, and nothing is kept, when the list holds 8 entries or one
for the terminal. -/
def Obligations.LookupSetsTheClaim : Prop :=
  ∀ (s : State) (l : Lookup), s.mainSupply = true →
    s.permits.working = some (.lookup l false) → s.permits.queue = [] →
    (∀ c reason, s.context l.terminal = some c → s.lookupFails c l = some reason →
      ∃ t, exec .lookupComplete s = .next t ∧ t.permits = { s.permits with working := none } ∧
        t.context l.terminal = some { c with inFlight := none } ∧
        s.answers t c.line l.terminal l.request (.refused reason) ∧ s.onlyAt t l.terminal c.line ∧
        t.notices = s.notices ∧ t.fare = s.fare ∧ t.cash = s.cash ∧ t.link = s.link ∧ s.sameStore t) ∧
    (s.clock.valid = true → (s.condition l.terminal = .inService ∨ s.condition l.terminal = .restricted) →
      (∀ p cap entry,
        s.permit l.permit = some p → p.status = .active → p.validFrom ≤ s.clock.day → s.clock.day ≤ p.validTo →
        p.zones.getLsbD l.zone.val = true → s.activeCap l.zone = some cap → p.claim = none →
        p.running s.clock.now = false → 0 < p.remaining s.clock.day →
        entry = { kind := .session, budget := .minutes (min l.minutes (min (p.remaining s.clock.day) cap)), zone := l.zone,
                  bank := .active, start := none, returnTo := .terminal l.terminal l.request, permit := some l.permit } →
        ∃ t, exec .lookupComplete s = .next t ∧
          t.permit l.permit = some { p with claim := some (.session l.terminal l.request) } ∧
          (∀ m, m ≠ l.permit → t.permit m = s.permit m) ∧ t.permits.working = none ∧
          t.fare =
            (match s.fare.computing with
              | none => { s.fare with computing := some (s.latch entry) }
              | some _ => { s.fare with queue := s.fare.queue ++ [entry] }) ∧
          t.contexts = s.contexts ∧ t.lines = s.lines ∧ t.cash = s.cash ∧ t.link = s.link ∧ s.sameStore t) ∧
      ∀ c, s.context l.terminal = some c → s.permit l.permit = none → s.permits.referralEnabled = true →
        (s.permits.referrals.length < 8 → (∀ r ∈ s.permits.referrals, r.terminal ≠ l.terminal) →
          ∃ t number, exec .lookupComplete s = .next t ∧
            nextUnheld 255 (s.permits.referrals.map (·.number)) s.permits.lastReferral number ∧
            t.permits =
              { s.permits with
                working := none
                lastReferral := number
                referrals := s.permits.referrals ++
                  [{ number := number, terminal := l.terminal, request := l.request, permit := l.permit,
                     minutes := l.minutes, arrival := s.clock.now, deadline := s.elapsed + s.permits.referralTimeout,
                     decision := none, detached := false }] } ∧
            t.context l.terminal =
              some { c with inFlight := none, referral := some { referral := number, request := l.request } } ∧
            s.answers t c.line l.terminal l.request .wait ∧ oneMore .referrals s.notices t.notices ∧
            t.attention = true ∧ s.onlyAt t l.terminal c.line ∧
            t.fare = s.fare ∧ t.cash = s.cash ∧ t.link = s.link ∧ s.sameStore t) ∧
        ((8 ≤ s.permits.referrals.length ∨ ∃ r ∈ s.permits.referrals, r.terminal = l.terminal) →
          ∃ t, exec .lookupComplete s = .next t ∧ t.permits = { s.permits with working := none } ∧
            t.context l.terminal = some { c with inFlight := none } ∧
            s.answers t c.line l.terminal l.request .busy ∧ s.onlyAt t l.terminal c.line ∧
            t.notices = s.notices ∧ t.fare = s.fare ∧ t.cash = s.cash ∧ t.link = s.link ∧ s.sameStore t))

/-- R92, R96: REFERRAL SET sets both values at once; REFERRAL LIST gives every entry and changes the Link Port alone. The seconds
left are the deadline less the count of seconds events, 0 for a DECIDED entry (log 4: the model's measure of elapsed time). -/
def Obligations.ReferralSetAndList : Prop :=
  ∀ (s : State) (tag : Byte), s.ready = true →
    (∀ timeout, 5 ≤ timeout → timeout ≤ 60 →
      exec (.referralSet tag [1, byte timeout]) s =
        .next (({ s with permits := { s.permits with referralEnabled := true, referralTimeout := timeout } } : State).replied
          tag 23 (.done .plain)) ∧
      exec (.referralSet tag [0, byte timeout]) s =
        .next (({ s with permits := { s.permits with referralEnabled := false, referralTimeout := timeout } } : State).replied
          tag 23 (.done .plain))) ∧
    ∃ entries, exec (.referralList tag []) s = .next (s.replied tag 24 (.done (.referrals entries))) ∧
      (entries.map (·.referral)).Perm s.permits.referrals ∧
      (entries.map fun e => e.referral.number).Pairwise (· ≤ ·) ∧
      ∀ e ∈ entries, e.secondsLeft = if e.referral.decision = none then e.referral.deadline - s.elapsed else 0

/-- R94, R97: the deadline of a WAITING referral, taken when it is commanded whatever the count of seconds events (log 4), and a
DENY that begins at once, whose DONE is settled until its completion (log 10), both set the terminal's held result, PERMIT
UNKNOWN and PERMIT NOT VALID, ask for a RESULT order, and take the entry off the list. -/
def Obligations.ReferralsAreRefused : Prop :=
  ∀ (s : State) (r : Referral) (c : Context), s.referralOf r.number = some r → r.decision = none →
    s.context r.terminal = some c →
    (∀ number : Byte, s.mainSupply = true → number.toNat = r.number →
      ∃ t d, exec (.referralDeadlineExpiry number) s = .next t ∧ t.context r.terminal = some d ∧
        d.held = some { referral := r.number, request := r.request, outcome := .refusal .permitUnknown } ∧
        t.ordered d .result ∧
        t.permits = { s.permits with referrals := s.permits.referrals.filter fun q => q.number != r.number } ∧
        d.serial = c.serial ∧ d.tally = c.tally ∧ s.onlyAt t r.terminal c.line ∧ t.cash = s.cash ∧ t.fare = s.fare ∧
        t.link = s.link ∧ s.sameStore t) ∧
    (∀ (tag : Byte) (body : List Byte), s.ready = true → readReferralAnswer s.referredPermit body = .ok (r.number, .deny) →
      s.permits.working = none →
      ∃ t d, exec (.referralAnswer tag body) s = .next t ∧ t.context r.terminal = some d ∧
        d.held = some { referral := r.number, request := r.request, outcome := .refusal .permitNotValid } ∧
        t.ordered d .result ∧
        t.referralOf r.number = none ∧ t.permits.records = s.permits.records ∧
        t.permits.working = some (.settled (.done .plain)) ∧ t.link = s.link.accept tag 25 ∧
        s.onlyAt t r.terminal c.line ∧ t.cash = s.cash ∧ t.fare = s.fare ∧ s.sameStore t)

/-! ## Cash accounts -/

/-- R106, R112: LIFT LIST gives the first 8 records from a number on, in ascending order, with MORE exactly when others follow;
ROUND GET gives the record; both change the Link Port alone. R107: COUNT ENTER is refused NO SUCH, or gives the
difference and removes the record; no other record and nothing else changes. -/
def Obligations.LiftedRecordsAndRoundsAreRead : Prop :=
  (∀ (s : State) (tag : Byte) (n : Nat), s.ready = true → 1 ≤ n → n ≤ 65535 →
     (∃ records following more,
       exec (.liftList tag (toBinary 2 n)) s = .next (s.replied tag 26 (.done (.lifts records more))) ∧
       (records ++ following).Perm (s.cash.lifted.filter fun r => decide (n ≤ r.number)) ∧
       ((records ++ following).map (·.number)).Pairwise (· ≤ ·) ∧
       records.length ≤ 8 ∧ (following ≠ [] → records.length = 8) ∧ (more = true ↔ following ≠ [])) ∧
     (s.cash.roundNumbered n = none → exec (.roundGet tag (toBinary 2 n)) s = .next (s.replied tag 31 .noSuch)) ∧
     ∀ r, s.cash.roundNumbered n = some r →
       exec (.roundGet tag (toBinary 2 n)) s =
         .next (s.replied tag 31 (.done (.round r (r.entries.map fun e => s.collecting e.terminal n))))) ∧
  ∀ (s : State) (tag : Byte) (n amount : Nat), s.ready = true → 1 ≤ n → n ≤ 65535 → amount ≤ 9999999 →
    ((∀ r ∈ s.cash.lifted, r.number ≠ n) →
      exec (.countEnter tag (toBinary 2 n ++ toMoney amount)) s = .next (s.replied tag 27 .noSuch)) ∧
    (∀ r, s.cash.lifted.find? (fun q => q.number == n) = some r →
      exec (.countEnter tag (toBinary 2 n ++ toMoney amount)) s =
        .next (({ s with
          cash := { s.cash with lifted := s.cash.lifted.filter fun q => q.number != n } } : State).replied tag 27
            (.done (.counted ((amount : Int) - r.expected) amount r))))

/-- R108, R109: ROUND OPEN is refused DUPLICATE for a terminal named twice, then STATE for one that is not configured or that an
OPEN round names, then FULL while 2 rounds are OPEN; otherwise it makes an OPEN record with a DUE entry for each terminal, in
order. R110: ROUND BUILD is refused FULL, then NO SUCH without a candidate; otherwise it makes one over the first 48 of the
configured terminals, in ascending number, whose zone is in the set, whose faults hold BOX NEAR FULL or BOX FULL, and that no
OPEN round names. R108: the number given is the next after the last one that no record of the table holds, and it is the last
one from then on; the other records stay, but of 4 the CLOSED one opened earliest is lost. R111: ROUND CLOSE is refused NO SUCH
or STATE, and otherwise closes the record, every entry not LIFTED becoming SKIPPED, and leaves the other records. -/
def Obligations.RoundsAreOpenedAndClosed : Prop :=
  (∀ (s : State) (tag : Byte) (body : List Byte) (code : Nat) (terminals : List Nat), s.ready = true →
     readRoundOpen body = .ok (code, terminals) →
     (¬terminals.Nodup → exec (.roundOpen tag body) s = .next (s.replied tag 28 .duplicate)) ∧
     (terminals.Nodup →
       ((∃ n ∈ terminals, s.context n = none ∨ s.cash.listed n) →
         exec (.roundOpen tag body) s = .next (s.replied tag 28 .state)) ∧
       ((∀ n ∈ terminals, s.context n ≠ none ∧ ¬s.cash.listed n) →
         (2 ≤ (s.cash.rounds.filter (·.isOpen)).length →
           exec (.roundOpen tag body) s = .next (s.replied tag 28 .full)) ∧
         ((s.cash.rounds.filter (·.isOpen)).length < 2 → s.cash.rounds.length ≤ 4 →
           ∃ number kept, nextUnheld 65535 (s.cash.rounds.map (·.number)) s.cash.lastRound number ∧
             s.cash.keptRounds kept ∧
             exec (.roundOpen tag body) s =
               .next (({ s with cash := { s.cash with
                   lastRound := number
                   rounds := kept ++
                     [{ number := number, code := code, isOpen := true
                        entries := terminals.map fun n => { terminal := n, state := .due } }] } } : State).replied
                   tag 28 (.done (.roundOpened number))))))) ∧
  (∀ (s : State) (tag : Byte) (body : List Byte) (zones : ZoneSet) (code : Nat) (candidates : List Nat), s.ready = true →
     readRoundBuild body = .ok (zones, code) → s.contextsKept → candidates.Pairwise (· < ·) →
     (∀ n, n ∈ candidates ↔ ∃ c, s.context n = some c ∧ zones.getLsbD c.zone.val = true ∧
       (c.faults.boxNearFull = true ∨ c.faults.boxFull = true) ∧ ¬s.cash.listed n) →
     (2 ≤ (s.cash.rounds.filter (·.isOpen)).length →
       exec (.roundBuild tag body) s = .next (s.replied tag 29 .full)) ∧
     ((s.cash.rounds.filter (·.isOpen)).length < 2 →
       (candidates = [] → exec (.roundBuild tag body) s = .next (s.replied tag 29 .noSuch)) ∧
       (candidates ≠ [] → s.cash.rounds.length ≤ 4 →
         ∃ number kept, nextUnheld 65535 (s.cash.rounds.map (·.number)) s.cash.lastRound number ∧
           s.cash.keptRounds kept ∧
           exec (.roundBuild tag body) s =
             .next (({ s with cash := { s.cash with
                 lastRound := number
                 rounds := kept ++
                   [{ number := number, code := code, isOpen := true
                      entries := (candidates.take 48).map fun n => { terminal := n, state := .due } }] } } : State).replied
                 tag 29 (.done (.roundBuilt number (min 48 candidates.length))))))) ∧
  ∀ (s : State) (tag : Byte) (n : Nat), s.ready = true → 1 ≤ n → n ≤ 65535 →
    (s.cash.roundNumbered n = none → exec (.roundClose tag (toBinary 2 n)) s = .next (s.replied tag 30 .noSuch)) ∧
    (∀ r, s.cash.roundNumbered n = some r → (r.isOpen = false ∨ ∃ c ∈ s.contexts, c.collection = some n) →
      exec (.roundClose tag (toBinary 2 n)) s = .next (s.replied tag 30 .state)) ∧
    (∀ r, s.cash.roundNumbered n = some r → r.isOpen = true → (∀ c ∈ s.contexts, c.collection ≠ some n) →
      ∃ cash closed, exec (.roundClose tag (toBinary 2 n)) s =
          .next (({ s with cash := cash } : State).replied tag 30
            (.done (.roundClosed (r.entries.filter fun x => x.state == .lifted).length
              (r.entries.filter fun x => x.state != .lifted).length))) ∧
        cash.roundNumbered n = some closed ∧ closed.number = n ∧ closed.code = r.code ∧ closed.isOpen = false ∧
        closed.entries.map (·.terminal) = r.entries.map (·.terminal) ∧
        closed.entries.map (·.state) =
          (r.entries.map (·.state)).map (fun e => if e = .lifted then .lifted else .skipped) ∧
        (∀ m, m ≠ n → cash.roundNumbered m = s.cash.roundNumbered m) ∧
        cash.rounds.map (·.number) = s.cash.rounds.map (·.number) ∧
        cash.lifted = s.cash.lifted ∧ cash.lastLifted = s.cash.lastLifted ∧ cash.lastRound = s.cash.lastRound ∧
        cash.lastSelfClosed = s.cash.lastSelfClosed)

/-! ## Faults and thresholds -/

/-- R126: FAULT CLEAR is refused NO SUCH, or removes the named classes and no other, and gives the set that is left. -/
def Obligations.FaultClearRemovesTheNamed : Prop :=
  ∀ (s : State) (tag : Byte) (n : Nat) (named : FaultSet), s.ready = true → n ≤ 127 → named.clearable = true →
    (s.context n = none → exec (.faultClear tag [byte n, named.byte]) s = .next (s.replied tag 32 .noSuch)) ∧
    (∀ c, s.context n = some c →
      ∃ t d, exec (.faultClear tag [byte n, named.byte]) s = .next t ∧ t.context n = some d ∧
        d.faults = c.faults.without named ∧ d.paperRemaining = c.paperRemaining ∧ d.tally = c.tally ∧
        d.suspended = c.suspended ∧ d.collection = c.collection ∧
        t.link = s.link.answered tag 32 (.done (.faultSet (c.faults.without named))) ∧
        (∀ m, m ≠ n → t.context m = s.context m) ∧ t.permits = s.permits ∧ t.cash = s.cash ∧ t.fare = s.fare ∧
        s.sameStore t)

/-- R128, R130: THRESHOLD DEFAULT GET gives the default set and changes the Link Port alone; THRESHOLD DEFAULT SET replaces it and
re-evaluates every terminal without an override, and no other. -/
def Obligations.ThresholdDefaultsApply : Prop :=
  ∀ (s : State) (tag : Byte), s.ready = true →
    exec (.thresholdDefaultGet tag []) s = .next (s.replied tag 34 (.done (.thresholds s.defaults))) ∧
    (∀ (body : List Byte) (d : Thresholds), s.contextsKept → readThresholds body = .ok d →
      ∃ t, exec (.thresholdDefaultSet tag body) s = .next t ∧ t.defaults = d ∧
        (∀ n c, s.context n = some c →
          ∃ e, t.context n = some e ∧ e.tally = c.tally ∧ e.override = c.override ∧
            e.faults = (if c.override = none then (c.reevaluate d).faults else c.faults)) ∧
        t.link = s.link.answered tag 33 (.done .plain) ∧ t.permits = s.permits ∧ t.cash = s.cash ∧ t.fare = s.fare ∧
        t.clock = s.clock ∧ t.tariffs = s.tariffs ∧ t.calendar = s.calendar)

/-- R129, R127, R130: THRESHOLD OVERRIDE SET and DROP are refused FIELD 1 for a terminal out of range, then NO SUCH without a
context; SET is then refused FIELD 2 for a near-full below 1 or above the box capacity, else FIELD 3 for a full below the
near-full given or above the box capacity, else FIELD 4 for a paper-low above the paper capacity, and DROP is refused STATE
without an override. Otherwise they set or remove the override, re-evaluate the terminal and give the thresholds then in
force. -/
def Obligations.ThresholdOverridesApply : Prop :=
  (∀ (s : State) (tag : Byte) (n a b p : Nat), s.ready = true → 127 < n → n ≤ 255 →
    exec (.thresholdOverrideSet tag (byte n :: toBinary 2 a ++ toBinary 2 b ++ toBinary 2 p)) s =
      .next (s.replied tag 35 (.field 1)) ∧
    exec (.thresholdOverrideDrop tag [byte n]) s = .next (s.replied tag 36 (.field 1))) ∧
  ∀ (s : State) (tag : Byte) (n : Nat), s.ready = true → n ≤ 127 →
    (s.context n = none →
      exec (.thresholdOverrideDrop tag [byte n]) s = .next (s.replied tag 36 .noSuch) ∧
      ∀ a b p, exec (.thresholdOverrideSet tag (byte n :: toBinary 2 a ++ toBinary 2 b ++ toBinary 2 p)) s =
        .next (s.replied tag 35 .noSuch)) ∧
    (∀ c, s.context n = some c →
      (c.override = none → exec (.thresholdOverrideDrop tag [byte n]) s = .next (s.replied tag 36 .state)) ∧
      (c.override ≠ none →
        ∃ t d, exec (.thresholdOverrideDrop tag [byte n]) s = .next t ∧ t.context n = some d ∧ d.override = none ∧
          d.faults = (({ c with override := none } : Context).reevaluate s.defaults).faults ∧ d.tally = c.tally ∧
          t.link = s.link.answered tag 36
            (.done (.thresholds (({ c with override := none } : Context).inForce s.defaults))) ∧
          (∀ m, m ≠ n → t.context m = s.context m) ∧ t.permits = s.permits ∧ t.cash = s.cash ∧ s.sameStore t) ∧
      (∀ a b p index, a ≤ 65535 → b ≤ 65535 → p ≤ 65535 →
        (a = 0 ∨ c.boxCapacity < a) ∧ index = 2 ∨
          (1 ≤ a ∧ a ≤ c.boxCapacity) ∧ (b < a ∨ c.boxCapacity < b) ∧ index = 3 ∨
          (1 ≤ a ∧ a ≤ b ∧ b ≤ c.boxCapacity) ∧ c.paperCapacity < p ∧ index = 4 →
        exec (.thresholdOverrideSet tag (byte n :: toBinary 2 a ++ toBinary 2 b ++ toBinary 2 p)) s =
          .next (s.replied tag 35 (.field index))) ∧
      (∀ a b p, 1 ≤ a → a ≤ b → b ≤ c.boxCapacity → p ≤ c.paperCapacity → c.boxCapacity ≤ 3000 → c.paperCapacity ≤ 2000 →
        ∃ t d, exec (.thresholdOverrideSet tag (byte n :: toBinary 2 a ++ toBinary 2 b ++ toBinary 2 p)) s = .next t ∧
          t.context n = some d ∧ d.override = some { nearFull := a, full := b, paperLow := p } ∧
          (d.faults.boxFull = true ↔ b ≤ c.tally.coinTotal) ∧
          (d.faults.boxNearFull = true ↔ a ≤ c.tally.coinTotal) ∧
          (d.faults.paperLow = true ↔ c.paperRemaining ≤ p) ∧
          t.link = s.link.answered tag 35 (.done (.thresholds { nearFull := a, full := b, paperLow := p })) ∧
          (∀ m, m ≠ n → t.context m = s.context m) ∧ t.permits = s.permits ∧ t.cash = s.cash ∧ s.sameStore t))

/-! ## Lines -/

/-- R138, R139, R154: LINE SET and POLL LIST PUT are refused STATE unless the line is STOPPED, and then replace the settings, with
the pace counter set to 0, and the poll list; LINE GET and POLL LIST GET read and change the Link Port alone. POLL LIST GET
gives the entries, and at a line in use the position, the pass and, in PACED mode, the leg; that a STOPPING line is in use is
the model's reading (log 27). -/
def Obligations.LineSettingsAndPollLists : Prop :=
  ∀ (s : State) (tag : Byte) (l : LineNo), s.ready = true →
    exec (.lineGet tag [byte l.val]) s =
      .next (s.replied tag 38 (.done (.line (s.line l).settings (s.line l).state (s.line l).exchange))) ∧
    ((s.line l).state = .stopped →
      exec (.pollListGet tag [byte l.val]) s = .next (s.replied tag 42 (.done (.pollList (s.line l).pollList none)))) ∧
    ((s.line l).state ≠ .stopped →
      exec (.pollListGet tag [byte l.val]) s =
        .next (s.replied tag 42 (.done (.pollList (s.line l).pollList
          (some ((s.line l).position, (s.line l).pass,
            if (s.line l).settings.mode = .paced then some (s.line l).leg else none)))))) ∧
    (∀ body settings, readLineSet body = .ok (l, settings) →
      exec (.lineSet tag body) s =
        .next (if (s.line l).state = .stopped then
            (s.onLine l fun L => { L with settings := settings, paceCounter := 0 }).replied tag 37 (.done .plain)
          else s.replied tag 37 .state)) ∧
    (∀ drops : List Byte, 1 ≤ drops.length → drops.length ≤ 40 → (∀ d ∈ drops, 1 ≤ d.toNat ∧ d.toNat ≤ 32) →
      exec (.pollListPut tag (byte l.val :: byte drops.length :: drops)) s =
        .next (if (s.line l).state = .stopped then
            (s.onLine l fun L => { L with pollList := drops.map BitVec.toNat }).replied tag 41 (.done .plain)
          else s.replied tag 41 .state))

/-- R140, R153, R155 to R158, R163: LINE START is refused STATE for a line in use or an empty poll list. In every mode the line
leaves STOPPED with its pace counter at 0 and its settings and poll list kept, and no other line changes. A PACED line with an
empty directed queue becomes IDLE with its sweep at its beginning. A SINGLE or CONTINUOUS one begins a RUNNING pass: the entries
that no terminal holds are passed over, and the first that one holds is polled; with none of them the pass is over at once,
SINGLE with SWEEP COMPLETE noted, CONTINUOUS WAITING. A directed queue that is not empty goes first. The line's SWEEP COMPLETE
and PACE OVERRUN entries are removed. R28, R164: a PLATE entry begins the line's chain with its copy. The pass start is a count of
seconds events (log 4: the model's measure), and an exchange begins at its choice (log 37: the model's choice). -/
def Obligations.LineStartBeginsTheMode : Prop :=
  ∀ (s : State) (tag : Byte) (l : LineNo), s.ready = true →
    (((s.line l).state ≠ .stopped ∨ (s.line l).pollList = []) →
      exec (.lineStart tag [byte l.val]) s = .next (s.replied tag 39 .state)) ∧
    ((s.line l).state = .stopped → (s.line l).pollList ≠ [] →
      ∃ t, exec (.lineStart tag [byte l.val]) s = .next t ∧ (t.line l).state ≠ .stopped ∧
        (t.line l).paceCounter = 0 ∧ (t.line l).settings = (s.line l).settings ∧
        (t.line l).pollList = (s.line l).pollList ∧
        (∀ m, m ≠ l → t.line m = s.line m) ∧ t.contexts = s.contexts ∧
        t.link = s.link.answered tag 39 (.done .plain) ∧
        t.permits = s.permits ∧ t.cash = s.cash ∧ t.fare = s.fare ∧ s.sameStore t ∧
        ((s.line l).settings.mode = .paced → (s.line l).directed = [] → (s.line l).chain = none →
          (t.line l).state = .idle ∧ (t.line l).pass = .none ∧ (t.line l).leg = .none ∧ (t.line l).position = 1 ∧
          (t.line l).passRecord = [] ∧
          t.notices = s.notices.filter fun e => e.kind != .sweepComplete l && e.kind != .paceOverrun l) ∧
        ∀ begun : Line,
          begun = { (s.line l).rewound .running with paceCounter := 0, earliestReached := false, leg := .none } →
          ((s.line l).settings.mode ≠ .paced → (s.line l).directed = [] → (s.line l).chain = none →
            (∀ skipped drop after c, (s.line l).pollList = skipped ++ drop :: after → s.passesOver l [] skipped →
              s.pollable l [] drop c →
              t.line l = begun.polling (skipped.length + 1) s.elapsed c ∧
                t.notices = s.notices.filter fun e => e.kind != .sweepComplete l && e.kind != .paceOverrun l) ∧
            (s.passesOver l [] (s.line l).pollList → (s.line l).settings.mode = .single →
              t.line l =
                { (begun.taking (s.line l).pollList.length s.elapsed).rewound .none with state := .idle } ∧
              t.notices =
                (s.notices.filter fun e => e.kind != .sweepComplete l && e.kind != .paceOverrun l) ++
                  [{ kind := .sweepComplete l, count := 1 }]) ∧
            (s.passesOver l [] (s.line l).pollList → (s.line l).settings.mode = .continuous →
              t.line l =
                { (begun.taking (s.line l).pollList.length s.elapsed).rewound .waiting with state := .idle } ∧
              t.notices = s.notices.filter fun e => e.kind != .sweepComplete l && e.kind != .paceOverrun l)) ∧
          ∀ entry rest c, (s.line l).chain = none → (s.line l).directed = entry :: rest →
            s.context entry.terminal = some c →
            (t.line l).directed = rest ∧ (t.line l).position = 1 ∧ (t.line l).passRecord = [] ∧
              (t.line l).leg = .none ∧ (t.line l).pass = (if (s.line l).settings.mode = .paced then .none else .running) ∧
              (∃ frame, s.carries c entry.kind frame ∧ (t.line l).begins c frame) ∧
              (t.line l).chain = s.chainOf c entry.kind ∧
              t.notices = s.notices.filter fun e => e.kind != .sweepComplete l && e.kind != .paceOverrun l)

/-- R141: LINE STOP is refused STATE for a STOPPED or STOPPING line; otherwise the directed queue is emptied, its CONDITION,
CLOCK, RESULT and PLATE entries becoming owed, and the line becomes STOPPED, or STOPPING while an exchange is in
progress. -/
def Obligations.LineStopOwesTheQueue : Prop :=
  ∀ (s : State) (tag : Byte) (l : LineNo), s.ready = true →
    ((s.line l).halted = true → exec (.lineStop tag [byte l.val]) s = .next (s.replied tag 40 .state)) ∧
    ((s.line l).halted = false →
      ∃ t, exec (.lineStop tag [byte l.val]) s = .next t ∧
        t.line l =
          { s.line l with directed := [], state := if (s.line l).state = .idle then .stopped else .stopping } ∧
        (∀ m, m ≠ l → t.line m = s.line m) ∧
        (∀ n c, s.context n = some c →
          ∃ d, t.context n = some d ∧ d = { c with owed := d.owed } ∧
            (d.owed.condition = true ↔ c.owed.condition = true ∨ (s.line l).holds n .condition = true) ∧
            (d.owed.clock = true ↔ c.owed.clock = true ∨ (s.line l).holds n .clock = true) ∧
            (d.owed.result = true ↔ c.owed.result = true ∨ (s.line l).holds n .result = true) ∧
            (d.owed.plate = true ↔ c.owed.plate = true ∨ (s.line l).holds n .plate = true)) ∧
        t.link = s.link.answered tag 40 (.done .plain) ∧ t.notices = s.notices ∧
        t.permits = s.permits ∧ t.cash = s.cash ∧ t.fare = s.fare ∧ s.sameStore t)

/-! ## The link and notices -/

/-- R175, R77, R174: NOTICE TAKE answers NONE for an empty queue; it takes the oldest entry otherwise, a terminal's with its
report set and its events, which are emptied in the same act, and a part-level one with its count and the fields R175 reads
at that point. -/
def Obligations.NoticeTakeEmptiesTheReports : Prop :=
  ∀ (s : State) (tag : Byte), s.ready = true →
    (s.notices = [] → exec (.noticeTake tag []) s = .next (s.replied tag 44 (.done .noNotice))) ∧
    (∀ n c count rest, s.notices = { kind := .terminal n, count := count } :: rest → s.context n = some c →
      ∃ t, exec (.noticeTake tag []) s = .next t ∧ t.notices = rest ∧ t.attention = !rest.isEmpty ∧
        t.context n = some { c with reports := .empty, events := [] } ∧ (∀ m, m ≠ n → t.context m = s.context m) ∧
        t.link = s.link.answered tag 44
          (.done (.terminalNotice n c.reports c.events c.condition c.faults.code c.faults c.plateVersion rest.length)) ∧
        t.lines = s.lines ∧ t.permits = s.permits ∧ t.cash = s.cash ∧ t.fare = s.fare ∧ s.sameStore t) ∧
    ∀ kind count rest fields, s.notices = { kind := kind, count := count } :: rest →
      ((∃ l, kind = .sweepComplete l ∧ fields = .lineNotice false l count rest.length) ∨
        (∃ l, kind = .paceOverrun l ∧ fields = .lineNotice true l count rest.length) ∨
        (kind = .switchover ∧
          fields = .switchoverNotice count s.tariffs.active (s.tariffs.bank s.tariffs.active).version rest.length) ∨
        (kind = .referrals ∧
          fields = .referralsNotice count s.permits.referrals.length
            (s.permits.referrals.filter fun r => r.decision == none).length rest.length) ∨
        (kind = .roundComplete ∧ fields = .roundNotice count s.cash.lastSelfClosed rest.length)) →
      exec (.noticeTake tag []) s =
        .next (({ s with notices := rest, attention := !rest.isEmpty } : State).replied tag 44 (.done fields))

/-- R170, R177, R179: PART STATUS reads, RESTART is answered DONE, and a kind that is no request kind is answered UNKNOWN KIND;
each changes the Link Port alone. -/
def Obligations.StatusRestartAndUnknownKind : Prop :=
  ∀ (s : State) (tag : Byte), s.ready = true →
    exec (.partStatus tag []) s =
      .next (s.replied tag 45 (.done (.status s.link.lastStart s.link.rate s.clock.valid s.contexts.length
        s.permits.records.length (s.lines.toList.map (·.state)) s.notices.length s.link.check s.link.timeout
        s.link.dropped))) ∧
    exec (.restart tag []) s = .next (s.replied tag 46 (.done .plain)) ∧
    ∀ kind : Byte, (kind = 0 ∨ 46 < kind.toNat) →
      exec (.unknownKind tag kind) s = .next (s.replied tag kind .unknownKind)

/-- R170, R171: whatever request is accepted while another is outstanding is not acted on: the Link Port alone changes. It is
answered OVERLAP under its own tag, or dropped with DROPPED increased when 3 OVERLAP replies wait already. -/
def Obligations.OverlappingRequestsAreNotActedOn : Prop :=
  ∀ (i : Instr) (s : State) (tag kind : Byte) (body : List Byte),
    (hostFields i = some (tag, kind, body) ∨ i = .overlap tag kind) → i.wf = true → s.linkOpen = true →
    s.link.outstanding ≠ none →
    ((s.link.waiting.filter fun r => r.body == .overlap).length < 3 →
      exec i s = .next { s with
        link := ({ s.link with receiver := .hunting } : Link).push { tag := tag, kind := kind, body := .overlap } }) ∧
    (3 ≤ (s.link.waiting.filter fun r => r.body == .overlap).length →
      exec i s = .next { s with
        link := { s.link with
          receiver := .hunting
          dropped := if s.link.dropped < 65535 then s.link.dropped + 1 else s.link.dropped } })

/-- R169: the receiver's three events: a marker while HUNTING, a frame discarded for its length or check, and the limit of a
frame run out. R171: when a reply's transmission completes, the next waiting reply is sent, and the request is no longer
outstanding unless the reply was an OVERLAP. R179: when RESTART's DONE reply completes, the WARM start is due: no OVERLAP reply
that still waits is sent. R169, R178: while a start is under way every request frame and every event of the receiver is ignored.
The model's own choices: a discarded frame is taken whether the receiver is HUNTING or RECEIVING (log 28), the marker's time is
the count of seconds events (log 4), and a WARM start that is due is a mark, under which frames are ignored as under a start
(log 7). -/
def Obligations.LinkEvents : Prop :=
  (∀ s : State, s.linkOpen = true →
     (s.link.receiver = .hunting →
       exec .frameMarkerReceived s = .next { s with link := { s.link with receiver := .receiving s.elapsed } }) ∧
     exec .linkFrameDiscarded s =
       .next { s with
         link := { s.link with
           receiver := .hunting, check := if s.link.check < 65535 then s.link.check + 1 else s.link.check } } ∧
     (s.link.receiver ≠ .hunting →
       exec .frameLimitExpiry s =
         .next { s with
           link := { s.link with
             receiver := .hunting
             timeout := if s.link.timeout < 65535 then s.link.timeout + 1 else s.link.timeout } })) ∧
  (∀ (s : State) (r : Reply), s.mainSupply = true → s.link.sending = some r →
    (r.kind ≠ 46 ∨ r.body ≠ .done .plain) →
    exec .replyTransmissionComplete s =
      .next { s with
        link := { s.link with
          sending := s.link.waiting.head?
          waiting := s.link.waiting.tail
          outstanding := if r.body = .overlap then s.link.outstanding else none } }) ∧
  (∀ (s : State) (r : Reply), s.mainSupply = true → s.link.sending = some r → r.kind = 46 → r.body = .done .plain →
    ∃ t, exec .replyTransmissionComplete s = .next t ∧
      t = { s with link := { s.link with sending := none, outstanding := none, warmStartDue := true } } ∧
      t.linkOpen = false ∧ exec .replyTransmissionComplete t = .next t) ∧
  ∀ (s : State) (i : Instr), s.linkOpen = false →
    ((∃ fields, hostFields i = some fields) ∨ (∃ tag kind, i = .overlap tag kind) ∨ i = .frameMarkerReceived ∨
      i = .linkFrameDiscarded ∨ i = .frameLimitExpiry) →
    exec i s = .next s

/-! ## Terminals on their lines -/

/-- R65, R58, R147: a QUOTE, a SALE and a SESSION that meet no request in flight, no referral and, but for a QUOTE, no last
ticket of their number set the request in flight and are placed: on the fare queue, or as a LOOKUP. The line passes to
AWAIT ENGINE, or stays STOPPING. R125, R134, R150: a QUOTE or SALE from a SILENT terminal is placed in the same way after SILENT has
been removed: a change of condition is reported, and a CONDITION order stands. -/
def Obligations.RequestsArePlaced : Prop :=
  (∀ (s : State) (l : LineNo) (e : Exchange) (c : Context) (drop number : Byte) (rest : List Byte), s.hears l e c →
    e.frame = .poll → drop.toNat = e.drop → c.inFlight = none → c.referral = none →
    (∀ amount, readQuote rest = some (some (.quote amount)) →
      ∃ t entry, exec (.quote l drop number rest) s = .next t ∧
        t.context e.terminal =
          some { c with inFlight := some { kind := .quote, number := number.toNat, withdrawn := false } } ∧
        entry = { kind := .quote, budget := .money amount, zone := c.zone, bank := .active, start := none,
                  returnTo := .terminal e.terminal number.toNat, permit := none } ∧
        t.fare =
          (match s.fare.computing with
            | none => { s.fare with computing := some (s.latch entry) }
            | some _ => { s.fare with queue := s.fare.queue ++ [entry] }) ∧
        (t.line l).state = (if (s.line l).state = .stopping then .stopping else .awaitEngine) ∧
        (t.line l).exchange =
          some { e with phase := .engine, taken := some (.request number.toNat (some (.quote amount))) } ∧
        s.onlyAt t e.terminal l ∧ t.permits = s.permits ∧ t.cash = s.cash ∧ t.link = s.link ∧
        t.notices = s.notices ∧ s.sameStore t) ∧
    (∀ coins version, readSale rest = some (some (.sale coins version)) →
      (∀ last, c.last = some last → last.1 ≠ number.toNat) →
      ∃ t entry, exec (.sale l drop number rest) s = .next t ∧
        t.context e.terminal =
          some { c with inFlight := some { kind := .sale coins version, number := number.toNat, withdrawn := false } } ∧
        entry = { kind := .sale, budget := .money coins.pence, zone := c.zone, bank := .active, start := none,
                  returnTo := .terminal e.terminal number.toNat, permit := none } ∧
        t.fare =
          (match s.fare.computing with
            | none => { s.fare with computing := some (s.latch entry) }
            | some _ => { s.fare with queue := s.fare.queue ++ [entry] }) ∧
        (t.line l).state = (if (s.line l).state = .stopping then .stopping else .awaitEngine) ∧
        s.onlyAt t e.terminal l ∧ t.permits = s.permits ∧ t.cash = s.cash ∧ t.link = s.link ∧
        t.notices = s.notices ∧ s.sameStore t) ∧
    (∀ permit minutes, readSession rest = some (some (.session permit minutes)) → s.permits.working = none →
      (∀ last, c.last = some last → last.1 ≠ number.toNat) →
      ∃ t, exec (.session l drop number rest) s = .next t ∧
        t.context e.terminal =
          some { c with inFlight := some { kind := .session, number := number.toNat, withdrawn := false } } ∧
        t.permits =
          { s.permits with
            working := some (.lookup
              { terminal := e.terminal, request := number.toNat, permit := permit, minutes := minutes, zone := c.zone }
              false) } ∧
        (t.line l).state = (if (s.line l).state = .stopping then .stopping else .awaitEngine) ∧
        s.onlyAt t e.terminal l ∧ t.fare = s.fare ∧ t.cash = s.cash ∧ t.link = s.link ∧
        t.notices = s.notices ∧ s.sameStore t)) ∧
  ∀ (s : State) (l : LineNo) (e : Exchange) (c : Context) (drop number : Byte) (rest : List Byte) (i : Instr)
    (kind : FareKind) (flight : FlightKind) (pence : Nat), s.awaits l e c → c.faults.silent = true →
    e.frame = .poll → drop.toNat = e.drop → c.inFlight = none → c.referral = none →
    ((i = .quote l drop number rest ∧ kind = .quote ∧ flight = .quote ∧ readQuote rest = some (some (.quote pence))) ∨
      ∃ coins version, i = .sale l drop number rest ∧ kind = .sale ∧ flight = .sale coins version ∧
        readSale rest = some (some (.sale coins version)) ∧ pence = coins.pence ∧
        ∀ last, c.last = some last → last.1 ≠ number.toNat) →
    ∃ t d, exec i s = .next t ∧ t.context e.terminal = some d ∧
      d = { c.unsilenced with
        inFlight := some { kind := flight, number := number.toNat, withdrawn := false }, owed := d.owed } ∧
      (d.owed = c.owed ∨ d.owed = c.owedOnceHeard) ∧ (c.revived = true → t.ordered d .condition) ∧
      t.notices = s.noticesOnceHeard c ∧
      t.fare = s.fareWith (c.fareEntry kind pence number.toNat) ∧
      (t.line l).state = (if (s.line l).state = .stopping then .stopping else .awaitEngine) ∧
      s.onlyAt t e.terminal l ∧ t.permits = s.permits ∧ t.cash = s.cash ∧ t.link = s.link ∧ s.sameStore t

/-- R64: a malformed QUOTE, SALE or SESSION is answered BAD REQUEST. R65, R66: a request that meets one in flight is answered
BUSY; a SESSION of the referred number is answered WAIT; a SALE or SESSION of the last request's number is answered with the last
ticket. R95: a CANCEL takes a WAITING referral off the list and is answered CANCELLED, or is answered TAKEN. Nothing is placed
and nothing committed. R65 test 3, R95: any other request that meets the terminal's referral takes a WAITING entry off the list,
leaves a DECIDED one, and goes on: a QUOTE or SALE is placed on the fare queue, a SESSION as a LOOKUP, and one of the last
request's number is answered with the last ticket. The mark of a referral that is taken off leaves the context. -/
def Obligations.RequestsAnsweredAtOnce : Prop :=
  ∀ (s : State) (l : LineNo) (e : Exchange) (c : Context) (drop number : Byte) (rest : List Byte), s.hears l e c →
    e.frame = .poll → drop.toNat = e.drop →
    (∀ i, (i = .quote l drop number rest ∧ readQuote rest = some none ∨
        i = .sale l drop number rest ∧ readSale rest = some none ∨
        i = .session l drop number rest ∧ readSession rest = some none) →
      ∃ t, exec i s = .next t ∧
        s.answersAtOnce t l e c (.request number.toNat none) number.toNat (.refused .badRequest)) ∧
    (∀ i r, c.inFlight ≠ none →
      (i = .quote l drop number rest ∧ readQuote rest = some (some r) ∨
        i = .sale l drop number rest ∧ readSale rest = some (some r) ∨
        i = .session l drop number rest ∧ readSession rest = some (some r) ∨
        i = .cancel l drop number [] ∧ r = .cancel) →
      ∃ t, exec i s = .next t ∧ s.answersAtOnce t l e c (.request number.toNat (some r)) number.toNat .busy) ∧
    (c.inFlight = none →
      (∀ r mark, c.referral = some mark → mark.request = number.toNat → readSession rest = some (some r) →
        ∃ t, exec (.session l drop number rest) s = .next t ∧
          s.answersAtOnce t l e c (.request number.toNat (some r)) number.toNat .wait) ∧
      (∀ i r ticket, c.referral = none → c.last = some (number.toNat, ticket) →
        (i = .sale l drop number rest ∧ readSale rest = some (some r) ∨
          i = .session l drop number rest ∧ readSession rest = some (some r)) →
        ∃ t, exec i s = .next t ∧
          s.answersAtOnce t l e c (.request number.toNat (some r)) number.toNat (.ticket ticket)) ∧
      (∀ r, s.waitingOf e.terminal = some r →
        ∃ t, exec (.cancel l drop number []) s = .next t ∧
          t.context e.terminal =
            some { c with
              referral := if c.referral.map (·.referral) = some r.number then none else c.referral } ∧
          (t.line l).exchange =
            some (e.answering (.request number.toNat (some .cancel)) number.toNat .cancelled) ∧
          t.permits = { s.permits with referrals := s.permits.referrals.filter fun q => q.number != r.number } ∧
          s.onlyAt t e.terminal l ∧ t.fare = s.fare ∧ t.cash = s.cash ∧ t.link = s.link ∧ t.notices = s.notices ∧
          s.sameStore t) ∧
      (s.waitingOf e.terminal = none →
        ∃ t, exec (.cancel l drop number []) s = .next t ∧
          s.answersAtOnce t l e c (.request number.toNat (some .cancel)) number.toNat .taken) ∧
      ∀ mark kept, c.referral = some mark → kept = s.impliedCancel e.terminal mark →
        (∀ i kind flight pence,
          ((i = .quote l drop number rest ∧ kind = .quote ∧ flight = .quote ∧
              readQuote rest = some (some (.quote pence))) ∨
            ∃ coins version, i = .sale l drop number rest ∧ kind = .sale ∧ flight = .sale coins version ∧
              readSale rest = some (some (.sale coins version)) ∧ pence = coins.pence ∧
              ∀ last, c.last = some last → last.1 ≠ number.toNat) →
          ∃ t, exec i s = .next t ∧
            t.context e.terminal =
              some { c with
                referral := kept.2
                inFlight := some { kind := flight, number := number.toNat, withdrawn := false } } ∧
            t.permits = { s.permits with referrals := kept.1 } ∧
            t.fare = s.fareWith (c.fareEntry kind pence number.toNat) ∧
            (t.line l).state = (if (s.line l).state = .stopping then .stopping else .awaitEngine) ∧
            s.onlyAt t e.terminal l ∧ t.cash = s.cash ∧ t.link = s.link ∧ t.notices = s.notices ∧ s.sameStore t) ∧
        (∀ permit minutes, mark.request ≠ number.toNat → readSession rest = some (some (.session permit minutes)) →
          s.permits.working = none → (∀ last, c.last = some last → last.1 ≠ number.toNat) →
          ∃ t, exec (.session l drop number rest) s = .next t ∧
            t.context e.terminal =
              some { c with
                referral := kept.2
                inFlight := some { kind := .session, number := number.toNat, withdrawn := false } } ∧
            t.permits =
              { s.permits with
                referrals := kept.1
                working := some (.lookup
                  { terminal := e.terminal, request := number.toNat, permit := permit, minutes := minutes, zone := c.zone }
                  false) } ∧
            (t.line l).state = (if (s.line l).state = .stopping then .stopping else .awaitEngine) ∧
            s.onlyAt t e.terminal l ∧ t.fare = s.fare ∧ t.cash = s.cash ∧ t.link = s.link ∧ t.notices = s.notices ∧
            s.sameStore t) ∧
        ∀ i r ticket, c.last = some (number.toNat, ticket) →
          (i = .sale l drop number rest ∧ readSale rest = some (some r) ∨
            i = .session l drop number rest ∧ readSession rest = some (some r) ∧ mark.request ≠ number.toNat) →
          ∃ t, exec i s = .next t ∧ t.context e.terminal = some { c with referral := kept.2 } ∧
            (t.line l).exchange =
              some (e.answering (.request number.toNat (some r)) number.toNat (.ticket ticket)) ∧
            t.permits = { s.permits with referrals := kept.1 } ∧ s.onlyAt t e.terminal l ∧ t.fare = s.fare ∧
            t.cash = s.cash ∧ t.link = s.link ∧ t.notices = s.notices ∧ s.sameStore t)

/-- R75: an event of the number taken last is answered TAKEN and does nothing; with 4 events in the buffer a new one is answered
HOLD, HELD is reported, and it does nothing either. Stated of COIN PATH OK, BOX REPLACED and DOOR OPEN; the rule is one
for every kind. -/
def Obligations.RepeatedAndHeldEventsDoNothing : Prop :=
  ∀ (s : State) (l : LineNo) (e : Exchange) (c : Context) (drop number : Byte) (i : Instr) (event : Event),
    s.hears l e c → e.frame = .poll → drop.toNat = e.drop →
    (i = .coinPathOk l drop number [] ∧ event = .coinPathOk ∨ i = .boxReplaced l drop number [] ∧ event = .boxReplaced ∨
      i = .doorOpen l drop number [0] ∧ event = .doorOpen none) →
    (c.lastEvent = some number.toNat →
      ∃ t, exec i s = .next t ∧ t.context e.terminal = some c ∧
        (t.line l).exchange = some (e.answering (.event number.toNat event) number.toNat .taken) ∧
        s.onlyAt t e.terminal l ∧ t.cash = s.cash ∧ t.notices = s.notices ∧ t.fare = s.fare ∧ t.permits = s.permits ∧
        t.link = s.link ∧ s.sameStore t) ∧
    (c.lastEvent ≠ some number.toNat → 4 ≤ c.events.length →
      ∃ t, exec i s = .next t ∧ t.context e.terminal = some { c with reports := { c.reports with held := true } } ∧
        (t.line l).exchange = some (e.answering (.event number.toNat event) number.toNat .hold) ∧
        s.onlyAt t e.terminal l ∧ t.cash = s.cash ∧ t.fare = s.fare ∧ t.permits = s.permits ∧ t.link = s.link ∧
        s.sameStore t)

/-- R75, R122, R124: an event of the Condition Monitor's that finds room is acted on, recorded, reported and answered TAKEN. The
fault set after it is R122's, or R124's and R130's for PAPER LOADED; the cash accounts, the permits and the other
terminals are as they were. -/
def Obligations.SensorEventsChangeTheFaultSet : Prop :=
  ∀ (s : State) (l : LineNo) (e : Exchange) (c : Context) (drop number : Byte) (serial : Nat) (count : Option Nat)
    (i : Instr) (event : Event) (faults : FaultSet) (paper : Nat),
    s.hears l e c → e.frame = .poll → drop.toNat = e.drop → c.lastEvent ≠ some number.toNat → c.events.length < 4 →
    serial ≤ 999999 → (∀ n, count = some n → n ≤ 65535) →
    (i = .printerFault l drop number [] ∧ event = .printerFault ∧ faults = { c.faults with printer := true } ∧
        paper = c.paperRemaining ∨
      i = .printFailed l drop number (toPacked 3 serial) ∧ event = .printFailed serial ∧
        faults = { c.faults with printer := true } ∧ paper = c.paperRemaining ∨
      i = .printerOk l drop number [] ∧ event = .printerOk ∧ faults = { c.faults with printer := false } ∧
        paper = c.paperRemaining ∨
      i = .coinPathFault l drop number [] ∧ event = .coinPathFault ∧ faults = { c.faults with coinPath := true } ∧
        paper = c.paperRemaining ∨
      i = .coinPathOk l drop number [] ∧ event = .coinPathOk ∧ faults = { c.faults with coinPath := false } ∧
        paper = c.paperRemaining ∨
      i = .paperOut l drop number [] ∧ event = .paperOut ∧ faults = { c.faults with paperOut := true } ∧
        paper = c.paperRemaining ∨
      i = .paperLoaded l drop number (optionalBytes (toBinary 2) count) ∧ event = .paperLoaded count ∧
        paper = min (count.getD c.paperCapacity) c.paperCapacity ∧
        faults = { c.faults with
          paperOut := paper == 0
          boxFull := decide ((c.inForce s.defaults).full ≤ c.tally.coinTotal)
          boxNearFull := decide ((c.inForce s.defaults).nearFull ≤ c.tally.coinTotal)
          paperLow := decide (paper ≤ (c.inForce s.defaults).paperLow) }) →
    ∃ t d, exec i s = .next t ∧ t.context e.terminal = some d ∧ d.faults = faults ∧ d.paperRemaining = paper ∧
      d.lastEvent = some number.toNat ∧
      d.events = c.events ++ [{ number := number.toNat, event := event, taken := s.clock.now }] ∧
      d.reports.events = true ∧ (d.condition ≠ c.condition → d.reports.condition = true) ∧
      d.tally = c.tally ∧ d.serial = c.serial ∧ d.suspended = c.suspended ∧ d.collection = c.collection ∧
      (t.line l).exchange = some (e.answering (.event number.toNat event) number.toNat .taken) ∧
      s.onlyAt t e.terminal l ∧ t.cash = s.cash ∧ t.permits = s.permits ∧ t.fare = s.fare ∧ t.link = s.link ∧
      s.sameStore t

/-- R74, R75, R104, R105, R108, R113 to R116: DOOR OPEN with the code of the OPEN round that lists the terminal DUE or OPENED
opens a collection and the entry is OPENED; any other DOOR OPEN sets FORCED DOOR and changes no round. BOX REPLACED empties
the tally into a new lifted record of the next number not held, or merges it into the newer of the terminal's two; in
collection an OPENED entry becomes LIFTED, and outside it FORCED DOOR is set. DOOR CLOSED ends the collection, and the round it
completes closes itself with ROUND COMPLETE noted. Each is answered TAKEN, appended to the event buffer with EVENTS reported,
and changes no other terminal, entry or round. -/
def Obligations.DoorAndBoxEvents : Prop :=
  ∀ (s : State) (l : LineNo) (e : Exchange) (c : Context) (drop number : Byte), s.hears l e c →
    e.frame = .poll → drop.toNat = e.drop → c.lastEvent ≠ some number.toNat → c.events.length < 4 →
    (∀ code r, code ≤ 999999 → s.cash.roundOf e.terminal = some r → r.code = code →
      (r.entryState e.terminal = some .due ∨ r.entryState e.terminal = some .opened) →
      ∃ t d, exec (.doorOpen l drop number (1 :: toPacked 3 code)) s = .next t ∧ t.context e.terminal = some d ∧
        d.collection = some r.number ∧ d.condition = .inCollection ∧ d.faults = c.faults ∧ d.tally = c.tally ∧
        d.suspended = c.suspended ∧ d.serial = c.serial ∧
        t.cash =
          { s.cash with
            rounds := s.cash.rounds.map fun q =>
              if q.number = r.number then
                { q with entries := q.entries.map fun x =>
                    if x.terminal = e.terminal then { x with state := .opened } else x }
              else q } ∧
        c.recorded d number.toNat (.doorOpen (some code)) s.clock.now ∧
        (t.line l).exchange = some (e.answering (.event number.toNat (.doorOpen (some code))) number.toNat .taken) ∧
        s.onlyAt t e.terminal l ∧ t.permits = s.permits ∧ t.fare = s.fare ∧ t.link = s.link ∧ s.sameStore t) ∧
    (∀ code : Option Nat, (∀ n, code = some n → n ≤ 999999) →
      (∀ r, s.cash.roundOf e.terminal = some r → code ≠ some r.code ∨
        (r.entryState e.terminal ≠ some .due ∧ r.entryState e.terminal ≠ some .opened)) →
      ∃ t d, exec (.doorOpen l drop number (optionalBytes (toPacked 3) code)) s = .next t ∧
        t.context e.terminal = some d ∧
        d.faults = { c.faults with forcedDoor := true } ∧ d.collection = c.collection ∧ d.tally = c.tally ∧
        d.suspended = c.suspended ∧ d.serial = c.serial ∧ t.cash = s.cash ∧
        c.recorded d number.toNat (.doorOpen code) s.clock.now ∧
        (t.line l).exchange = some (e.answering (.event number.toNat (.doorOpen code)) number.toNat .taken) ∧
        s.onlyAt t e.terminal l ∧ t.permits = s.permits ∧ t.fare = s.fare ∧ t.link = s.link ∧ s.sameStore t) ∧
    (∃ t d, exec (.boxReplaced l drop number []) s = .next t ∧ t.context e.terminal = some d ∧
        d.tally = .empty ∧ d.collection = c.collection ∧ d.suspended = c.suspended ∧ d.serial = c.serial ∧
        d.faults =
          { c.faults with
            forcedDoor := c.faults.forcedDoor || c.collection == none
            boxFull := decide ((c.inForce s.defaults).full = 0)
            boxNearFull := decide ((c.inForce s.defaults).nearFull = 0)
            paperLow := decide (c.paperRemaining ≤ (c.inForce s.defaults).paperLow) } ∧
        ((s.cash.lifted.filter fun r => r.terminal == e.terminal).length < 2 → s.cash.lifted.length ≤ 256 →
          ∃ record, nextUnheld 65535 (s.cash.lifted.map (·.number)) s.cash.lastLifted record.number ∧
            record =
              { number := record.number, terminal := e.terminal, round := c.collection, coins := c.tally.coins
                expected := c.tally.penceTotal, lifted := s.clock.now, unscheduled := c.collection == none
                merged := false } ∧
            t.cash.lifted = s.cash.lifted ++ [record] ∧ t.cash.lastLifted = record.number) ∧
        (∀ before newer after, s.cash.lifted = before ++ newer :: after →
          2 ≤ (s.cash.lifted.filter fun r => r.terminal == e.terminal).length → newer.terminal = e.terminal →
          (∀ r ∈ after, r.terminal ≠ e.terminal) →
          t.cash.lifted = before ++
              { newer with
                coins :=
                  { p5 := min (newer.coins.p5 + c.tally.coins.p5) 65535
                    p10 := min (newer.coins.p10 + c.tally.coins.p10) 65535
                    p20 := min (newer.coins.p20 + c.tally.coins.p20) 65535
                    p50 := min (newer.coins.p50 + c.tally.coins.p50) 65535
                    p100 := min (newer.coins.p100 + c.tally.coins.p100) 65535
                    p200 := min (newer.coins.p200 + c.tally.coins.p200) 65535 }
                expected := min (newer.expected + c.tally.penceTotal) 9999999
                unscheduled := newer.unscheduled || c.collection == none
                merged := true } :: after ∧
            t.cash.lastLifted = s.cash.lastLifted) ∧
        t.cash.rounds =
          (match c.collection with
            | none => s.cash.rounds
            | some under => s.cash.rounds.map fun q =>
              if q.number = under ∧ q.entryState e.terminal = some .opened then
                { q with entries := q.entries.map fun x =>
                    if x.terminal = e.terminal then { x with state := .lifted } else x }
              else q) ∧
        t.cash.lastRound = s.cash.lastRound ∧ t.cash.lastSelfClosed = s.cash.lastSelfClosed ∧
        c.recorded d number.toNat .boxReplaced s.clock.now ∧
        (t.line l).exchange = some (e.answering (.event number.toNat .boxReplaced) number.toNat .taken) ∧
        s.onlyAt t e.terminal l ∧ t.permits = s.permits ∧ t.fare = s.fare ∧ t.link = s.link ∧ s.sameStore t) ∧
    (∃ t d, exec (.doorClosed l drop number []) s = .next t ∧ t.context e.terminal = some d ∧
        d.collection = none ∧ d.faults = c.faults ∧ d.tally = c.tally ∧ d.suspended = c.suspended ∧
        d.serial = c.serial ∧
        (∀ under, c.collection = some under → s.completes e.terminal under →
          t.cash =
              { s.cash with
                rounds := s.cash.rounds.map fun r => if r.number = under then { r with isOpen := false } else r
                lastSelfClosed := some under } ∧
            oneMore .roundComplete s.notices t.notices ∧ t.attention = true) ∧
        ((∀ under, c.collection = some under → ¬s.completes e.terminal under) → t.cash = s.cash) ∧
        c.recorded d number.toNat .doorClosed s.clock.now ∧
        (t.line l).exchange = some (e.answering (.event number.toNat .doorClosed) number.toNat .taken) ∧
        s.onlyAt t e.terminal l ∧ t.permits = s.permits ∧ t.fare = s.fare ∧ t.link = s.link ∧ s.sameStore t)

/-- R147, R149, R150: an IDLE to a POLL ends the exchange; an ACK to an ORDER ends it too, and tells the owner: the held result
the order read is removed. R141, R164: on a STOPPING line, which becomes STOPPED with no further exchange, the acknowledgement
of block 4 completes the chain, sets the plate version and reports PLATE, and that of an earlier block abandons the chain and
makes PLATE owed; on a line in use the next block of the chain follows, made from the chain's copy (R28). R162: at the end of a
good POLL exchange the owed orders are queued, in the order CONDITION, CLOCK, RESULT, PLATE, while the directed queue has a
place. R163: the oldest of them then begins; a line whose sweep has nothing to take, with nothing queued and nothing owed,
becomes IDLE. R155 to R158, R163: after the IDLE of a terminal that is owed nothing, or after the ACK of a CLOCK order, the oldest
directed entry begins and leaves the sweep where it is; with none the sweep takes its entries: some are passed over and the next
is polled; or a SINGLE pass is over, with SWEEP COMPLETE noted; or a CONTINUOUS pass is over, and the next begins when its
earliest start has been reached, else it waits (log 4); or a PACED leg is over, before the end of the list or at it, with SWEEP
COMPLETE noted. R125, R134, R150, R162: the IDLE of a SILENT terminal removes SILENT; a change of condition is reported, and the
CONDITION order it asks for is queued first, ahead of the other owed orders, or owed on a STOPPING line. The model's own choices:
an ACK gives the block in 1 byte (log 31), the pass of a PACED line is RUNNING from entry 1 to the end of the list and NONE after
it (log 16), the pass start is a count of seconds events (log 4), and an exchange begins at its choice (log 37). -/
def Obligations.ExchangesEnd : Prop :=
  (∀ (s : State) (l : LineNo) (e : Exchange) (c : Context) (drop : Byte), s.hears l e c → drop.toNat = e.drop →
     (s.line l).state = .stopping →
     (e.frame = .poll → (s.line l).chain = none →
       ∃ t, exec (.idle l drop) s = .next t ∧ (t.line l).exchange = none ∧ (t.line l).state = .stopped ∧
         t.context e.terminal = some c ∧ s.onlyAt t e.terminal l ∧ t.cash = s.cash ∧ t.permits = s.permits ∧
         t.fare = s.fare ∧ t.link = s.link ∧ t.notices = s.notices ∧ s.sameStore t) ∧
     (∀ time, e.frame = .order (.clock time) → (s.line l).chain = none →
       ∃ t, exec (.ack l drop [2]) s = .next t ∧ (t.line l).exchange = none ∧ (t.line l).state = .stopped ∧
         t.context e.terminal = some c ∧ s.onlyAt t e.terminal l ∧ t.cash = s.cash ∧ t.permits = s.permits ∧
         t.fare = s.fare ∧ t.link = s.link ∧ t.notices = s.notices ∧ s.sameStore t) ∧
     (∀ h, e.frame = .order (.result (some h)) → c.held = some h → (s.line l).chain = none →
       ∃ t, exec (.ack l drop [3]) s = .next t ∧ (t.line l).exchange = none ∧ (t.line l).state = .stopped ∧
         t.context e.terminal = some { c with held := none } ∧ s.onlyAt t e.terminal l ∧ t.cash = s.cash ∧
         t.permits = s.permits ∧ t.fare = s.fare ∧ t.link = s.link ∧ t.notices = s.notices ∧ s.sameStore t) ∧
     (∀ plate charge stay version chain, e.frame = .order (.plate 4 plate) → plate.tail = some (charge, stay, version) →
       (s.line l).chain = some chain → chain.terminal = e.terminal → chain.acked = 3 →
       ∃ t d, exec (.ack l drop [4, 4]) s = .next t ∧ (t.line l).exchange = none ∧ (t.line l).state = .stopped ∧
         (t.line l).chain = none ∧ t.context e.terminal = some d ∧
         d = { c with plateVersion := some version, reports := { c.reports with plate := true } } ∧
         s.onlyAt t e.terminal l ∧ t.cash = s.cash ∧ t.permits = s.permits ∧ t.fare = s.fare ∧ t.link = s.link ∧
         s.sameStore t) ∧
     (∀ block plate chain, 1 ≤ block → block ≤ 3 → e.frame = .order (.plate block plate) → plate.tail = none →
       (s.line l).chain = some chain → chain.terminal = e.terminal → chain.acked + 1 = block →
       ∃ t, exec (.ack l drop [4, byte block]) s = .next t ∧ (t.line l).exchange = none ∧
         (t.line l).state = .stopped ∧ (t.line l).chain = none ∧
         t.context e.terminal = some { c with owed := { c.owed with plate := true } } ∧ s.onlyAt t e.terminal l ∧
         t.cash = s.cash ∧ t.permits = s.permits ∧ t.fare = s.fare ∧ t.link = s.link ∧ t.notices = s.notices ∧
         s.sameStore t)) ∧
  ∀ (s : State) (l : LineNo) (e : Exchange) (c : Context) (drop : Byte), s.hears l e c → drop.toNat = e.drop →
    (s.line l).halted = false → (s.line l).settings.mode = .single → (s.line l).pass = .none →
    (∀ block plate chain, 1 ≤ block → block ≤ 3 → e.frame = .order (.plate block plate) → plate.tail = none →
      (s.line l).chain = some chain → chain.terminal = e.terminal → chain.acked + 1 = block →
      ∃ t next, exec (.ack l drop [4, byte block]) s = .next t ∧
        (t.line l).chain = some { chain with acked := block } ∧ (t.line l).state = .awaitReply ∧
        (t.line l).exchange = some next ∧ next.terminal = e.terminal ∧ next.phase = .send ∧
        next.frame = .order (.plate (block + 1) (plateBlock chain.zone chain.copy (block + 1))) ∧
        (t.line l).directed = (s.line l).directed ∧
        t.context e.terminal = some c ∧ s.onlyAt t e.terminal l ∧ t.notices = s.notices ∧ t.cash = s.cash ∧
        t.permits = s.permits ∧ t.fare = s.fare ∧ t.link = s.link ∧ s.sameStore t) ∧
    (e.frame = .poll → (s.line l).chain = none →
      ∃ t, exec (.idle l drop) s = .next t ∧ s.onlyAt t e.terminal l ∧ t.notices = s.notices ∧ t.cash = s.cash ∧
        t.permits = s.permits ∧ t.fare = s.fare ∧ t.link = s.link ∧ s.sameStore t ∧
        ((s.line l).directed = [] → c.owed = .none →
          (t.line l).exchange = none ∧ (t.line l).state = .idle ∧ t.context e.terminal = some c) ∧
        (∀ kind rest, (s.line l).directed = [] → c.owed.kinds = kind :: rest →
          t.context e.terminal = some { c with owed := .none } ∧
            (t.line l).directed = rest.map (fun k => { terminal := e.terminal, kind := k }) ∧
            (t.line l).state = .awaitReply ∧
            ∃ next, (t.line l).exchange = some next ∧ next.terminal = e.terminal ∧ next.phase = .send ∧
              s.carries c kind next.frame ∧ (t.line l).chain = s.chainOf c kind) ∧
        ((s.line l).directed.length = 16 → (∀ x ∈ (s.line l).directed, x.terminal ≠ e.terminal) →
          t.context e.terminal = some c)) ∧
  (∀ (s : State) (l : LineNo) (e : Exchange) (c : Context) (drop : Byte) (i : Instr) (ended : Line), s.hears l e c →
    drop.toNat = e.drop → (s.line l).halted = false → s.contextsKept → (s.line l).chain = none →
    (i = .idle l drop ∧ e.frame = .poll ∧ c.owed = .none ∨ i = .ack l drop [2] ∧ ∃ time, e.frame = .order (.clock time)) →
    ended = { s.line l with exchange := none, driving := false, turnaround := true } →
    (∀ entry rest d, (s.line l).directed = entry :: rest → s.context entry.terminal = some d →
      ∃ t frame, exec i s = .next t ∧ (t.line l).directed = rest ∧ s.carries d entry.kind frame ∧
        (t.line l).begins d frame ∧ (t.line l).chain = s.chainOf d entry.kind ∧ s.onlyLine t l ∧
        ((s.line l).position ≤ (s.line l).pollList.length → (s.line l).leg ≠ .running 0 →
          (t.line l).position = (s.line l).position ∧ (t.line l).pass = (s.line l).pass ∧
            (t.line l).passRecord = (s.line l).passRecord ∧ (t.line l).leg = (s.line l).leg ∧ t.notices = s.notices)) ∧
    ((s.line l).directed = [] →
      ((if (s.line l).settings.mode = .paced then (s.line l).leg = .none else (s.line l).pass ≠ .running) →
        ∃ t, exec i s = .next t ∧ t.line l = { ended with state := .idle } ∧ t.notices = s.notices ∧ s.onlyLine t l) ∧
      ((s.line l).settings.mode ≠ .paced → (s.line l).pass = .running →
        (∀ skipped drop after d, (s.line l).before (skipped ++ drop :: after) →
          s.passesOver l (s.line l).passRecord skipped → s.pollable l (s.line l).passRecord drop d →
          ∃ t, exec i s = .next t ∧ t.line l = ended.polling (skipped.length + 1) s.elapsed d ∧ t.notices = s.notices ∧
            s.onlyLine t l) ∧
        (∀ skipped, (s.line l).before skipped → s.passesOver l (s.line l).passRecord skipped →
          (s.line l).settings.mode = .single →
          ∃ t, exec i s = .next t ∧
            t.line l = { (ended.taking skipped.length s.elapsed).rewound .none with state := .idle } ∧
            oneMore (.sweepComplete l) s.notices t.notices ∧ t.attention = true ∧ s.onlyLine t l) ∧
        (∀ skipped last, (s.line l).before skipped → s.passesOver l (s.line l).passRecord skipped →
          (s.line l).settings.mode = .continuous → (s.line l).pollList ≠ [] →
          last = ended.taking skipped.length s.elapsed →
          (last.earliestReached = false → ((s.line l).settings.period ≠ 0 ∨ (s.line l).madeExchange = false) →
            ∃ t, exec i s = .next t ∧
              t.line l = { last.rewound .waiting with state := .idle, earliestReached := false } ∧
              t.notices = s.notices ∧ s.onlyLine t l) ∧
          ((last.earliestReached = true ∨ ((s.line l).settings.period = 0 ∧ (s.line l).madeExchange = true)) →
            ∀ first drop after d, (s.line l).pollList = first ++ drop :: after → s.passesOver l [] first →
              s.pollable l [] drop d →
              ∃ t, exec i s = .next t ∧
                t.line l =
                  ({ last.rewound .running with earliestReached := false } : Line).polling (first.length + 1) s.elapsed d ∧
                t.notices = s.notices ∧ s.onlyLine t l))) ∧
      ((s.line l).settings.mode = .paced → ∀ left, (s.line l).legLeft left →
        (∀ skipped drop after d, (s.line l).before (skipped ++ drop :: after) → skipped.length < left →
          s.passesOver l (s.line l).passRecord skipped → s.pollable l (s.line l).passRecord drop d →
          ∃ t, exec i s = .next t ∧
            t.line l =
              { ended.polling (skipped.length + 1) s.elapsed d with leg := .running (left - skipped.length - 1) } ∧
            t.notices = s.notices ∧ s.onlyLine t l) ∧
        (∀ skipped after, (s.line l).before (skipped ++ after) → skipped.length = left → after ≠ [] →
          s.passesOver l (s.line l).passRecord skipped → ((s.line l).leg = .pending → skipped ≠ []) →
          ∃ t, exec i s = .next t ∧
            t.line l = { ended.taking skipped.length s.elapsed with leg := .none, state := .idle } ∧
            t.notices = s.notices ∧ s.onlyLine t l) ∧
        (∀ skipped, (s.line l).before skipped → skipped.length ≤ left → s.passesOver l (s.line l).passRecord skipped →
          ((s.line l).leg = .pending → skipped ≠ []) →
          ∃ t, exec i s = .next t ∧
            t.line l = { (ended.taking skipped.length s.elapsed).rewound .none with leg := .none, state := .idle } ∧
            oneMore (.sweepComplete l) s.notices t.notices ∧ t.attention = true ∧ s.onlyLine t l)))) ∧
  ∀ (s : State) (l : LineNo) (e : Exchange) (c : Context) (drop : Byte) (ended : Line), s.awaits l e c →
    c.faults.silent = true → drop.toNat = e.drop → e.frame = .poll → (s.line l).chain = none →
    (s.line l).directed = [] → ended = { s.line l with exchange := none, driving := false, turnaround := true } →
    ∃ t d, exec (.idle l drop) s = .next t ∧ t.context e.terminal = some d ∧
      d = { c.unsilenced with owed := d.owed } ∧ s.onlyAt t e.terminal l ∧
      t.cash = s.cash ∧ t.permits = s.permits ∧ t.fare = s.fare ∧ t.link = s.link ∧ s.sameStore t ∧
      ((s.line l).state = .stopping →
        t.line l = { ended with state := .stopped } ∧ t.notices = s.noticesOnceHeard c ∧
          t.context e.terminal = some { c.unsilenced with owed := c.owedOnceHeard }) ∧
      ((s.line l).halted = false → (s.line l).settings.mode = .single → (s.line l).pass = .none →
        t.context e.terminal = some { c.unsilenced with owed := .none } ∧ t.notices = s.noticesOnceHeard c ∧
        (c.owedOnceHeard.kinds = [] → t.line l = { ended with state := .idle }) ∧
        ∀ kind rest, c.owedOnceHeard.kinds = kind :: rest →
          (t.line l).directed = rest.map (fun k => { terminal := e.terminal, kind := k }) ∧
            (t.line l).chain = s.chainOf c kind ∧
            ∃ frame, s.carries c.heard kind frame ∧ (t.line l).begins c.heard frame)

/-- R142, R144, R146: a frame ends where its length gives, and what comes after it is not looked at. A frame with a faulty
character counts the class of the first one at the terminal addressed, a frame whose bytes are wrong counts CHECK, and one
from another drop counts PROTOCOL; with tries left the exchange stays in RECEIVE while the turnaround runs from the frame's end,
after which its frame is sent again (log 38). -/
def Obligations.RejectedFramesAreCounted : Prop :=
  ∀ (s : State) (l : LineNo) (e : Exchange) (c : Context) (frame rest : List RxChar), s.hears l e c →
    e.triesUsed < e.triesAllowed → framed frame rest →
    (∀ x, frame.find? faulty = some x →
      ∃ t, exec (.rejectedFrame l (frame ++ rest)) s = .next t ∧
        t.context e.terminal = some { c with errors :=
          (if x.overrun then { c.errors with overrun := min (c.errors.overrun + 1) (max 65535 c.errors.overrun) }
            else if x.framing then { c.errors with framing := min (c.errors.framing + 1) (max 65535 c.errors.framing) }
            else if x.parity then { c.errors with parity := min (c.errors.parity + 1) (max 65535 c.errors.parity) }
            else { c.errors with noise := min (c.errors.noise + 1) (max 65535 c.errors.noise) }) } ∧
        (t.line l).exchange = some { e with phase := .receive } ∧ (t.line l).turnaround = true ∧
        s.onlyAt t e.terminal l ∧ t.notices = s.notices ∧ s.sameStore t) ∧
    (frame.find? faulty = none → openLineFrame (frame.map (·.byte)) = none →
      ∃ t, exec (.rejectedFrame l (frame ++ rest)) s = .next t ∧
        t.context e.terminal = some { c with errors :=
          { c.errors with check := min (c.errors.check + 1) (max 65535 c.errors.check) } } ∧
        (t.line l).exchange = some { e with phase := .receive } ∧ (t.line l).turnaround = true ∧
        s.onlyAt t e.terminal l ∧ t.notices = s.notices ∧ s.sameStore t) ∧
    (∀ drop kind body, frame.find? faulty = none →
      openLineFrame (frame.map (·.byte)) = some (drop, kind, body) → drop.toNat ≠ e.drop →
      ∃ t, exec (.rejectedFrame l (frame ++ rest)) s = .next t ∧
        t.context e.terminal = some { c with errors :=
          { c.errors with protocol := min (c.errors.protocol + 1) (max 65535 c.errors.protocol) } } ∧
        (t.line l).exchange = some { e with phase := .receive } ∧ (t.line l).turnaround = true ∧
        s.onlyAt t e.terminal l ∧ t.notices = s.notices ∧ s.sameStore t)

/-- R142, R144, R145: the points of one try: the frame's transmission completes and the window opens; a character begins; a frame
that meets no open exchange is discarded, and the turnaround runs again from its end (log 9: the model's deduction); the
turnaround passes and the frame that waited is sent, its try used. R146: so is the frame of an exchange left in RECEIVE by a
rejected frame (log 38). R147, R148, R150, R162: the transmission of an ANSWER
completes, and its exchange ends: a STOPPING line becomes STOPPED; on one in use the owed orders are queued and the oldest
begins, and with none, and nothing for the sweep to take, the line becomes IDLE. R155, R157: a WAITING pass that reaches its
earliest start becomes RUNNING; while an exchange is in progress nothing else happens, and an IDLE line takes its first entry
at once. The model's own choices: EARLIEST START REACHED is taken whenever it is commanded and the pass start is a count of seconds
events (log 4), and an exchange begins at its choice, its transmission after the turnaround (log 37). -/
def Obligations.PhasesOfATryAndOfAPass : Prop :=
  (∀ (s : State) (l : LineNo), s.mainSupply = true →
     (∀ e, (s.line l).exchange = some e → e.phase = .send → (s.line l).driving = true →
       exec (.frameTransmissionComplete l) s =
         .next (s.onLine l fun L => { L with driving := false, exchange := some { e with phase := .window } })) ∧
     (∀ e, (s.line l).exchange = some e → e.phase = .window →
       exec (.characterBeginsToArrive l) s =
         .next (s.onLine l fun L => { L with exchange := some { e with phase := .receive } })) ∧
     ((s.line l).listening = none → (s.line l).driving = false →
       exec (.lineFrameDiscarded l) s = .next (s.onLine l fun L => { L with turnaround := true })) ∧
     (∀ e, (s.line l).exchange = some e → e.phase = .send → (s.line l).turnaround = true →
       exec (.turnaroundExpiry l) s =
         .next (s.onLine l fun L =>
           { L with turnaround := false, driving := true, exchange := some { e with triesUsed := e.triesUsed + 1 } })) ∧
     (∀ e, (s.line l).exchange = some e → e.phase = .receive → (s.line l).turnaround = true →
       exec (.turnaroundExpiry l) s =
         .next (s.onLine l fun L =>
           { L with
             turnaround := false, driving := true
             exchange := some { e with phase := .send, triesUsed := e.triesUsed + 1 } })) ∧
     (∀ e, (s.line l).exchange = some e → e.phase = .answer → (s.line l).turnaround = true →
       exec (.turnaroundExpiry l) s = .next (s.onLine l fun L => { L with turnaround := false, driving := true })) ∧
     (∀ e, (s.line l).exchange = some e → e.phase = .answer → (s.line l).driving = true → (s.line l).chain = none →
       ((s.line l).state = .stopping →
         exec (.frameTransmissionComplete l) s =
           .next (s.onLine l fun L => { L with driving := false, exchange := none, state := .stopped })) ∧
       (∀ c, (s.line l).halted = false → (s.line l).settings.mode = .single → (s.line l).pass = .none →
         (s.line l).directed = [] → e.frame = .poll → s.context e.terminal = some c → c.line = l → s.contextsKept →
         (c.owed = .none →
           exec (.frameTransmissionComplete l) s =
             .next (s.onLine l fun L => { L with driving := false, exchange := none, state := .idle })) ∧
         ∀ kind rest, c.owed.kinds = kind :: rest →
           ∃ t frame, exec (.frameTransmissionComplete l) s = .next t ∧
             t.context e.terminal = some { c with owed := .none } ∧
             (t.line l).directed = rest.map (fun k => { terminal := e.terminal, kind := k }) ∧
             s.carries c kind frame ∧ (t.line l).begins c frame ∧ (t.line l).chain = s.chainOf c kind ∧
             s.onlyAt t e.terminal l ∧ t.notices = s.notices ∧
             t.cash = s.cash ∧ t.permits = s.permits ∧ t.fare = s.fare ∧ t.link = s.link ∧ s.sameStore t))) ∧
  ∀ (s : State) (l : LineNo), s.mainSupply = true → (s.line l).halted = false →
    (s.line l).settings.mode = .continuous → (s.line l).pass = .waiting →
    ((s.line l).state ≠ .idle →
      exec (.earliestStartReached l) s = .next (s.onLine l fun L => { L with pass := .running })) ∧
    ((s.line l).state = .idle → (s.line l).chain = none → (s.line l).directed = [] →
      ∀ skipped drop after c, (s.line l).before (skipped ++ drop :: after) → s.passesOver l (s.line l).passRecord skipped →
        s.pollable l (s.line l).passRecord drop c →
        exec (.earliestStartReached l) s =
          .next (s.onLine l fun L => ({ L with pass := .running } : Line).polling (skipped.length + 1) s.elapsed c))

/-- R145, R146, R125: a response window that runs out with tries left sends the same frame again at once; with none left the
exchange has failed: the no-reply counter rises by one and SILENT is added, which reports and owes CONDITION when it changes the
condition. R146, R164: the CONDITION, CLOCK, RESULT or PLATE order that failed becomes owed, and a PLATE chain is abandoned.
R150, R163: a STOPPING line becomes STOPPED; a line in use begins its oldest directed entry, a PLATE with its copy (R28), or
becomes IDLE with nothing to take. An exchange begins at its choice (log 37: the model's choice). -/
def Obligations.WindowExpiryResendsOrFails : Prop :=
  ∀ (s : State) (l : LineNo) (e : Exchange), s.mainSupply = true → (s.line l).exchange = some e → e.phase = .window →
    (e.triesUsed < e.triesAllowed → (s.line l).turnaround = false →
      exec (.responseWindowExpiry l) s =
        .next (s.onLine l fun L =>
          { L with driving := true, exchange := some { e with phase := .send, triesUsed := e.triesUsed + 1 } })) ∧
    (∀ c, e.triesAllowed ≤ e.triesUsed → (s.line l).state = .stopping → s.context e.terminal = some c → c.line = l →
      (∀ chain, (s.line l).chain = some chain → chain.terminal = e.terminal) →
      ∃ t d, exec (.responseWindowExpiry l) s = .next t ∧ t.context e.terminal = some d ∧
        d.errors.noReply = (if c.errors.noReply < 65535 then c.errors.noReply + 1 else c.errors.noReply) ∧
        d.faults = { c.faults with silent := true } ∧ d.tally = c.tally ∧ d.held = c.held ∧
        (∀ told code, e.frame = .order (.condition told code) → d.owed.condition = true) ∧
        (d.owed.clock = true ↔ c.owed.clock = true ∨ e.frame.orders .clock = true) ∧
        (d.owed.result = true ↔ c.owed.result = true ∨ e.frame.orders .result = true) ∧
        (d.owed.plate = true ↔ c.owed.plate = true ∨ e.frame.orders .plate = true ∨ (s.line l).chain ≠ none) ∧
        (t.line l).state = .stopped ∧ (t.line l).exchange = none ∧ (t.line l).chain = none ∧
        s.onlyAt t e.terminal l ∧ t.cash = s.cash ∧ t.permits = s.permits ∧ t.fare = s.fare ∧ t.link = s.link ∧
        s.sameStore t) ∧
    ∀ c, e.triesAllowed ≤ e.triesUsed → (s.line l).halted = false → s.context e.terminal = some c → c.line = l →
      ((s.line l).chain = none ∨ e.frame.orders .plate = true) →
      ∃ t d, exec (.responseWindowExpiry l) s = .next t ∧ t.context e.terminal = some d ∧
        d = { c with
          errors := { c.errors with
            noReply := if c.errors.noReply < 65535 then c.errors.noReply + 1 else c.errors.noReply }
          faults := { c.faults with silent := true }, owed := d.owed
          reports := { c.reports with condition := c.reports.condition || d.condition != c.condition } } ∧
        (∀ kind, e.frame.orders kind = true → d.owed.has kind = true) ∧
        (d.condition ≠ c.condition → t.ordered d .condition) ∧
        s.onlyAt t e.terminal l ∧ t.cash = s.cash ∧ t.permits = s.permits ∧ t.fare = s.fare ∧ t.link = s.link ∧
        s.sameStore t ∧
        ((s.line l).directed = [] → (s.line l).settings.mode = .single → (s.line l).pass = .none →
          t.line l = { s.line l with exchange := none, driving := false, chain := none, state := .idle } ∧
            ∀ kind, d.owed.has kind = true ↔ c.owed.has kind = true ∨ e.frame.orders kind = true ∨
              (kind = .condition ∧ d.condition ≠ c.condition)) ∧
        ∀ entry rest c', (s.line l).directed = entry :: rest → entry.terminal ≠ e.terminal →
          s.context entry.terminal = some c' →
          (t.line l).directed = rest ∧ (t.line l).chain = s.chainOf c' entry.kind ∧
            ∃ frame, s.carries c' entry.kind frame ∧ (t.line l).begins c' frame

/-- R148, R68, R36: when the service limit runs out in the ENGINE phase, BUSY is the answer; a QUOTE or SALE in flight is marked
withdrawn while its computation runs on, and removed with its entry while it waits in the fare queue. R90: a SESSION whose
LOOKUP waits is removed with it; one whose LOOKUP is in progress is marked, and so is the LOOKUP, at whose completion no check
is acted on and the request is removed; one whose walk waits in the fare queue is removed with it and its claim cleared, and
one whose walk is being computed is marked. -/
def Obligations.ServiceLimitWithdraws : Prop :=
  (∀ (s : State) (l : LineNo) (e : Exchange) (c : Context) (request : Nat) (r : Option TermRequest) (kind : FlightKind),
    s.mainSupply = true →
    (s.line l).exchange = some e → e.phase = .engine → e.taken = some (.request request r) →
    s.context e.terminal = some c → (s.line l).turnaround = false →
    c.inFlight = some { kind := kind, number := request, withdrawn := false } →
    ∃ t d, exec (.serviceLimitExpiry l) s = .next t ∧ t.context e.terminal = some d ∧
      (t.line l).exchange = some { e with phase := .answer, answer := some (request, .busy) } ∧
      (t.line l).driving = true ∧
      d = { c with inFlight := d.inFlight } ∧
      s.onlyAt t e.terminal l ∧ t.cash = s.cash ∧ t.link = s.link ∧ t.notices = s.notices ∧ s.sameStore t ∧
      (kind ≠ .session →
        t.permits = s.permits ∧
        (s.fareWaits e.terminal request = false →
          d.inFlight = some { kind := kind, number := request, withdrawn := true } ∧ t.fare = s.fare) ∧
        (s.fareWaits e.terminal request = true →
          d.inFlight = none ∧ t.fare.computing = s.fare.computing ∧
          t.fare.queue = s.fare.queue.filter fun q => q.returnTo != .terminal e.terminal request)) ∧
      (kind = .session →
        (∀ ahead q behind, s.permits.queue = ahead ++ .lookup q :: behind → q.terminal = e.terminal →
          q.request = request →
          (∀ o ∈ ahead ++ behind, ∀ p, o = .lookup p → ¬(p.terminal = e.terminal ∧ p.request = request)) →
          d.inFlight = none ∧ t.fare = s.fare ∧
            t.permits = { s.permits with records := t.permits.records, queue := ahead ++ behind } ∧
            ∀ m, t.permit m = (s.permit m).map fun p => p.without (.session e.terminal request)) ∧
        ((∀ o ∈ s.permits.queue, ∀ p, o = .lookup p → ¬(p.terminal = e.terminal ∧ p.request = request)) →
          (∀ q marked, s.permits.working = some (.lookup q marked) → q.terminal = e.terminal → q.request = request →
            d.inFlight = some { kind := .session, number := request, withdrawn := true } ∧ t.fare = s.fare ∧
              t.permits = { s.permits with working := some (.lookup q true) }) ∧
          ((∀ q marked, s.permits.working = some (.lookup q marked) →
              ¬(q.terminal = e.terminal ∧ q.request = request)) →
            (s.fareWaits e.terminal request = true →
              d.inFlight = none ∧ t.fare.computing = s.fare.computing ∧
                t.fare.queue = s.fare.queue.filter (fun q => q.returnTo != .terminal e.terminal request) ∧
                t.permits = { s.permits with records := t.permits.records } ∧
                ∀ m, t.permit m = (s.permit m).map fun p => p.without (.session e.terminal request)) ∧
            (s.fareWaits e.terminal request = false →
              d.inFlight = some { kind := .session, number := request, withdrawn := true } ∧ t.fare = s.fare ∧
                t.permits = s.permits))))) ∧
  ∀ (s : State) (q : Lookup) (c : Context), s.mainSupply = true → s.permits.working = some (.lookup q true) →
    s.permits.queue = [] → s.context q.terminal = some c →
    ∃ t, exec .lookupComplete s = .next t ∧ t.context q.terminal = some { c with inFlight := none } ∧
      (∀ m, m ≠ q.terminal → t.context m = s.context m) ∧ t.lines = s.lines ∧
      t.permits = { s.permits with records := t.permits.records, working := none } ∧
      (∀ m, t.permit m = (s.permit m).map fun p => p.without (.session q.terminal q.request)) ∧
      t.fare = s.fare ∧ t.cash = s.cash ∧ t.link = s.link ∧ t.notices = s.notices ∧ s.sameStore t

/-! ## Starts -/

/-- R13, R30, R56, R78, R100, R120, R136, R152, R167, R180: a COLD start leaves every block in the state after reset. R178: the
supplies: without the main supply the retention supply can be lost, and with it it cannot; the start's end reads the
strap and clears the starting mark. The model's own choices: the rate kept and the starting mark left SET until START COMPLETE
(log 3, log 29), the counts of elapsed time and of free choices kept (log 29), a COLD start taken whenever it is commanded and
the outputs kept without supply (log 6). -/
def Obligations.ColdStartAndSupplies : Prop :=
  (∀ s : State,
     exec .coldStart s =
       .next { State.reset with
         link := { State.reset.link with rate := s.link.rate, starting := true }
         elapsed := s.elapsed
         choices := s.choices
         pending := s.pending }) ∧
  ∀ s : State,
    exec .mainSupplyLoss s = .next { s with mainSupply := false } ∧
    (s.mainSupply = false → exec .retentionSupplyLoss s = .next { s with retentionHeld := false }) ∧
    (s.mainSupply = true → exec .retentionSupplyLoss s = .next s) ∧
    (s.mainSupply = true → s.link.starting = true →
      ∀ strap, exec (.startComplete strap) s = .next { s with link := { s.link with rate := strap, starting := false } })

/-- R13, R30, R56, R78, R100, R120, R136, R152, R167, R180: what POWER and WARM starts keep and what they clear, block by block. A
POWER start empties the Notice Queue, the report sets and the event buffers, and a WARM start keeps them; CONDITION is then
reported, and the entry queued in ascending terminal number (after a WARM start the model's choice, log 36), for each terminal
whose condition the removal of SILENT changed.
CONDITION is owed at every terminal, CLOCK and PLATE where they were owed, queued or begun, RESULT nowhere. The clock and the
schedule are such that the POWER start makes no switchover. The model's own choices: the starting mark is left SET (log 29),
and a POWER start is taken whenever it is commanded (log 6). -/
def Obligations.PowerAndWarmStartsKeepTheRetained : Prop :=
  ∀ (s : State) (i : Instr) (kind : StartKind),
    (i = .powerStart ∧ kind = .power ∧ s.retentionHeld = true ∧
        (s.clock.valid = false ∨ s.tariffs.due s.clock.current = false) ∨
      i = .warmStart ∧ kind = .warm ∧ s.mainSupply = true) →
    ∃ t, exec i s = .next t ∧
      t.clock = s.clock ∧ t.calendar = s.calendar ∧ t.tariffs = s.tariffs ∧ t.cash = s.cash ∧ t.defaults = s.defaults ∧
      t.fare = { queue := [], computing := none } ∧
      t.permits.records = s.permits.records.map (fun p => { p with claim := none }) ∧
      t.permits.queue = [] ∧ t.permits.working = none ∧ t.permits.referrals = [] ∧
      t.permits.referralEnabled = s.permits.referralEnabled ∧ t.permits.referralTimeout = s.permits.referralTimeout ∧
      t.permits.lastReferral = s.permits.lastReferral ∧
      (∀ l, (t.line l).state = .stopped ∧ (t.line l).exchange = none ∧ (t.line l).driving = false ∧
        (t.line l).directed = [] ∧ (t.line l).chain = none ∧ (t.line l).paceCounter = 0 ∧
        (t.line l).settings = (s.line l).settings ∧ (t.line l).pollList = (s.line l).pollList) ∧
      (∀ n, s.context n = none → t.context n = none) ∧
      (s.contextsKept → ∀ n c, s.context n = some c →
        ∃ d, t.context n = some d ∧
          d = { c with
            faults := { c.faults with silent := false }, inFlight := none, referral := none, held := none
            owed := d.owed, reports := d.reports, events := if kind = .power then [] else c.events } ∧
          d.owed.condition = true ∧ d.owed.result = false ∧
          (d.owed.clock = true ↔ c.owed.clock = true ∨ (s.line c.line).holds n .clock = true ∨
            ∃ e, (s.line c.line).exchange = some e ∧ e.terminal = n ∧ e.frame.orders .clock = true) ∧
          (d.owed.plate = true ↔ c.owed.plate = true ∨ (s.line c.line).holds n .plate = true ∨
            (∃ e, (s.line c.line).exchange = some e ∧ e.terminal = n ∧ e.frame.orders .plate = true) ∨
            ∃ chain, (s.line c.line).chain = some chain ∧ chain.terminal = n) ∧
          (kind = .power →
            d.reports = { condition := d.condition != c.condition, events := false, held := false, plate := false }) ∧
          (kind = .warm → d.reports = { c.reports with condition := c.reports.condition || d.condition != c.condition })) ∧
      (s.contextsKept →
        t.notices =
          (if kind = .power then [] else s.notices) ++
            ((s.contexts.filter fun c =>
                c.condition != ({ c with faults := { c.faults with silent := false } } : Context).condition &&
                  (kind == .power || c.reports.isEmpty)).map
              fun c => { kind := .terminal c.number, count := 1 })) ∧
      (kind = .power ∨ s.attentionFollows → t.attentionFollows) ∧
      t.link.outstanding = none ∧ t.link.sending = none ∧ t.link.waiting = [] ∧ t.link.receiver = .hunting ∧
      t.link.check = 0 ∧ t.link.timeout = 0 ∧ t.link.dropped = 0 ∧ t.link.lastStart = kind ∧ t.link.starting = true ∧
      t.link.warmStartDue = false ∧
      t.mainSupply = true ∧ t.pending = s.pending
end

