-- ==== Sys2Proof/Laws/Codec.lean ====
section
/-! SUPPORT. The field codings of R181 read back, and where a field stands in a body. -/

namespace Sys2Proof.Machine

open Sys2Proof

@[simp] theorem length_toBinary (width n : Nat) : (toBinary width n).length = width := by
  induction width with
  | zero => rfl
  | succ width ih => simp [toBinary, ih]

@[simp] theorem length_toPacked (width n : Nat) : (toPacked width n).length = width := by
  induction width with
  | zero => rfl
  | succ width ih => simp [toPacked, ih]

@[simp] theorem length_toMoney (n : Nat) : (toMoney n).length = 4 := length_toPacked 4 n

/-- What a fold of Binary does with a value already read. -/
theorem foldl_toBinary (width n start : Nat) :
    (toBinary width n).foldl (fun a b => a * 256 + b.toNat) start = start * 256 ^ width + n % 256 ^ width := by
  induction width generalizing start with
  | zero => simp [toBinary, Nat.mod_one]
  | succ width ih =>
    simp only [toBinary, List.foldl_cons, ih, BitVec.toNat_ofNat]
    have h := Nat.mod_mul (x := n) (a := 256 ^ width) (b := 256)
    have e : 2 ^ 8 = 256 := rfl
    rw [pow_succ 256 width, h, e]
    ring

/-- Binary reads back what it wrote (R181). -/
theorem binary_toBinary (width n : Nat) (h : n < 256 ^ width) : binary (toBinary width n) = n := by
  simp [binary, foldl_toBinary, Nat.mod_eq_of_lt h]

/-- What a fold of Packed does with a value already read. -/
theorem foldl_toPacked (width n start : Nat) :
    (toPacked width n).foldl
        (fun a b => match a with
          | none => none
          | some a =>
            if b.toNat / 16 ≤ 9 ∧ b.toNat % 16 ≤ 9 then some (a * 100 + (b.toNat / 16) * 10 + b.toNat % 16) else none)
        (some start) = some (start * 100 ^ width + n % 100 ^ width) := by
  induction width generalizing start with
  | zero => simp [toPacked, Nat.mod_one]
  | succ width ih =>
    simp only [toPacked, List.foldl_cons, BitVec.toNat_ofNat]
    have e : (n / 100 ^ width % 100 / 10 * 16 + n / 100 ^ width % 10) % 2 ^ 8 =
        n / 100 ^ width % 100 / 10 * 16 + n / 100 ^ width % 10 := by omega
    rw [e]
    generalize hq : n / 100 ^ width = q
    have h1 : (q % 100 / 10 * 16 + q % 10) / 16 = q % 100 / 10 := by omega
    have h2 : (q % 100 / 10 * 16 + q % 10) % 16 = q % 10 := by omega
    have h3 : q % 100 / 10 ≤ 9 ∧ q % 10 ≤ 9 := by omega
    rw [h1, h2, if_pos h3, ih]
    have h := Nat.mod_mul (x := n) (a := 100 ^ width) (b := 100)
    rw [hq] at h
    have h4 : q % 100 = q % 100 / 10 * 10 + q % 10 := by omega
    rw [pow_succ 100 width, h]
    generalize q % 100 / 10 = u at *
    generalize q % 10 = v at *
    rw [h4]
    congr 1
    ring

/-- Packed reads back what it wrote (R181). -/
theorem packed_toPacked (width n : Nat) (h : n < 100 ^ width) : packed (toPacked width n) = some n := by
  have read := foldl_toPacked width n 0
  rw [Nat.mod_eq_of_lt h, Nat.zero_mul, Nat.zero_add] at read
  exact read

/-- The bytes of a field that stands after `before` in a body. -/
theorem bytesAt_field (before field after : List Byte) :
    bytesAt (before ++ (field ++ after)) before.length field.length = field := by
  simp [bytesAt]

/-- A Binary field that stands after `before` in a body. -/
theorem number_field (before after : List Byte) (width n : Nat) (h : n < 256 ^ width) :
    number (before ++ (toBinary width n ++ after)) before.length width = n := by
  have e := bytesAt_field before (toBinary width n) after
  rw [length_toBinary] at e
  rw [number, e, binary_toBinary width n h]

/-- A Packed field that stands after `before` in a body. -/
theorem digits_field (before after : List Byte) (width n : Nat) (h : n < 100 ^ width) :
    digits (before ++ (toPacked width n ++ after)) before.length width = some n := by
  have e := bytesAt_field before (toPacked width n) after
  rw [length_toPacked] at e
  rw [digits, e, packed_toPacked width n h]

/-- A field of one byte. -/
theorem number_byte (before after : List Byte) (b : Byte) : number (before ++ b :: after) before.length 1 = b.toNat := by
  simp [number, bytesAt, binary]

/-! ### Reading the bodies of the fixed forms -/

theorem readClockSet_bytes {day second : Nat} (h : day ≤ 65535) (k : second ≤ 86399) :
    readClockSet (toBinary 2 day ++ toBinary 3 second) = .ok { day := day, second := second } := by
  have e1 := number_field [] (toBinary 3 second) 2 day (by omega)
  have e2 := number_field (toBinary 2 day) [] 3 second (by omega)
  simp only [List.nil_append, List.append_nil, List.length_nil, length_toBinary] at e1 e2
  simp [readClockSet, sized, checked, firstBad, within, e1, e2, h, k]

theorem readCalendarPut_bytes (e : CalendarEntry) (h : e.day ≤ 65535) :
    readCalendarPut (toBinary 2 e.day ++ [e.type.byte]) = .ok e := by
  have e1 := number_field [] [e.type.byte] 2 e.day (by omega)
  have e2 := number_byte (toBinary 2 e.day) [] e.type.byte
  simp only [List.nil_append, List.length_nil, length_toBinary] at e1 e2
  cases e with
  | mk day type =>
    cases type <;>
      simp_all [readCalendarPut, sized, checked, firstBad, within, DayType.byte, dayTypeOfCode]

theorem readDay_bytes {day : Nat} (h : day ≤ 65535) : readDay (toBinary 2 day) = .ok day := by
  have e1 := number_field [] [] 2 day (by omega)
  simp only [List.nil_append, List.append_nil, List.length_nil] at e1
  simp [readDay, sized, checked, firstBad, within, e1, h]

theorem readNumber_bytes {n : Nat} (h : 1 ≤ n) (k : n ≤ 65535) : readNumber (toBinary 2 n) = .ok n := by
  have e1 := number_field [] [] 2 n (by omega)
  simp only [List.nil_append, List.append_nil, List.length_nil] at e1
  simp [readNumber, sized, checked, firstBad, within, e1, h, k]

theorem readSwitchAt_bytes {day minute : Nat} (h : day ≤ 65535) (k : minute ≤ 1439) :
    readSwitchAt (toBinary 2 day ++ toBinary 2 minute) = .ok { day := day, minute := minute } := by
  have e1 := number_field [] (toBinary 2 minute) 2 day (by omega)
  have e2 := number_field (toBinary 2 day) [] 2 minute (by omega)
  simp only [List.nil_append, List.append_nil, List.length_nil, length_toBinary] at e1 e2
  simp [readSwitchAt, sized, checked, firstBad, within, e1, e2, h, k]

theorem readSlot_bytes (bank : BankLetter) (zone : Zone) : readSlot [bank.byte, byte zone.val] = .ok (bank, zone) := by
  have hm : zone.val % 256 = zone.val := by omega
  have hz : zone.val ≤ 15 := by omega
  cases bank <;>
    simp [readSlot, sized, checked, firstBad, within, number, bytesAt, binary, bankOfCode, BankLetter.byte, byte, hm, hz]

theorem readCountEnter_bytes {n amount : Nat} (h : 1 ≤ n) (k : n ≤ 65535) (m : amount ≤ 9999999) :
    readCountEnter (toBinary 2 n ++ toMoney amount) = .ok (n, amount) := by
  have e1 := number_field [] (toMoney amount) 2 n (by omega)
  have e2 := digits_field (toBinary 2 n) [] 4 amount (by omega)
  simp only [List.nil_append, List.append_nil, List.length_nil, length_toBinary] at e1 e2
  simp only [toMoney] at *
  simp [readCountEnter, sized, checked, firstBad, within, packedWithin, e1, e2, h, k, m]

end Sys2Proof.Machine
end

