-- ==== Sys2Proof/Laws/State.lean ====
section
/-! SUPPORT. One lemma for each field of State under each of the updates the blocks make, and what a line or a context reads as
after a change to one. -/

namespace Sys2Proof.Machine

open Sys2Proof

/-! ### onLine -/

@[simp] theorem State.onLine_clock (s : State) (l : LineNo) (f : Line → Line) : (s.onLine l f).clock = s.clock := rfl
@[simp] theorem State.onLine_calendar (s : State) (l : LineNo) (f : Line → Line) : (s.onLine l f).calendar = s.calendar := rfl
@[simp] theorem State.onLine_tariffs (s : State) (l : LineNo) (f : Line → Line) : (s.onLine l f).tariffs = s.tariffs := rfl
@[simp] theorem State.onLine_fare (s : State) (l : LineNo) (f : Line → Line) : (s.onLine l f).fare = s.fare := rfl
@[simp] theorem State.onLine_contexts (s : State) (l : LineNo) (f : Line → Line) : (s.onLine l f).contexts = s.contexts := rfl
@[simp] theorem State.onLine_permits (s : State) (l : LineNo) (f : Line → Line) : (s.onLine l f).permits = s.permits := rfl
@[simp] theorem State.onLine_cash (s : State) (l : LineNo) (f : Line → Line) : (s.onLine l f).cash = s.cash := rfl
@[simp] theorem State.onLine_defaults (s : State) (l : LineNo) (f : Line → Line) : (s.onLine l f).defaults = s.defaults := rfl
@[simp] theorem State.onLine_lines (s : State) (l : LineNo) (f : Line → Line) : (s.onLine l f).lines = s.lines.set l (f (s.line l)) := rfl
@[simp] theorem State.onLine_link (s : State) (l : LineNo) (f : Line → Line) : (s.onLine l f).link = s.link := rfl
@[simp] theorem State.onLine_notices (s : State) (l : LineNo) (f : Line → Line) : (s.onLine l f).notices = s.notices := rfl
@[simp] theorem State.onLine_attention (s : State) (l : LineNo) (f : Line → Line) : (s.onLine l f).attention = s.attention := rfl
@[simp] theorem State.onLine_mainSupply (s : State) (l : LineNo) (f : Line → Line) : (s.onLine l f).mainSupply = s.mainSupply := rfl
@[simp] theorem State.onLine_retentionHeld (s : State) (l : LineNo) (f : Line → Line) : (s.onLine l f).retentionHeld = s.retentionHeld := rfl
@[simp] theorem State.onLine_elapsed (s : State) (l : LineNo) (f : Line → Line) : (s.onLine l f).elapsed = s.elapsed := rfl
@[simp] theorem State.onLine_scanned (s : State) (l : LineNo) (f : Line → Line) : (s.onLine l f).scanned = s.scanned := rfl
@[simp] theorem State.onLine_choices (s : State) (l : LineNo) (f : Line → Line) : (s.onLine l f).choices = s.choices := rfl
@[simp] theorem State.onLine_pending (s : State) (l : LineNo) (f : Line → Line) : (s.onLine l f).pending = s.pending := rfl

/-! ### onLines -/

@[simp] theorem State.onLines_clock (s : State) (f : Line → Line) : (s.onLines f).clock = s.clock := rfl
@[simp] theorem State.onLines_calendar (s : State) (f : Line → Line) : (s.onLines f).calendar = s.calendar := rfl
@[simp] theorem State.onLines_tariffs (s : State) (f : Line → Line) : (s.onLines f).tariffs = s.tariffs := rfl
@[simp] theorem State.onLines_fare (s : State) (f : Line → Line) : (s.onLines f).fare = s.fare := rfl
@[simp] theorem State.onLines_contexts (s : State) (f : Line → Line) : (s.onLines f).contexts = s.contexts := rfl
@[simp] theorem State.onLines_permits (s : State) (f : Line → Line) : (s.onLines f).permits = s.permits := rfl
@[simp] theorem State.onLines_cash (s : State) (f : Line → Line) : (s.onLines f).cash = s.cash := rfl
@[simp] theorem State.onLines_defaults (s : State) (f : Line → Line) : (s.onLines f).defaults = s.defaults := rfl
@[simp] theorem State.onLines_lines (s : State) (f : Line → Line) : (s.onLines f).lines = mapLines f s.lines := rfl
@[simp] theorem State.onLines_link (s : State) (f : Line → Line) : (s.onLines f).link = s.link := rfl
@[simp] theorem State.onLines_notices (s : State) (f : Line → Line) : (s.onLines f).notices = s.notices := rfl
@[simp] theorem State.onLines_attention (s : State) (f : Line → Line) : (s.onLines f).attention = s.attention := rfl
@[simp] theorem State.onLines_mainSupply (s : State) (f : Line → Line) : (s.onLines f).mainSupply = s.mainSupply := rfl
@[simp] theorem State.onLines_retentionHeld (s : State) (f : Line → Line) : (s.onLines f).retentionHeld = s.retentionHeld := rfl
@[simp] theorem State.onLines_elapsed (s : State) (f : Line → Line) : (s.onLines f).elapsed = s.elapsed := rfl
@[simp] theorem State.onLines_scanned (s : State) (f : Line → Line) : (s.onLines f).scanned = s.scanned := rfl
@[simp] theorem State.onLines_choices (s : State) (f : Line → Line) : (s.onLines f).choices = s.choices := rfl
@[simp] theorem State.onLines_pending (s : State) (f : Line → Line) : (s.onLines f).pending = s.pending := rfl

/-! ### onContext -/

@[simp] theorem State.onContext_clock (s : State) (n : Nat) (f : Context → Context) : (s.onContext n f).clock = s.clock := rfl
@[simp] theorem State.onContext_calendar (s : State) (n : Nat) (f : Context → Context) : (s.onContext n f).calendar = s.calendar := rfl
@[simp] theorem State.onContext_tariffs (s : State) (n : Nat) (f : Context → Context) : (s.onContext n f).tariffs = s.tariffs := rfl
@[simp] theorem State.onContext_fare (s : State) (n : Nat) (f : Context → Context) : (s.onContext n f).fare = s.fare := rfl
@[simp] theorem State.onContext_contexts (s : State) (n : Nat) (f : Context → Context) : (s.onContext n f).contexts = s.contexts.map fun c => if c.number = n then f c else c := rfl
@[simp] theorem State.onContext_permits (s : State) (n : Nat) (f : Context → Context) : (s.onContext n f).permits = s.permits := rfl
@[simp] theorem State.onContext_cash (s : State) (n : Nat) (f : Context → Context) : (s.onContext n f).cash = s.cash := rfl
@[simp] theorem State.onContext_defaults (s : State) (n : Nat) (f : Context → Context) : (s.onContext n f).defaults = s.defaults := rfl
@[simp] theorem State.onContext_lines (s : State) (n : Nat) (f : Context → Context) : (s.onContext n f).lines = s.lines := rfl
@[simp] theorem State.onContext_link (s : State) (n : Nat) (f : Context → Context) : (s.onContext n f).link = s.link := rfl
@[simp] theorem State.onContext_notices (s : State) (n : Nat) (f : Context → Context) : (s.onContext n f).notices = s.notices := rfl
@[simp] theorem State.onContext_attention (s : State) (n : Nat) (f : Context → Context) : (s.onContext n f).attention = s.attention := rfl
@[simp] theorem State.onContext_mainSupply (s : State) (n : Nat) (f : Context → Context) : (s.onContext n f).mainSupply = s.mainSupply := rfl
@[simp] theorem State.onContext_retentionHeld (s : State) (n : Nat) (f : Context → Context) : (s.onContext n f).retentionHeld = s.retentionHeld := rfl
@[simp] theorem State.onContext_elapsed (s : State) (n : Nat) (f : Context → Context) : (s.onContext n f).elapsed = s.elapsed := rfl
@[simp] theorem State.onContext_scanned (s : State) (n : Nat) (f : Context → Context) : (s.onContext n f).scanned = s.scanned := rfl
@[simp] theorem State.onContext_choices (s : State) (n : Nat) (f : Context → Context) : (s.onContext n f).choices = s.choices := rfl
@[simp] theorem State.onContext_pending (s : State) (n : Nat) (f : Context → Context) : (s.onContext n f).pending = s.pending := rfl

/-! ### setNotices -/

@[simp] theorem State.setNotices_clock (s : State) (queue : List Notice) : (s.setNotices queue).clock = s.clock := rfl
@[simp] theorem State.setNotices_calendar (s : State) (queue : List Notice) : (s.setNotices queue).calendar = s.calendar := rfl
@[simp] theorem State.setNotices_tariffs (s : State) (queue : List Notice) : (s.setNotices queue).tariffs = s.tariffs := rfl
@[simp] theorem State.setNotices_fare (s : State) (queue : List Notice) : (s.setNotices queue).fare = s.fare := rfl
@[simp] theorem State.setNotices_contexts (s : State) (queue : List Notice) : (s.setNotices queue).contexts = s.contexts := rfl
@[simp] theorem State.setNotices_permits (s : State) (queue : List Notice) : (s.setNotices queue).permits = s.permits := rfl
@[simp] theorem State.setNotices_cash (s : State) (queue : List Notice) : (s.setNotices queue).cash = s.cash := rfl
@[simp] theorem State.setNotices_defaults (s : State) (queue : List Notice) : (s.setNotices queue).defaults = s.defaults := rfl
@[simp] theorem State.setNotices_lines (s : State) (queue : List Notice) : (s.setNotices queue).lines = s.lines := rfl
@[simp] theorem State.setNotices_link (s : State) (queue : List Notice) : (s.setNotices queue).link = s.link := rfl
@[simp] theorem State.setNotices_notices (s : State) (queue : List Notice) : (s.setNotices queue).notices = queue := rfl
@[simp] theorem State.setNotices_attention (s : State) (queue : List Notice) : (s.setNotices queue).attention = !queue.isEmpty := rfl
@[simp] theorem State.setNotices_mainSupply (s : State) (queue : List Notice) : (s.setNotices queue).mainSupply = s.mainSupply := rfl
@[simp] theorem State.setNotices_retentionHeld (s : State) (queue : List Notice) : (s.setNotices queue).retentionHeld = s.retentionHeld := rfl
@[simp] theorem State.setNotices_elapsed (s : State) (queue : List Notice) : (s.setNotices queue).elapsed = s.elapsed := rfl
@[simp] theorem State.setNotices_scanned (s : State) (queue : List Notice) : (s.setNotices queue).scanned = s.scanned := rfl
@[simp] theorem State.setNotices_choices (s : State) (queue : List Notice) : (s.setNotices queue).choices = s.choices := rfl
@[simp] theorem State.setNotices_pending (s : State) (queue : List Notice) : (s.setNotices queue).pending = s.pending := rfl

/-! ### onLink -/

@[simp] theorem State.onLink_clock (s : State) (f : Link → Link) : (s.onLink f).clock = s.clock := rfl
@[simp] theorem State.onLink_calendar (s : State) (f : Link → Link) : (s.onLink f).calendar = s.calendar := rfl
@[simp] theorem State.onLink_tariffs (s : State) (f : Link → Link) : (s.onLink f).tariffs = s.tariffs := rfl
@[simp] theorem State.onLink_fare (s : State) (f : Link → Link) : (s.onLink f).fare = s.fare := rfl
@[simp] theorem State.onLink_contexts (s : State) (f : Link → Link) : (s.onLink f).contexts = s.contexts := rfl
@[simp] theorem State.onLink_permits (s : State) (f : Link → Link) : (s.onLink f).permits = s.permits := rfl
@[simp] theorem State.onLink_cash (s : State) (f : Link → Link) : (s.onLink f).cash = s.cash := rfl
@[simp] theorem State.onLink_defaults (s : State) (f : Link → Link) : (s.onLink f).defaults = s.defaults := rfl
@[simp] theorem State.onLink_lines (s : State) (f : Link → Link) : (s.onLink f).lines = s.lines := rfl
@[simp] theorem State.onLink_link (s : State) (f : Link → Link) : (s.onLink f).link = f s.link := rfl
@[simp] theorem State.onLink_notices (s : State) (f : Link → Link) : (s.onLink f).notices = s.notices := rfl
@[simp] theorem State.onLink_attention (s : State) (f : Link → Link) : (s.onLink f).attention = s.attention := rfl
@[simp] theorem State.onLink_mainSupply (s : State) (f : Link → Link) : (s.onLink f).mainSupply = s.mainSupply := rfl
@[simp] theorem State.onLink_retentionHeld (s : State) (f : Link → Link) : (s.onLink f).retentionHeld = s.retentionHeld := rfl
@[simp] theorem State.onLink_elapsed (s : State) (f : Link → Link) : (s.onLink f).elapsed = s.elapsed := rfl
@[simp] theorem State.onLink_scanned (s : State) (f : Link → Link) : (s.onLink f).scanned = s.scanned := rfl
@[simp] theorem State.onLink_choices (s : State) (f : Link → Link) : (s.onLink f).choices = s.choices := rfl
@[simp] theorem State.onLink_pending (s : State) (f : Link → Link) : (s.onLink f).pending = s.pending := rfl

/-! ### onTariffs -/

@[simp] theorem State.onTariffs_clock (s : State) (f : Tariffs → Tariffs) : (s.onTariffs f).clock = s.clock := rfl
@[simp] theorem State.onTariffs_calendar (s : State) (f : Tariffs → Tariffs) : (s.onTariffs f).calendar = s.calendar := rfl
@[simp] theorem State.onTariffs_tariffs (s : State) (f : Tariffs → Tariffs) : (s.onTariffs f).tariffs = f s.tariffs := rfl
@[simp] theorem State.onTariffs_fare (s : State) (f : Tariffs → Tariffs) : (s.onTariffs f).fare = s.fare := rfl
@[simp] theorem State.onTariffs_contexts (s : State) (f : Tariffs → Tariffs) : (s.onTariffs f).contexts = s.contexts := rfl
@[simp] theorem State.onTariffs_permits (s : State) (f : Tariffs → Tariffs) : (s.onTariffs f).permits = s.permits := rfl
@[simp] theorem State.onTariffs_cash (s : State) (f : Tariffs → Tariffs) : (s.onTariffs f).cash = s.cash := rfl
@[simp] theorem State.onTariffs_defaults (s : State) (f : Tariffs → Tariffs) : (s.onTariffs f).defaults = s.defaults := rfl
@[simp] theorem State.onTariffs_lines (s : State) (f : Tariffs → Tariffs) : (s.onTariffs f).lines = s.lines := rfl
@[simp] theorem State.onTariffs_link (s : State) (f : Tariffs → Tariffs) : (s.onTariffs f).link = s.link := rfl
@[simp] theorem State.onTariffs_notices (s : State) (f : Tariffs → Tariffs) : (s.onTariffs f).notices = s.notices := rfl
@[simp] theorem State.onTariffs_attention (s : State) (f : Tariffs → Tariffs) : (s.onTariffs f).attention = s.attention := rfl
@[simp] theorem State.onTariffs_mainSupply (s : State) (f : Tariffs → Tariffs) : (s.onTariffs f).mainSupply = s.mainSupply := rfl
@[simp] theorem State.onTariffs_retentionHeld (s : State) (f : Tariffs → Tariffs) : (s.onTariffs f).retentionHeld = s.retentionHeld := rfl
@[simp] theorem State.onTariffs_elapsed (s : State) (f : Tariffs → Tariffs) : (s.onTariffs f).elapsed = s.elapsed := rfl
@[simp] theorem State.onTariffs_scanned (s : State) (f : Tariffs → Tariffs) : (s.onTariffs f).scanned = s.scanned := rfl
@[simp] theorem State.onTariffs_choices (s : State) (f : Tariffs → Tariffs) : (s.onTariffs f).choices = s.choices := rfl
@[simp] theorem State.onTariffs_pending (s : State) (f : Tariffs → Tariffs) : (s.onTariffs f).pending = s.pending := rfl

/-! ### onFare -/

@[simp] theorem State.onFare_clock (s : State) (f : FareEngine → FareEngine) : (s.onFare f).clock = s.clock := rfl
@[simp] theorem State.onFare_calendar (s : State) (f : FareEngine → FareEngine) : (s.onFare f).calendar = s.calendar := rfl
@[simp] theorem State.onFare_tariffs (s : State) (f : FareEngine → FareEngine) : (s.onFare f).tariffs = s.tariffs := rfl
@[simp] theorem State.onFare_fare (s : State) (f : FareEngine → FareEngine) : (s.onFare f).fare = f s.fare := rfl
@[simp] theorem State.onFare_contexts (s : State) (f : FareEngine → FareEngine) : (s.onFare f).contexts = s.contexts := rfl
@[simp] theorem State.onFare_permits (s : State) (f : FareEngine → FareEngine) : (s.onFare f).permits = s.permits := rfl
@[simp] theorem State.onFare_cash (s : State) (f : FareEngine → FareEngine) : (s.onFare f).cash = s.cash := rfl
@[simp] theorem State.onFare_defaults (s : State) (f : FareEngine → FareEngine) : (s.onFare f).defaults = s.defaults := rfl
@[simp] theorem State.onFare_lines (s : State) (f : FareEngine → FareEngine) : (s.onFare f).lines = s.lines := rfl
@[simp] theorem State.onFare_link (s : State) (f : FareEngine → FareEngine) : (s.onFare f).link = s.link := rfl
@[simp] theorem State.onFare_notices (s : State) (f : FareEngine → FareEngine) : (s.onFare f).notices = s.notices := rfl
@[simp] theorem State.onFare_attention (s : State) (f : FareEngine → FareEngine) : (s.onFare f).attention = s.attention := rfl
@[simp] theorem State.onFare_mainSupply (s : State) (f : FareEngine → FareEngine) : (s.onFare f).mainSupply = s.mainSupply := rfl
@[simp] theorem State.onFare_retentionHeld (s : State) (f : FareEngine → FareEngine) : (s.onFare f).retentionHeld = s.retentionHeld := rfl
@[simp] theorem State.onFare_elapsed (s : State) (f : FareEngine → FareEngine) : (s.onFare f).elapsed = s.elapsed := rfl
@[simp] theorem State.onFare_scanned (s : State) (f : FareEngine → FareEngine) : (s.onFare f).scanned = s.scanned := rfl
@[simp] theorem State.onFare_choices (s : State) (f : FareEngine → FareEngine) : (s.onFare f).choices = s.choices := rfl
@[simp] theorem State.onFare_pending (s : State) (f : FareEngine → FareEngine) : (s.onFare f).pending = s.pending := rfl

/-! ### onPermits -/

@[simp] theorem State.onPermits_clock (s : State) (f : Permits → Permits) : (s.onPermits f).clock = s.clock := rfl
@[simp] theorem State.onPermits_calendar (s : State) (f : Permits → Permits) : (s.onPermits f).calendar = s.calendar := rfl
@[simp] theorem State.onPermits_tariffs (s : State) (f : Permits → Permits) : (s.onPermits f).tariffs = s.tariffs := rfl
@[simp] theorem State.onPermits_fare (s : State) (f : Permits → Permits) : (s.onPermits f).fare = s.fare := rfl
@[simp] theorem State.onPermits_contexts (s : State) (f : Permits → Permits) : (s.onPermits f).contexts = s.contexts := rfl
@[simp] theorem State.onPermits_permits (s : State) (f : Permits → Permits) : (s.onPermits f).permits = f s.permits := rfl
@[simp] theorem State.onPermits_cash (s : State) (f : Permits → Permits) : (s.onPermits f).cash = s.cash := rfl
@[simp] theorem State.onPermits_defaults (s : State) (f : Permits → Permits) : (s.onPermits f).defaults = s.defaults := rfl
@[simp] theorem State.onPermits_lines (s : State) (f : Permits → Permits) : (s.onPermits f).lines = s.lines := rfl
@[simp] theorem State.onPermits_link (s : State) (f : Permits → Permits) : (s.onPermits f).link = s.link := rfl
@[simp] theorem State.onPermits_notices (s : State) (f : Permits → Permits) : (s.onPermits f).notices = s.notices := rfl
@[simp] theorem State.onPermits_attention (s : State) (f : Permits → Permits) : (s.onPermits f).attention = s.attention := rfl
@[simp] theorem State.onPermits_mainSupply (s : State) (f : Permits → Permits) : (s.onPermits f).mainSupply = s.mainSupply := rfl
@[simp] theorem State.onPermits_retentionHeld (s : State) (f : Permits → Permits) : (s.onPermits f).retentionHeld = s.retentionHeld := rfl
@[simp] theorem State.onPermits_elapsed (s : State) (f : Permits → Permits) : (s.onPermits f).elapsed = s.elapsed := rfl
@[simp] theorem State.onPermits_scanned (s : State) (f : Permits → Permits) : (s.onPermits f).scanned = s.scanned := rfl
@[simp] theorem State.onPermits_choices (s : State) (f : Permits → Permits) : (s.onPermits f).choices = s.choices := rfl
@[simp] theorem State.onPermits_pending (s : State) (f : Permits → Permits) : (s.onPermits f).pending = s.pending := rfl

/-! ### onCash -/

@[simp] theorem State.onCash_clock (s : State) (f : Cash → Cash) : (s.onCash f).clock = s.clock := rfl
@[simp] theorem State.onCash_calendar (s : State) (f : Cash → Cash) : (s.onCash f).calendar = s.calendar := rfl
@[simp] theorem State.onCash_tariffs (s : State) (f : Cash → Cash) : (s.onCash f).tariffs = s.tariffs := rfl
@[simp] theorem State.onCash_fare (s : State) (f : Cash → Cash) : (s.onCash f).fare = s.fare := rfl
@[simp] theorem State.onCash_contexts (s : State) (f : Cash → Cash) : (s.onCash f).contexts = s.contexts := rfl
@[simp] theorem State.onCash_permits (s : State) (f : Cash → Cash) : (s.onCash f).permits = s.permits := rfl
@[simp] theorem State.onCash_cash (s : State) (f : Cash → Cash) : (s.onCash f).cash = f s.cash := rfl
@[simp] theorem State.onCash_defaults (s : State) (f : Cash → Cash) : (s.onCash f).defaults = s.defaults := rfl
@[simp] theorem State.onCash_lines (s : State) (f : Cash → Cash) : (s.onCash f).lines = s.lines := rfl
@[simp] theorem State.onCash_link (s : State) (f : Cash → Cash) : (s.onCash f).link = s.link := rfl
@[simp] theorem State.onCash_notices (s : State) (f : Cash → Cash) : (s.onCash f).notices = s.notices := rfl
@[simp] theorem State.onCash_attention (s : State) (f : Cash → Cash) : (s.onCash f).attention = s.attention := rfl
@[simp] theorem State.onCash_mainSupply (s : State) (f : Cash → Cash) : (s.onCash f).mainSupply = s.mainSupply := rfl
@[simp] theorem State.onCash_retentionHeld (s : State) (f : Cash → Cash) : (s.onCash f).retentionHeld = s.retentionHeld := rfl
@[simp] theorem State.onCash_elapsed (s : State) (f : Cash → Cash) : (s.onCash f).elapsed = s.elapsed := rfl
@[simp] theorem State.onCash_scanned (s : State) (f : Cash → Cash) : (s.onCash f).scanned = s.scanned := rfl
@[simp] theorem State.onCash_choices (s : State) (f : Cash → Cash) : (s.onCash f).choices = s.choices := rfl
@[simp] theorem State.onCash_pending (s : State) (f : Cash → Cash) : (s.onCash f).pending = s.pending := rfl

/-! ### tick -/

@[simp] theorem State.tick_clock (s : State) : s.tick.clock = s.clock.tick := rfl
@[simp] theorem State.tick_calendar (s : State) : s.tick.calendar = s.calendar := rfl
@[simp] theorem State.tick_tariffs (s : State) : s.tick.tariffs = s.tariffs := rfl
@[simp] theorem State.tick_fare (s : State) : s.tick.fare = s.fare := rfl
@[simp] theorem State.tick_contexts (s : State) : s.tick.contexts = s.contexts := rfl
@[simp] theorem State.tick_permits (s : State) : s.tick.permits = s.permits := rfl
@[simp] theorem State.tick_cash (s : State) : s.tick.cash = s.cash := rfl
@[simp] theorem State.tick_defaults (s : State) : s.tick.defaults = s.defaults := rfl
@[simp] theorem State.tick_lines (s : State) : s.tick.lines = s.lines := rfl
@[simp] theorem State.tick_link (s : State) : s.tick.link = s.link := rfl
@[simp] theorem State.tick_notices (s : State) : s.tick.notices = s.notices := rfl
@[simp] theorem State.tick_attention (s : State) : s.tick.attention = s.attention := rfl
@[simp] theorem State.tick_mainSupply (s : State) : s.tick.mainSupply = s.mainSupply := rfl
@[simp] theorem State.tick_retentionHeld (s : State) : s.tick.retentionHeld = s.retentionHeld := rfl
@[simp] theorem State.tick_elapsed (s : State) : s.tick.elapsed = s.elapsed + 1 := rfl
@[simp] theorem State.tick_scanned (s : State) : s.tick.scanned = s.scanned := rfl
@[simp] theorem State.tick_choices (s : State) : s.tick.choices = s.choices := rfl
@[simp] theorem State.tick_pending (s : State) : s.tick.pending = s.pending := rfl

/-! ### scanAlong -/

@[simp] theorem State.scanAlong_clock (s : State) : s.scanAlong.clock = s.clock := rfl
@[simp] theorem State.scanAlong_calendar (s : State) : s.scanAlong.calendar = s.calendar := rfl
@[simp] theorem State.scanAlong_tariffs (s : State) : s.scanAlong.tariffs = s.tariffs := rfl
@[simp] theorem State.scanAlong_fare (s : State) : s.scanAlong.fare = s.fare := rfl
@[simp] theorem State.scanAlong_contexts (s : State) : s.scanAlong.contexts = s.contexts := rfl
@[simp] theorem State.scanAlong_permits (s : State) : s.scanAlong.permits = s.permits := rfl
@[simp] theorem State.scanAlong_cash (s : State) : s.scanAlong.cash = s.cash := rfl
@[simp] theorem State.scanAlong_defaults (s : State) : s.scanAlong.defaults = s.defaults := rfl
@[simp] theorem State.scanAlong_lines (s : State) : s.scanAlong.lines = s.lines := rfl
@[simp] theorem State.scanAlong_link (s : State) : s.scanAlong.link = s.link := rfl
@[simp] theorem State.scanAlong_notices (s : State) : s.scanAlong.notices = s.notices := rfl
@[simp] theorem State.scanAlong_attention (s : State) : s.scanAlong.attention = s.attention := rfl
@[simp] theorem State.scanAlong_mainSupply (s : State) : s.scanAlong.mainSupply = s.mainSupply := rfl
@[simp] theorem State.scanAlong_retentionHeld (s : State) : s.scanAlong.retentionHeld = s.retentionHeld := rfl
@[simp] theorem State.scanAlong_elapsed (s : State) : s.scanAlong.elapsed = s.elapsed := rfl
@[simp] theorem State.scanAlong_pending (s : State) : s.scanAlong.pending = s.pending := rfl
@[simp] theorem State.scanAlong_choices (s : State) : s.scanAlong.choices = s.choices + 1 := rfl
@[simp] theorem State.line_scanAlong (s : State) (l : LineNo) : s.scanAlong.line l = s.line l := rfl
@[simp] theorem State.context_scanAlong (s : State) (n : Nat) : s.scanAlong.context n = s.context n := rfl
@[simp] theorem State.permit_scanAlong (s : State) (n : Nat) : s.scanAlong.permit n = s.permit n := rfl

/-! ### Reading a line and a context after a change -/

@[simp] theorem State.line_onLine (s : State) (l m : LineNo) (f : Line → Line) :
    (s.onLine l f).line m = if l = m then f (s.line l) else s.line m := by
  by_cases h : l = m
  · subst h
    simp [State.onLine, State.line, Vector.get_eq_getElem]
  · have : (l : Nat) ≠ m := fun e => h (Fin.ext e)
    simp [State.onLine, State.line, Vector.get_eq_getElem, h, Vector.getElem_set_ne _ _ this]

@[simp] theorem State.line_onLines (s : State) (m : LineNo) (f : Line → Line) : (s.onLines f).line m = f (s.line m) := by
  fin_cases m <;> rfl

@[simp] theorem State.line_onContext (s : State) (n : Nat) (f : Context → Context) (l : LineNo) :
    (s.onContext n f).line l = s.line l := rfl
@[simp] theorem State.line_setNotices (s : State) (queue : List Notice) (l : LineNo) :
    (s.setNotices queue).line l = s.line l := rfl
@[simp] theorem State.line_onLink (s : State) (f : Link → Link) (l : LineNo) : (s.onLink f).line l = s.line l := rfl
@[simp] theorem State.line_onTariffs (s : State) (f : Tariffs → Tariffs) (l : LineNo) :
    (s.onTariffs f).line l = s.line l := rfl
@[simp] theorem State.line_onFare (s : State) (f : FareEngine → FareEngine) (l : LineNo) :
    (s.onFare f).line l = s.line l := rfl
@[simp] theorem State.line_onPermits (s : State) (f : Permits → Permits) (l : LineNo) :
    (s.onPermits f).line l = s.line l := rfl
@[simp] theorem State.line_onCash (s : State) (f : Cash → Cash) (l : LineNo) : (s.onCash f).line l = s.line l := rfl

@[simp] theorem State.context_onLine (s : State) (l : LineNo) (f : Line → Line) (n : Nat) :
    (s.onLine l f).context n = s.context n := rfl
@[simp] theorem State.context_onLines (s : State) (f : Line → Line) (n : Nat) :
    (s.onLines f).context n = s.context n := rfl
@[simp] theorem State.context_setNotices (s : State) (queue : List Notice) (n : Nat) :
    (s.setNotices queue).context n = s.context n := rfl
@[simp] theorem State.context_onLink (s : State) (f : Link → Link) (n : Nat) :
    (s.onLink f).context n = s.context n := rfl
@[simp] theorem State.context_onTariffs (s : State) (f : Tariffs → Tariffs) (n : Nat) :
    (s.onTariffs f).context n = s.context n := rfl
@[simp] theorem State.context_onFare (s : State) (f : FareEngine → FareEngine) (n : Nat) :
    (s.onFare f).context n = s.context n := rfl
@[simp] theorem State.context_onPermits (s : State) (f : Permits → Permits) (n : Nat) :
    (s.onPermits f).context n = s.context n := rfl
@[simp] theorem State.context_onCash (s : State) (f : Cash → Cash) (n : Nat) :
    (s.onCash f).context n = s.context n := rfl

/-- What a context lookup finds carries the number looked for. -/
theorem State.context_number {s : State} {n : Nat} {c : Context} (h : s.context n = some c) : c.number = n := by
  have := List.find?_some h
  simpa using this

/-- A context after a change to one terminal's context that keeps the terminal numbers. -/
theorem State.context_onContext (s : State) (n m : Nat) (f : Context → Context) (keeps : ∀ c, (f c).number = c.number) :
    (s.onContext n f).context m = (s.context m).map fun c => if c.number = n then f c else c := by
  unfold State.onContext State.context
  induction s.contexts with
  | nil => rfl
  | cons c rest ih =>
    by_cases h : c.number = n <;> by_cases h' : c.number = m <;> simp_all

/-- The changed context itself. -/
theorem State.context_onContext_self (s : State) (n : Nat) (f : Context → Context)
    (keeps : ∀ c, (f c).number = c.number) : (s.onContext n f).context n = (s.context n).map f := by
  rw [State.context_onContext s n n f keeps]
  cases h : s.context n with
  | none => rfl
  | some c => simp [State.context_number h]

end Sys2Proof.Machine
end

