-- ==== Sys2Proof/Laws/Frames.lean ====
section
/-! SUPPORT. What each shared operation can change: of everything in State, the line operations change at most the lines and
the notice queue with ATTENTION, and the operations on a terminal also the contexts. One lemma an operation, so that no
later proof unfolds it to see what it leaves alone. -/

namespace Sys2Proof.Machine

open Sys2Proof

/-- Only the lines, the notice queue and ATTENTION may differ. -/
def OnlyLines (s t : State) : Prop := ∃ ls ns a, t = { s with lines := ls, notices := ns, attention := a }

/-- Only the contexts, the lines, the notice queue and ATTENTION may differ. -/
def OnlyTerminals (s t : State) : Prop :=
  ∃ cs ls ns a, t = { s with contexts := cs, lines := ls, notices := ns, attention := a }

theorem OnlyLines.refl (s : State) : OnlyLines s s := ⟨s.lines, s.notices, s.attention, rfl⟩

theorem OnlyLines.trans {s t u : State} (h : OnlyLines s t) (k : OnlyLines t u) : OnlyLines s u := by
  obtain ⟨_, _, _, rfl⟩ := h
  obtain ⟨ls, ns, a, rfl⟩ := k
  exact ⟨ls, ns, a, rfl⟩

theorem OnlyLines.terminals {s t : State} (h : OnlyLines s t) : OnlyTerminals s t := by
  obtain ⟨ls, ns, a, rfl⟩ := h
  exact ⟨s.contexts, ls, ns, a, rfl⟩

theorem OnlyTerminals.refl (s : State) : OnlyTerminals s s := (OnlyLines.refl s).terminals

theorem OnlyTerminals.trans {s t u : State} (h : OnlyTerminals s t) (k : OnlyTerminals t u) : OnlyTerminals s u := by
  obtain ⟨_, _, _, _, rfl⟩ := h
  obtain ⟨cs, ls, ns, a, rfl⟩ := k
  exact ⟨cs, ls, ns, a, rfl⟩

/-! ### Operations on lines and notices -/

theorem onLine_only (s : State) (l : LineNo) (f : Line → Line) : OnlyLines s (s.onLine l f) := ⟨_, _, _, rfl⟩

theorem onLines_only (s : State) (f : Line → Line) : OnlyLines s (s.onLines f) := ⟨_, _, _, rfl⟩

theorem setNotices_only (s : State) (queue : List Notice) : OnlyLines s (s.setNotices queue) := ⟨_, _, _, rfl⟩

theorem notice_only (s : State) (kind : NoticeKind) : OnlyLines s (s.notice kind) := setNotices_only _ _

theorem dropNotices_only (s : State) (gone : NoticeKind → Bool) : OnlyLines s (s.dropNotices gone) := setNotices_only _ _

theorem beginExchange_only (s : State) (l : LineNo) (c : Context) (frame : SentFrame) :
    OnlyLines s (s.beginExchange l c frame) := onLine_only _ _ _

theorem beginDirected_only (s : State) (l : LineNo) (c : Context) (kind : OrderKind) :
    OnlyLines s (s.beginDirected l c kind) := by
  cases kind <;> simp only [State.beginDirected]
  case plate => exact (onLine_only _ _ _).trans (beginExchange_only _ _ _ _)
  all_goals exact beginExchange_only _ _ _ _

theorem entryEnded_only (s : State) (l : LineNo) : OnlyLines s (s.entryEnded l) := by
  unfold State.entryEnded
  simp only
  split
  · exact (onLine_only _ _ _).trans (notice_only _ _)
  · exact onLine_only _ _ _

theorem chooseWith_only (fuel : Nat) (s : State) (l : LineNo) : OnlyLines s (s.chooseWith fuel l) := by
  induction fuel generalizing s with
  | zero => exact OnlyLines.refl s
  | succ fuel ih =>
    unfold State.chooseWith
    simp only
    split
    · split
      · exact beginExchange_only _ _ _ _
      · exact (onLine_only _ _ _).trans (ih _)
    · split
      · split
        · exact (onLine_only _ _ _).trans (beginDirected_only _ _ _ _)
        · exact (onLine_only _ _ _).trans (ih _)
      · split
        · split
          · split
            · exact ((onLine_only _ _ _).trans (notice_only _ _)).trans (ih _)
            · exact onLine_only _ _ _
          · split
            · exact ((onLine_only _ _ _).trans (entryEnded_only _ _)).trans (ih _)
            · split
              · exact ((onLine_only _ _ _).trans (entryEnded_only _ _)).trans (ih _)
              · exact ((onLine_only _ _ _).trans (onLine_only _ _ _)).trans (beginExchange_only _ _ _ _)
        · exact onLine_only _ _ _

theorem choose_only (s : State) (l : LineNo) : OnlyLines s (s.choose l) := chooseWith_only _ _ _

theorem chooseIfIdle_only (s : State) (l : LineNo) : OnlyLines s (s.chooseIfIdle l) := by
  unfold State.chooseIfIdle
  split
  · exact choose_only _ _
  · exact OnlyLines.refl s

theorem handAnswer_only (s : State) (n request : Nat) (answer : Answer) : OnlyLines s (s.handAnswer n request answer) := by
  unfold State.handAnswer
  repeat' split
  all_goals first | exact OnlyLines.refl s | exact onLine_only _ _ _

theorem paceEvent_only (s : State) (l : LineNo) : OnlyLines s (s.paceEvent l) := by
  unfold State.paceEvent
  split
  · exact (onLine_only _ _ _).trans (chooseIfIdle_only _ _)
  · exact notice_only _ _

/-! ### Operations on a terminal -/

theorem onContext_only (s : State) (n : Nat) (f : Context → Context) : OnlyTerminals s (s.onContext n f) :=
  ⟨_, _, _, _, rfl⟩

theorem report_only (s : State) (n : Nat) (add : ReportSet → ReportSet) : OnlyTerminals s (s.report n add) := by
  unfold State.report
  split
  · exact OnlyTerminals.refl s
  · simp only
    split
    · exact (onContext_only _ _ _).trans (setNotices_only _ _).terminals
    · exact onContext_only _ _ _

theorem owe_only (s : State) (n : Nat) (kind : OrderKind) : OnlyTerminals s (s.owe n kind) := onContext_only _ _ _

theorem askOrder_only (s : State) (n : Nat) (kind : OrderKind) : OnlyTerminals s (s.askOrder n kind) := by
  unfold State.askOrder
  split
  · exact OnlyTerminals.refl s
  · simp only
    repeat' split
    all_goals first
      | exact OnlyTerminals.refl s
      | exact owe_only _ _ _
      | exact ((onLine_only _ _ _).trans (chooseIfIdle_only _ _)).terminals

theorem queueOwedKind_only (s : State) (n : Nat) (kind : OrderKind) : OnlyTerminals s (s.queueOwedKind n kind) := by
  unfold State.queueOwedKind
  split
  · exact OnlyTerminals.refl s
  · simp only
    repeat' split
    all_goals first
      | exact OnlyTerminals.refl s
      | exact onContext_only _ _ _
      | exact (onContext_only _ _ _).trans (onLine_only _ _ _).terminals

theorem queueOwed_only (s : State) (n : Nat) : OnlyTerminals s (s.queueOwed n) :=
  (((queueOwedKind_only _ _ _).trans (queueOwedKind_only _ _ _)).trans (queueOwedKind_only _ _ _)).trans
    (queueOwedKind_only _ _ _)

theorem act_only (s : State) (n : Nat) (f : Context → Context) : OnlyTerminals s (s.act n f) := by
  unfold State.act
  simp only
  split
  · exact onContext_only _ _ _
  · exact ((onContext_only _ _ _).trans (report_only _ _ _)).trans (askOrder_only _ _ _)

theorem endExchange_only (s : State) (l : LineNo) (goodPoll : Option Nat) : OnlyTerminals s (s.endExchange l goodPoll) := by
  unfold State.endExchange
  simp only
  split
  · split
    · exact (((onLine_only _ _ _).trans (onLine_only _ _ _)).terminals).trans (owe_only _ _ _)
    · exact ((onLine_only _ _ _).trans (onLine_only _ _ _)).terminals
  · have chosen (t : State) : OnlyTerminals t ((t.entryEnded l).choose l) :=
      ((entryEnded_only _ _).trans (choose_only _ _)).terminals
    split
    · exact ((onLine_only _ _ _).terminals.trans (queueOwed_only _ _)).trans (chosen _)
    · exact (onLine_only _ _ _).terminals.trans (chosen _)

theorem failedFrame_only (s : State) (l : LineNo) (e : Exchange) : OnlyTerminals s (s.failedFrame l e) := by
  unfold State.failedFrame
  split <;> first
    | exact OnlyTerminals.refl s
    | exact owe_only _ _ _

theorem failExchange_only (s : State) (l : LineNo) (e : Exchange) : OnlyTerminals s (s.failExchange l e) :=
  (((onContext_only _ _ _).trans (act_only _ _ _)).trans (failedFrame_only _ _ _)).trans (endExchange_only _ _ _)

theorem noReply_only (s : State) (l : LineNo) (e : Exchange) (again : Line → Line) :
    OnlyTerminals s (s.noReply l e again) := by
  unfold State.noReply
  split
  · exact (onLine_only _ _ _).terminals
  · exact failExchange_only _ _ _

theorem finish_only (s : State) (n request : Nat) (answer : Answer) : OnlyTerminals s (s.finish n request answer) :=
  (onContext_only _ _ _).trans (handAnswer_only _ _ _ _).terminals

theorem hold_only (s : State) (n : Nat) (held : HeldResult) : OnlyTerminals s (s.hold n held) :=
  (onContext_only _ _ _).trans (askOrder_only _ _ _)

theorem rejectFrame_only (s : State) (l : LineNo) (e : Exchange) (count : ErrorCounters → ErrorCounters) :
    OnlyTerminals s (s.rejectFrame l e count) :=
  ((onLine_only _ _ _).terminals.trans (onContext_only _ _ _)).trans (noReply_only _ _ _ _)

theorem goodFrame_only (s : State) (l : LineNo) (n : Nat) : OnlyTerminals s (s.goodFrame l n) :=
  (onLine_only _ _ _).terminals.trans (act_only _ _ _)

theorem askAll_only (s : State) (kind : OrderKind) : OnlyTerminals s (s.askAll kind) := by
  unfold State.askAll
  generalize s.contexts.map (·.number) = numbers
  induction numbers generalizing s with
  | nil => exact OnlyTerminals.refl s
  | cons n rest ih => exact (askOrder_only s n kind).trans (ih _)

theorem reevaluateAll_only (s : State) : OnlyTerminals s s.reevaluateAll := by
  unfold State.reevaluateAll
  generalize (s.contexts.filter fun c => c.override.isNone).map (·.number) = numbers
  suffices ∀ t : State, OnlyTerminals t (numbers.foldl (fun s n => s.act n fun c => c.reevaluate s.defaults) t) from this s
  induction numbers with
  | nil => exact OnlyTerminals.refl
  | cons n rest ih => exact fun t => (act_only t n _).trans (ih _)

/-! ### The host link -/

/-- A reply, a request taken and a refusal change the Link Port alone. -/
theorem reply_only (s : State) (body : ReplyBody) : ∃ k, s.reply body = { s with link := k } := ⟨_, rfl⟩

theorem done_only (s : State) (fields : DoneFields) : ∃ k, s.done fields = { s with link := k } := ⟨_, rfl⟩

end Sys2Proof.Machine
end

