-- ==== Sys2Proof/Laws/Terminals.lean ====
section
/-! SUPPORT. What each shared operation on a terminal and its line can change, said once: of the terminals only that one, of the
lines only that one, and of the terminal's context only its report set and its owed orders, besides what the operation is
for. -/

namespace Sys2Proof.Machine

open Sys2Proof

/-- Only one terminal, one line, the notice queue and ATTENTION may differ. -/
structure Touches (s t : State) (n : Nat) (l : LineNo) : Prop where
  only : OnlyTerminals s t
  contexts : ∀ m, m ≠ n → t.context m = s.context m
  lines : ∀ m, m ≠ l → t.line m = s.line m

/-- A terminal's context is as it was but for its report set and its owed orders. -/
def Marks (n : Nat) (s t : State) : Prop :=
  ∃ (r : Context → ReportSet) (o : Context → OwedOrders),
    t.context n = (s.context n).map fun c => { c with reports := r c, owed := o c }

theorem Touches.refl (s : State) (n : Nat) (l : LineNo) : Touches s s n l :=
  ⟨OnlyTerminals.refl s, fun _ _ => rfl, fun _ _ => rfl⟩

theorem Touches.trans {s t u : State} {n : Nat} {l : LineNo} (h : Touches s t n l) (k : Touches t u n l) :
    Touches s u n l :=
  ⟨h.only.trans k.only, fun m hm => (k.contexts m hm).trans (h.contexts m hm),
    fun m hm => (k.lines m hm).trans (h.lines m hm)⟩

theorem Marks.refl (n : Nat) (s : State) : Marks n s s :=
  ⟨fun c => c.reports, fun c => c.owed, by cases s.context n <;> rfl⟩

theorem Marks.of_eq {n : Nat} {s t : State} (h : t.context n = s.context n) : Marks n s t := by
  obtain ⟨r, o, e⟩ := Marks.refl n s
  exact ⟨r, o, h.trans e⟩

theorem Marks.trans {n : Nat} {s t u : State} (h : Marks n s t) (k : Marks n t u) : Marks n s u := by
  obtain ⟨r, o, h⟩ := h
  obtain ⟨r', o', k⟩ := k
  refine ⟨fun c => r' { c with reports := r c, owed := o c }, fun c => o' { c with reports := r c, owed := o c }, ?_⟩
  rw [k, h]
  cases s.context n <;> rfl

/-- The context that stands for a terminal after it was marked. -/
theorem Marks.some {n : Nat} {s t : State} (h : Marks n s t) {c : Context} (hc : s.context n = .some c) :
    ∃ r o, t.context n = .some { c with reports := r, owed := o } := by
  obtain ⟨r, o, h⟩ := h
  exact ⟨r c, o c, by rw [h, hc]; rfl⟩

/-! ### Changes to a line -/

theorem OnlyLines.contexts {s t : State} (h : OnlyLines s t) : t.contexts = s.contexts := by
  obtain ⟨_, _, _, rfl⟩ := h
  rfl

theorem OnlyLines.context {s t : State} (h : OnlyLines s t) (n : Nat) : t.context n = s.context n := by
  unfold State.context
  rw [h.contexts]

/-- An operation on lines alone that leaves every line but one alone. -/
theorem OnlyLines.touches {s t : State} (h : OnlyLines s t) {l : LineNo} (k : ∀ m, m ≠ l → t.line m = s.line m) (n : Nat) :
    Touches s t n l := ⟨h.terminals, fun m _ => h.context m, k⟩

theorem onLine_line_ne (s : State) (l m : LineNo) (f : Line → Line) (h : m ≠ l) : (s.onLine l f).line m = s.line m := by
  simp [Ne.symm h]

theorem onLine_touches (s : State) (l : LineNo) (f : Line → Line) (n : Nat) : Touches s (s.onLine l f) n l :=
  (onLine_only s l f).touches (fun m h => onLine_line_ne s l m f h) n

@[simp] theorem notice_line (s : State) (kind : NoticeKind) (m : LineNo) : (s.notice kind).line m = s.line m := rfl

@[simp] theorem notice_context (s : State) (kind : NoticeKind) (m : Nat) : (s.notice kind).context m = s.context m := rfl

theorem entryEnded_line_ne (s : State) (l m : LineNo) (h : m ≠ l) : (s.entryEnded l).line m = s.line m := by
  unfold State.entryEnded
  simp only
  split <;> simp [Ne.symm h]

theorem beginDirected_line_ne (s : State) (l m : LineNo) (c : Context) (kind : OrderKind) (h : m ≠ l) :
    (s.beginDirected l c kind).line m = s.line m := by
  cases kind <;> simp [State.beginDirected, State.beginBlock, State.beginExchange, Ne.symm h]

theorem chooseWith_line_ne (fuel : Nat) (s : State) (l m : LineNo) (h : m ≠ l) :
    (s.chooseWith fuel l).line m = s.line m := by
  induction fuel generalizing s with
  | zero => rfl
  | succ fuel ih =>
    unfold State.chooseWith
    simp only
    split
    · split
      · simp [State.beginBlock, State.beginExchange, Ne.symm h]
      · simp [ih, Ne.symm h]
    · split
      · split
        · simp [beginDirected_line_ne _ _ _ _ _ h, Ne.symm h]
        · simp [ih, Ne.symm h]
      · split
        · split
          · split
            · simp [ih, Ne.symm h]
            · simp [Ne.symm h]
          · split
            · simp [ih, entryEnded_line_ne _ _ _ h, Ne.symm h]
            · split
              · simp [ih, entryEnded_line_ne _ _ _ h, Ne.symm h]
              · simp [State.beginExchange, Ne.symm h]
        · simp [Ne.symm h]

theorem choose_touches (s : State) (l : LineNo) (n : Nat) : Touches s (s.choose l) n l :=
  (choose_only s l).touches (fun m h => chooseWith_line_ne _ s l m h) n

theorem chooseIfIdle_touches (s : State) (l : LineNo) (n : Nat) : Touches s (s.chooseIfIdle l) n l := by
  unfold State.chooseIfIdle
  split
  · exact choose_touches s l n
  · exact Touches.refl s n l

theorem entryEnded_touches (s : State) (l : LineNo) (n : Nat) : Touches s (s.entryEnded l) n l :=
  (entryEnded_only s l).touches (fun m h => entryEnded_line_ne s l m h) n

/-- A line that is not IDLE takes no new exchange. -/
theorem chooseIfIdle_busy {s : State} {l : LineNo} (h : (s.line l).state ≠ .idle) : s.chooseIfIdle l = s := by
  simp [State.chooseIfIdle, h]

/-! ### Changes to a context -/

theorem onContext_touches (s : State) (n : Nat) (f : Context → Context) (keeps : ∀ c, (f c).number = c.number)
    (l : LineNo) : Touches s (s.onContext n f) n l := by
  refine ⟨onContext_only s n f, fun m h => ?_, fun _ _ => rfl⟩
  rw [State.context_onContext s n m f keeps]
  cases hc : s.context m with
  | none => rfl
  | some c => simp [State.context_number hc, h]

/-- A change to a terminal's report set or its owed orders marks it. -/
theorem onContext_marks (s : State) (n : Nat) (r : Context → ReportSet) (o : Context → OwedOrders) :
    Marks n s (s.onContext n fun c => { c with reports := r c, owed := o c }) :=
  ⟨r, o, State.context_onContext_self s n _ (by intro _; rfl)⟩

theorem owe_marks (s : State) (n : Nat) (kind : OrderKind) : Marks n s (s.owe n kind) :=
  onContext_marks s n (fun c => c.reports) fun c => c.owed.set kind true

theorem owe_touches (s : State) (n : Nat) (kind : OrderKind) (l : LineNo) : Touches s (s.owe n kind) n l :=
  onContext_touches s n _ (by intro _; rfl) l

theorem report_touches (s : State) (n : Nat) (add : ReportSet → ReportSet) (l : LineNo) :
    Touches s (s.report n add) n l := by
  have h := onContext_touches s n (fun c => { c with reports := add c.reports }) (fun _ => rfl) l
  refine ⟨report_only s n add, fun m hm => ?_, fun m hm => ?_⟩
  · unfold State.report
    split
    · rfl
    · simp only
      split <;> exact h.contexts m hm
  · unfold State.report
    split
    · rfl
    · simp only
      split <;> rfl

theorem report_context (s : State) (n : Nat) (add : ReportSet → ReportSet) :
    (s.report n add).context n = (s.context n).map fun c => { c with reports := add c.reports } := by
  have h := State.context_onContext_self s n (fun c => { c with reports := add c.reports }) fun _ => rfl
  unfold State.report
  split
  · simp_all
  · simp only
    split <;> simpa using h

theorem report_marks (s : State) (n : Nat) (add : ReportSet → ReportSet) : Marks n s (s.report n add) :=
  ⟨fun c => add c.reports, fun c => c.owed, report_context s n add⟩

theorem askOrder_touches {s : State} {n : Nat} {c : Context} (hc : s.context n = some c) (kind : OrderKind) :
    Touches s (s.askOrder n kind) n c.line := by
  unfold State.askOrder
  rw [hc]
  simp only
  repeat' split
  all_goals first
    | exact Touches.refl _ _ _
    | exact owe_touches _ _ _ _
    | exact (onLine_touches _ _ _ _).trans (chooseIfIdle_touches _ _ _)

/-- An order asked for leaves every report set alone. -/
theorem askOrder_context (s : State) (n : Nat) (kind : OrderKind) :
    ∃ o : Context → OwedOrders, (s.askOrder n kind).context n = (s.context n).map fun c => { c with owed := o c } := by
  have same : ∃ o : Context → OwedOrders, s.context n = (s.context n).map fun c => { c with owed := o c } :=
    ⟨fun c => c.owed, by cases s.context n <;> rfl⟩
  unfold State.askOrder
  split
  · exact same
  · simp only
    repeat' split
    all_goals first
      | exact same
      | exact ⟨_, State.context_onContext_self s n _ (by intro _; rfl)⟩
      | (rw [(chooseIfIdle_only _ _).context]; exact same)

theorem askOrder_marks (s : State) (n : Nat) (kind : OrderKind) : Marks n s (s.askOrder n kind) := by
  obtain ⟨o, h⟩ := askOrder_context s n kind
  exact ⟨fun c => c.reports, o, h⟩

theorem queueOwedKind_touches {s : State} {n : Nat} {c : Context} (hc : s.context n = some c) (kind : OrderKind) :
    Touches s (s.queueOwedKind n kind) n c.line := by
  unfold State.queueOwedKind
  rw [hc]
  simp only
  repeat' split
  all_goals first
    | exact Touches.refl _ _ _
    | exact onContext_touches _ _ _ (by intro _; rfl) _
    | exact (onContext_touches _ _ _ (by intro _; rfl) _).trans (onLine_touches _ _ _ _)

theorem queueOwedKind_context (s : State) (n : Nat) (kind : OrderKind) :
    ∃ o : Context → OwedOrders, (s.queueOwedKind n kind).context n = (s.context n).map fun c => { c with owed := o c } := by
  have same : ∃ o : Context → OwedOrders, s.context n = (s.context n).map fun c => { c with owed := o c } :=
    ⟨fun c => c.owed, by cases s.context n <;> rfl⟩
  unfold State.queueOwedKind
  split
  · exact same
  · simp only
    repeat' split
    all_goals first
      | exact same
      | exact ⟨_, State.context_onContext_self s n _ (by intro _; rfl)⟩

theorem queueOwed_context (s : State) (n : Nat) :
    ∃ o : Context → OwedOrders, (s.queueOwed n).context n = (s.context n).map fun c => { c with owed := o c } := by
  obtain ⟨a, ha⟩ := queueOwedKind_context s n .condition
  obtain ⟨b, hb⟩ := queueOwedKind_context (s.queueOwedKind n .condition) n .clock
  obtain ⟨c, hc⟩ := queueOwedKind_context ((s.queueOwedKind n .condition).queueOwedKind n .clock) n .result
  obtain ⟨d, hd⟩ := queueOwedKind_context
    (((s.queueOwedKind n .condition).queueOwedKind n .clock).queueOwedKind n .result) n .plate
  unfold State.queueOwed
  rw [hd, hc, hb, ha]
  cases s.context n with
  | none => exact ⟨fun c => c.owed, rfl⟩
  | some x => exact ⟨fun _ => d { x with owed := c { x with owed := b { x with owed := a x } } }, rfl⟩

theorem queueOwed_touches {s : State} {n : Nat} {c : Context} (hc : s.context n = some c) :
    Touches s (s.queueOwed n) n c.line := by
  have go (t : State) (kind : OrderKind) (d : Context) (hd : t.context n = some d) (hl : d.line = c.line) :
      Touches t (t.queueOwedKind n kind) n c.line ∧
        ∃ e, (t.queueOwedKind n kind).context n = some e ∧ e.line = c.line := by
    refine ⟨hl ▸ queueOwedKind_touches hd kind, ?_⟩
    obtain ⟨o, ho⟩ := queueOwedKind_context t n kind
    exact ⟨{ d with owed := o d }, by rw [ho, hd]; rfl, hl⟩
  obtain ⟨t1, c1, h1, l1⟩ := go s .condition c hc rfl
  obtain ⟨t2, c2, h2, l2⟩ := go _ .clock c1 h1 l1
  obtain ⟨t3, c3, h3, l3⟩ := go _ .result c2 h2 l2
  obtain ⟨t4, _⟩ := go _ .plate c3 h3 l3
  exact ((t1.trans t2).trans t3).trans t4

/-! ### Acts -/

theorem act_touches {s : State} {n : Nat} {c : Context} (hc : s.context n = some c) (f : Context → Context)
    (keeps : ∀ c, (f c).number = c.number) : Touches s (s.act n f) n (f c).line := by
  have h := onContext_touches s n f keeps (f c).line
  have hn : (s.onContext n f).context n = some (f c) := by
    rw [State.context_onContext_self s n f keeps, hc]; rfl
  unfold State.act
  simp only
  split
  · exact h
  · have hr : ((s.onContext n f).report n fun r => { r with condition := true }).context n =
        some { f c with reports := { (f c).reports with condition := true } } := by
      rw [report_context, hn]; rfl
    exact (h.trans (report_touches _ _ _ _)).trans (askOrder_touches hr .condition)

/-- What an act leaves of the terminal: the change, then CONDITION reported when the condition has changed. -/
theorem act_context {s : State} {n : Nat} {c : Context} (hc : s.context n = some c) (f : Context → Context)
    (keeps : ∀ c, (f c).number = c.number) :
    ∃ o, (s.act n f).context n =
      some { f c with
        reports := { (f c).reports with
          condition := (f c).reports.condition || decide ((f c).condition ≠ c.condition) }
        owed := o } := by
  have hn : (s.onContext n f).context n = some (f c) := by
    rw [State.context_onContext_self s n f keeps, hc]; rfl
  unfold State.act
  simp only [State.condition, hn, hc]
  split
  · rename_i h
    exact ⟨(f c).owed, by simp [h, hn]⟩
  · rename_i h
    obtain ⟨o, ho⟩ := askOrder_context ((s.onContext n f).report n fun r => { r with condition := true }) n .condition
    rw [ho, report_context, hn]
    exact ⟨o { f c with reports := { (f c).reports with condition := true } }, by simp [h]⟩

/-- An act that leaves the condition alone changes the context and nothing else. -/
theorem act_quiet {s : State} {n : Nat} {c : Context} (hc : s.context n = some c) (f : Context → Context)
    (keeps : ∀ c, (f c).number = c.number) (same : (f c).condition = c.condition) : s.act n f = s.onContext n f := by
  have hn : (s.onContext n f).context n = some (f c) := by
    rw [State.context_onContext_self s n f keeps, hc]; rfl
  simp [State.act, State.condition, hn, hc, same]

/-- The condition derived from a context looks at neither the report set nor the owed orders. -/
@[simp] theorem condition_marks (c : Context) (r : ReportSet) (o : OwedOrders) :
    ({ c with reports := r, owed := o } : Context).condition = c.condition := rfl

/-! ### Answers -/

theorem handAnswer_touches (s : State) (n request : Nat) (answer : Answer) {c : Context} (hc : s.context n = some c) :
    Touches s (s.handAnswer n request answer) n c.line := by
  unfold State.handAnswer
  rw [hc]
  simp only
  repeat' split
  all_goals first
    | exact Touches.refl _ _ _
    | exact onLine_touches _ _ _ _

theorem handAnswer_context (s : State) (n request : Nat) (answer : Answer) (m : Nat) :
    (s.handAnswer n request answer).context m = s.context m := (handAnswer_only s n request answer).context m

theorem finish_context (s : State) (n request : Nat) (answer : Answer) :
    (s.finish n request answer).context n = (s.context n).map fun c => { c with inFlight := none } := by
  unfold State.finish
  rw [handAnswer_context]
  exact State.context_onContext_self s n _ (by intro _; rfl)

theorem finish_touches {s : State} {n : Nat} {c : Context} (hc : s.context n = some c) (request : Nat) (answer : Answer) :
    Touches s (s.finish n request answer) n c.line := by
  have hn : (s.onContext n fun c => { c with inFlight := none }).context n = some { c with inFlight := none } := by
    rw [State.context_onContext_self s n _ (by intro _; rfl), hc]; rfl
  have hand := handAnswer_touches (s.onContext n fun c => { c with inFlight := none }) n request answer hn
  exact (onContext_touches s n _ (by intro _; rfl) c.line).trans hand

end Sys2Proof.Machine
end

