-- ==== Sys2Proof/Laws/Heard.lean ====
section
/-! SUPPORT. What a good frame does to its terminal (R125, R150), what placing a fare entry and beginning a directed entry leave
behind, in the terms claims use. -/

namespace Sys2Proof.Machine

open Sys2Proof

/-! ### SILENT -/

@[simp] theorem Context.heard_number (c : Context) : c.heard.number = c.number := rfl
@[simp] theorem Context.heard_line (c : Context) : c.heard.line = c.line := rfl
@[simp] theorem Context.heard_silent (c : Context) : c.heard.faults.silent = false := rfl
@[simp] theorem Context.heard_owed (c : Context) : c.heard.owed = c.owed := rfl
@[simp] theorem Context.unsilenced_number (c : Context) : c.unsilenced.number = c.number := rfl
@[simp] theorem Context.unsilenced_line (c : Context) : c.unsilenced.line = c.line := rfl
@[simp] theorem Context.unsilenced_owed (c : Context) : c.unsilenced.owed = c.owed := rfl
@[simp] theorem Context.unsilenced_condition (c : Context) : c.unsilenced.condition = c.heard.condition := rfl

theorem Context.heard_of_not_silent {c : Context} (h : c.faults.silent = false) : c.heard = c := by
  show { c with faults := { c.faults with silent := false } } = c
  rw [← h]

theorem Context.revived_of_not_silent {c : Context} (h : c.faults.silent = false) : c.revived = false := by
  simp [Context.revived, Context.heard_of_not_silent h]

theorem Context.unsilenced_of_not_silent {c : Context} (h : c.faults.silent = false) : c.unsilenced = c := by
  simp [Context.unsilenced, Context.revived_of_not_silent h, Context.heard_of_not_silent h]

/-- What a good frame leaves of the terminal: SILENT is gone, and a change of condition is reported. -/
theorem goodFrame_context {s : State} {n : Nat} {c : Context} (hc : s.context n = some c) (l : LineNo) :
    ∃ o, (s.goodFrame l n).context n = some { c.unsilenced with owed := o } := by
  have line : (s.onLine l fun L => { L with turnaround := true }).context n = some c := hc
  obtain ⟨o, h⟩ := act_context line Context.heard fun _ => rfl
  have changed : c.revived = decide (c.heard.condition ≠ c.condition) := by
    by_cases same : c.heard.condition = c.condition <;> simp [Context.revived, same]
  exact ⟨o, h.trans (by rw [← changed]; rfl)⟩

/-- A good frame from a terminal that is not SILENT restarts the turnaround and leaves its condition. -/
theorem goodFrame_quiet {s : State} {n : Nat} {c : Context} (hc : s.context n = some c) (h : c.faults.silent = false)
    (l : LineNo) :
    s.goodFrame l n = (s.onLine l fun L => { L with turnaround := true }).onContext n Context.heard :=
  act_quiet (s := s.onLine l _) hc Context.heard (fun _ => rfl) (congrArg Context.condition (Context.heard_of_not_silent h))

/-! ### Placing and beginning -/

theorem placeFare_eq (s : State) (entry : FareEntry) : s.placeFare entry = { s with fare := s.fareWith entry } := by
  unfold State.placeFare State.fareWith
  split <;> simp_all [State.beginFare, State.onFare]

/-- A directed entry's exchange begins with the frame read from its owner, a PLATE's with the chain of its copy. -/
theorem beginDirected_eq (s : State) (l : LineNo) (c : Context) (kind : OrderKind) :
    ∃ frame, s.carries c kind frame ∧
      s.beginDirected l c kind =
        (s.onLine l fun L => { L with chain := (s.chainOf c kind).or L.chain }).beginExchange l c frame := by
  have kept : s.onLine l (fun L => { L with chain := (none : Option Chain).or L.chain }) = s := by
    show { s with lines := s.lines.set l.val (s.lines.get l) } = s
    simp [Vector.get_eq_getElem]
  cases kind with
  | plate => exact ⟨_, rfl, rfl⟩
  | condition => exact ⟨_, rfl, by simp only [State.chainOf, kept]; rfl⟩
  | clock => exact ⟨_, rfl, by simp only [State.chainOf, kept]; rfl⟩
  | result => exact ⟨_, rfl, by simp only [State.chainOf, kept]; rfl⟩
  | message text => exact ⟨_, rfl, by simp only [State.chainOf, kept]; rfl⟩

end Sys2Proof.Machine
end

