-- ==== Sys2Proof/Laws/Link.lean ====
section
/-! SUPPORT. What a request does on a part that is ready, said once: the frame is accepted, the body is read, and either the
reply FIELD is handed over or the owner acts on the accepted state; and what handing over a reply leaves. -/

namespace Sys2Proof.Machine

open Sys2Proof

/-- The link of a state that is ready. -/
theorem State.ready_iff (s : State) :
    s.ready = true ↔
      s.mainSupply = true ∧ s.link.starting = false ∧ s.link.warmStartDue = false ∧ s.link.outstanding = none := by
  simp [State.ready, State.linkOpen, and_assoc]

/-- A frame accepted by a part that is ready (R169, R170). -/
theorem State.acceptFrame_ready {s : State} (h : s.ready = true) (tag kind : Byte) (take : State → State) :
    s.acceptFrame tag kind take = take (s.accepted tag kind) := by
  obtain ⟨h1, h2, h3, h4⟩ := s.ready_iff.mp h
  simp [State.acceptFrame, State.linkOpen, h1, h2, h3, h4, State.accepted, State.onLink, Link.accept]

/-- A request on a part that is ready (R170, R172, R185). -/
theorem State.request_ready {α : Type} {s : State} (h : s.ready = true) (tag : Byte) (kind : Nat)
    (read : State → Except Nat α) (act : α → State → State) :
    s.request tag kind read act =
      (s.accepted tag (BitVec.ofNat 8 kind)).owned (read (s.accepted tag (BitVec.ofNat 8 kind))) act :=
  State.acceptFrame_ready h _ _ _

@[simp] theorem State.owned_ok {α : Type} (s : State) (a : α) (act : α → State → State) :
    s.owned (.ok a) act = act a s := rfl

@[simp] theorem State.owned_error {α : Type} (s : State) (index : Nat) (act : α → State → State) :
    s.owned (.error index) act = s.reply (.field index) := rfl

/-- The reply of a state whose link has accepted a request, whatever else has changed since. -/
theorem State.reply_of_accept {s t : State} {tag kind : Byte} (h : t.link = s.link.accept tag kind) (body : ReplyBody) :
    t.reply body = { t with link := s.link.answered tag kind body } := by
  simp [State.reply, State.onLink, h, Link.accept, Link.answered]

/-- A reply handed over on the accepted state itself. -/
@[simp] theorem State.accepted_reply (s : State) (tag kind : Byte) (body : ReplyBody) :
    (s.accepted tag kind).reply body = s.replied tag kind body := rfl

@[simp] theorem State.accepted_done (s : State) (tag kind : Byte) (fields : DoneFields) :
    (s.accepted tag kind).done fields = s.replied tag kind (.done fields) := rfl

/-! ### The accepted state, field by field -/

@[simp] theorem State.accepted_clock (s : State) (tag kind : Byte) : (s.accepted tag kind).clock = s.clock := rfl
@[simp] theorem State.accepted_calendar (s : State) (tag kind : Byte) : (s.accepted tag kind).calendar = s.calendar := rfl
@[simp] theorem State.accepted_tariffs (s : State) (tag kind : Byte) : (s.accepted tag kind).tariffs = s.tariffs := rfl
@[simp] theorem State.accepted_fare (s : State) (tag kind : Byte) : (s.accepted tag kind).fare = s.fare := rfl
@[simp] theorem State.accepted_contexts (s : State) (tag kind : Byte) : (s.accepted tag kind).contexts = s.contexts := rfl
@[simp] theorem State.accepted_permits (s : State) (tag kind : Byte) : (s.accepted tag kind).permits = s.permits := rfl
@[simp] theorem State.accepted_cash (s : State) (tag kind : Byte) : (s.accepted tag kind).cash = s.cash := rfl
@[simp] theorem State.accepted_defaults (s : State) (tag kind : Byte) : (s.accepted tag kind).defaults = s.defaults := rfl
@[simp] theorem State.accepted_lines (s : State) (tag kind : Byte) : (s.accepted tag kind).lines = s.lines := rfl
@[simp] theorem State.accepted_link (s : State) (tag kind : Byte) :
    (s.accepted tag kind).link = s.link.accept tag kind := rfl
@[simp] theorem State.accepted_notices (s : State) (tag kind : Byte) : (s.accepted tag kind).notices = s.notices := rfl
@[simp] theorem State.accepted_attention (s : State) (tag kind : Byte) :
    (s.accepted tag kind).attention = s.attention := rfl
@[simp] theorem State.accepted_mainSupply (s : State) (tag kind : Byte) :
    (s.accepted tag kind).mainSupply = s.mainSupply := rfl
@[simp] theorem State.accepted_retentionHeld (s : State) (tag kind : Byte) :
    (s.accepted tag kind).retentionHeld = s.retentionHeld := rfl
@[simp] theorem State.accepted_elapsed (s : State) (tag kind : Byte) : (s.accepted tag kind).elapsed = s.elapsed := rfl
@[simp] theorem State.accepted_pending (s : State) (tag kind : Byte) : (s.accepted tag kind).pending = s.pending := rfl
@[simp] theorem State.accepted_line (s : State) (tag kind : Byte) (l : LineNo) :
    (s.accepted tag kind).line l = s.line l := rfl
@[simp] theorem State.accepted_context (s : State) (tag kind : Byte) (n : Nat) :
    (s.accepted tag kind).context n = s.context n := rfl
@[simp] theorem State.accepted_condition (s : State) (tag kind : Byte) (n : Nat) :
    (s.accepted tag kind).condition n = s.condition n := rfl
@[simp] theorem State.accepted_permit (s : State) (tag kind : Byte) (n : Nat) :
    (s.accepted tag kind).permit n = s.permit n := rfl
@[simp] theorem State.accepted_scanned (s : State) (tag kind : Byte) : (s.accepted tag kind).scanned = s.scanned := rfl
@[simp] theorem State.accepted_choices (s : State) (tag kind : Byte) : (s.accepted tag kind).choices = s.choices := rfl

end Sys2Proof.Machine
end

