-- ==== Sys2Proof/Laws/Permits.lean ====
section
/-! SUPPORT. What the steps of a PERMIT SCAN choose (R82, R86), said once, and what a reading of a record is. -/

namespace Sys2Proof.Machine
open Sys2Proof

/-- The records that lie before a scan that has made these choices (R86). -/
def aheadOf (records : List Permit) (first : Nat) (chosen : List PermitReading) : List Permit :=
  records.filter fun p =>
    match chosen.getLast? with
    | none => decide (first ≤ p.number)
    | some r => decide (r.record.number < p.number)

theorem nextToScan_eq (records : List Permit) (first : Nat) (chosen : List PermitReading) :
    nextToScan records first chosen = (aheadOf records first chosen).head? :=
  List.head?_filter.symm

/-- In an ordered table the records above the oldest one that lies ahead are the rest of those that do. -/
theorem aheadOf_append {records : List Permit} (h : (records.map (·.number)).Pairwise (· < ·)) {first : Nat}
    {chosen : List PermitReading} {p : Permit} {rest : List Permit} (hp : aheadOf records first chosen = p :: rest)
    (now : Instant) : aheadOf records first (chosen ++ [p.reading now]) = rest := by
  have hs : (p :: rest).Pairwise (fun a b => a.number < b.number) := by
    rw [← hp]; exact (List.pairwise_map.mp h).filter _
  have hm : p ∈ aheadOf records first chosen := by rw [hp]; exact List.mem_cons_self
  have key : aheadOf records first (chosen ++ [p.reading now]) =
      (aheadOf records first chosen).filter fun q => decide (p.number < q.number) := by
    unfold aheadOf at hm ⊢
    rw [List.filter_filter]
    refine List.filter_congr fun q _ => ?_
    have := List.of_mem_filter hm
    simp only [List.getLast?_append, List.getLast?_singleton, Option.some_or, Permit.reading]
    cases hc : chosen.getLast? with
    | none => simp_all; omega
    | some r => simp_all; omega
  rw [key, hp, List.filter_cons_of_neg (by simp), List.filter_eq_self.mpr]
  intro q hq
  simpa using (List.pairwise_cons.mp hs).1 q hq

/-- What the steps of a scan choose: the next records in ascending order, as they stand, up to the count. -/
theorem scanSteps_eq {records : List Permit} (h : (records.map (·.number)).Pairwise (· < ·)) (now : Instant)
    (first count steps : Nat) (chosen : List PermitReading) :
    scanSteps records now first count steps chosen =
      chosen ++ ((aheadOf records first chosen).take (min steps (count - chosen.length))).map (·.reading now) := by
  induction steps generalizing chosen with
  | zero => simp [scanSteps]
  | succ n ih =>
    rw [scanSteps, nextToScan_eq]
    cases ha : aheadOf records first chosen with
    | nil => simp
    | cons p rest =>
      simp only [List.head?_cons]
      split
      · rename_i hlt
        rw [ih, aheadOf_append h ha]
        obtain ⟨k, hk⟩ : ∃ k, count - chosen.length = k + 1 := ⟨count - chosen.length - 1, by omega⟩
        rw [show count - (chosen ++ [p.reading now]).length = k by simp; omega, hk, Nat.add_min_add_right]
        simp
      · rename_i hge
        simp [show count - chosen.length = 0 by omega]

/-- The choices a scan in progress has made once so many further steps are made. -/
theorem State.scanTo_eq {s : State} (h : s.permitsKept) {first count : Nat}
    (hw : s.permits.working = some (.scan first count)) (steps : Nat) :
    s.scanTo steps =
      s.scanned ++
        ((s.scanAhead first).take (min steps (count - s.scanned.length))).map (·.reading s.clock.now) := by
  unfold State.scanTo
  rw [hw]
  exact scanSteps_eq h _ _ _ _ _

/-- A reading taken now is one as R86 has it. -/
theorem State.readsAs_reading (s : State) (p : Permit) : s.readsAs p (p.reading s.clock.now) := by
  refine ⟨rfl, rfl, rfl, ?_⟩
  cases hl : p.lastSession with
  | none => simp [Permit.reading, Permit.running, hl]
  | some last =>
    simp only [Permit.reading, Permit.running, Clock.now, hl, Bool.or_eq_true, Bool.and_eq_true, beq_iff_eq,
      Option.some.injEq, exists_eq_left']
    exact or_congr decide_eq_true_iff (and_congr Iff.rfl decide_eq_true_iff)

end Sys2Proof.Machine
end

