-- ==== Sys2Proof/Laws/Sweep.lean ====
section
/-! SUPPORT. The sweep's taking of entries (R155 to R158) in the terms claims use: what one entry taken is, and what is found
at the drop of an entry that is passed over and of one that is polled. -/

namespace Sys2Proof.Machine

open Sys2Proof

/-- One entry taken, the leg apart. -/
theorem Line.takeEntry_eq (L : Line) (elapsed : Nat) :
    L.takeEntry elapsed = { L.taking 1 elapsed with leg := (L.takeEntry elapsed).leg } := by
  simp [Line.takeEntry, Line.taking, and_comm]

/-- The leg of a line that is not PACED is left as it is. -/
theorem Line.takeEntry_leg {L : Line} (h : L.settings.mode ≠ .paced) (elapsed : Nat) :
    (L.takeEntry elapsed).leg = L.leg := by
  simp [Line.takeEntry, h]

@[simp] theorem Line.taking_zero (L : Line) (elapsed : Nat) : L.taking 0 elapsed = L := by simp [Line.taking]

/-- Entries taken in two goes, the first of them from a position that the spec gives. -/
theorem Line.taking_add {L : Line} (h : 1 ≤ L.position) (a b elapsed : Nat) (ha : a ≠ 0) :
    (L.taking a elapsed).taking b elapsed = L.taking (a + b) elapsed := by
  have : L.position + a ≠ 1 := by omega
  simp [Line.taking, this, ha, Nat.add_assoc]

/-- The terminal found at the drop of an entry that is polled. -/
theorem State.atDrop_of_pollable {s : State} {l : LineNo} {record : List Nat} {drop : Nat} {c : Context}
    (h : s.pollable l record drop c) : s.atDrop l drop = some c := by
  obtain ⟨hm, hl, hd, hu, -⟩ := h
  obtain ⟨d, hf⟩ : ∃ d, s.atDrop l drop = some d :=
    Option.isSome_iff_exists.mp (List.find?_isSome.mpr ⟨c, hm, by simp [hl, hd]⟩)
  have hp := List.find?_some hf
  simp only [Bool.and_eq_true, beq_iff_eq] at hp
  rw [hf, hu d (List.mem_of_find?_eq_some hf) hp.1 hp.2]

/-- A terminal found at the drop of an entry that is passed over is SILENT and in the pass record. -/
theorem State.atDrop_of_passesOver {s : State} {l : LineNo} {record drops : List Nat} {drop : Nat} {c : Context}
    (h : s.passesOver l record drops) (hd : drop ∈ drops) (hc : s.atDrop l drop = some c) :
    c.faults.silent = true ∧ c.number ∈ record := by
  have hp := List.find?_some hc
  simp only [Bool.and_eq_true, beq_iff_eq] at hp
  exact h drop hd c (List.mem_of_find?_eq_some hc) hp.1 hp.2

end Sys2Proof.Machine
end

