-- ==== Sys2Proof/Laws/Withdrawal.lean ====
section
/-! SUPPORT. What a WITHDRAWN result does (R36, R68, R90), and what a rejected frame and the turnaround after it leave (R146),
said once. -/

namespace Sys2Proof.Machine

open Sys2Proof

/-! ### The WITHDRAWN result -/

@[simp] theorem FareEntry.withdrawnResult_outcome (e : FareEntry) : e.withdrawnResult.outcome = .withdrawn := rfl
@[simp] theorem FareEntry.withdrawnResult_kind (e : FareEntry) : e.withdrawnResult.kind = e.kind := rfl
@[simp] theorem FareEntry.withdrawnResult_returnTo (e : FareEntry) : e.withdrawnResult.returnTo = e.returnTo := rfl
@[simp] theorem Computation.result_outcome (c : Computation) :
    c.result.outcome = .walked c.copy.letter c.copy.version c.walk := rfl
@[simp] theorem Computation.result_kind (c : Computation) : c.result.kind = c.entry.kind := rfl
@[simp] theorem Computation.result_returnTo (c : Computation) : c.result.returnTo = c.entry.returnTo := rfl
@[simp] theorem Computation.result_zone (c : Computation) : c.result.zone = c.entry.zone := rfl
@[simp] theorem Computation.result_permit (c : Computation) : c.result.permit = c.entry.permit := rfl

/-- The entry of a request waits when some entry of the queue returns to it. -/
theorem State.fareWaits_eq_any (s : State) (n request : Nat) :
    s.fareWaits n request = s.fare.queue.any fun e => e.returnTo == .terminal n request := by
  rw [Bool.eq_iff_iff]
  simp [State.fareWaits, State.waitingFare, List.find?_isSome]

/-- A WITHDRAWN result removes the request in flight that it names, and does nothing else. -/
theorem takeTerminal_withdrawn {s : State} {n request : Nat} {c : Context} {flight : InFlight}
    (hc : s.context n = some c) (hf : c.inFlight = some flight) (hn : flight.number = request) {r : FareResult}
    (hr : r.outcome = .withdrawn) :
    s.takeTerminal n request r = s.onContext n fun c => { c with inFlight := none } := by
  simp [State.takeTerminal, hc, hf, hn, hr]

/-- So does any result of a request that is marked withdrawn (R68). -/
theorem takeTerminal_marked {s : State} {n request : Nat} {c : Context} {flight : InFlight}
    (hc : s.context n = some c) (hf : c.inFlight = some flight) (hn : flight.number = request)
    (hw : flight.withdrawn = true) (r : FareResult) :
    s.takeTerminal n request r = s.onContext n fun c => { c with inFlight := none } := by
  simp [State.takeTerminal, hc, hf, hn, hw]

/-- The removal of a QUOTE's or SALE's entry that waits (R36): the entry and the request in flight go. -/
theorem withdrawFare_of_waits {s : State} {n request : Nat} (hw : s.fareWaits n request = true) {c : Context}
    {flight : InFlight} (hc : s.context n = some c) (hf : c.inFlight = some flight) (hn : flight.number = request) :
    s.withdrawFare n request = (s.unqueueFare n request).onContext n fun c => { c with inFlight := none } := by
  obtain ⟨e, he⟩ := Option.isSome_iff_exists.mp hw
  have hc' : (s.unqueueFare n request).context n = some c := hc
  simp [State.withdrawFare, he, takeTerminal_withdrawn hc' hf hn e.withdrawnResult_outcome]

/-- The same of a SESSION's walk, whose claim is cleared (R36, R90). -/
theorem withdrawWalk_of_waits {s : State} {n request : Nat} (hw : s.fareWaits n request = true) {c : Context}
    {flight : InFlight} (hc : s.context n = some c) (hf : c.inFlight = some flight) (hn : flight.number = request) :
    s.withdrawWalk n request = (s.unqueueFare n request).withdrawn n request := by
  obtain ⟨e, he⟩ := Option.isSome_iff_exists.mp hw
  have hc' : (s.unqueueFare n request).scanAlong.context n = some c := hc
  simp [State.withdrawWalk, State.takeClaimed, State.withdrawn, he,
    takeTerminal_withdrawn hc' hf hn e.withdrawnResult_outcome]

/-- With no entry that waits the engine does nothing (R36). -/
theorem withdraw_of_not_waits {s : State} {n request : Nat} (hw : s.fareWaits n request = false) :
    s.withdrawFare n request = s ∧ s.withdrawWalk n request = s := by
  have he : s.waitingFare n request = none := by simpa [State.fareWaits] using hw
  simp [State.withdrawFare, State.withdrawWalk, he]

/-! ### A rejected frame and the turnaround after it (R146) -/

theorem noReply_of_tries {s : State} {l : LineNo} {e : Exchange} (h : e.triesUsed < e.triesAllowed) (again : Line → Line) :
    s.noReply l e again = s.onLine l again := if_pos h

theorem noReply_of_no_tries {s : State} {l : LineNo} {e : Exchange} (h : e.triesAllowed ≤ e.triesUsed)
    (again : Line → Line) : s.noReply l e again = s.failExchange l e := if_neg (Nat.not_lt.mpr h)

@[simp] theorem Exchange.awaitResend_exchange (e : Exchange) (L : Line) :
    (e.awaitResend L).exchange = some { e with phase := .receive } := rfl
@[simp] theorem Exchange.awaitResend_turnaround (e : Exchange) (L : Line) : (e.awaitResend L).turnaround = L.turnaround := rfl
@[simp] theorem Exchange.awaitResend_state (e : Exchange) (L : Line) : (e.awaitResend L).state = L.state := rfl

/-- The turnaround changes the phase of no exchange but one in RECEIVE. -/
@[simp] theorem Exchange.afterTurnaround_of_ne {e : Exchange} (h : e.phase ≠ .receive) : e.afterTurnaround = e := if_neg h

theorem Exchange.afterTurnaround_of_receive {e : Exchange} (h : e.phase = .receive) :
    e.afterTurnaround = { e with phase := .send } := if_pos h

/-- The exchange that a rejected frame left in RECEIVE is in SEND once the turnaround has passed, its next try used. -/
theorem turnaroundOver_resends {s : State} {l : LineNo} {e : Exchange} (he : (s.line l).exchange = some e)
    (hp : e.phase = .receive) (ht : (s.line l).turnaround = true) :
    ∃ L : Line, s.turnaroundOver l = s.onLine l (fun _ => L) ∧ L.turnaround = false ∧ L.driving = true ∧
      L.exchange = some { e with phase := .send, triesUsed := e.triesUsed + 1 } :=
  ⟨_, by simp only [State.turnaroundOver, ht, if_true]; rfl, by
    simp [he, Line.transmit, Exchange.afterTurnaround_of_receive hp]⟩

end Sys2Proof.Machine
end

