-- ==== Sys2Proof/Tests/Slice0.lean ====
section
/-! SUPPORT. Tests on small states: ill-formed commands, frames written out byte by byte, the spec's worked cases one step at a
time, and for every statement with hypotheses a state and operands that meet them. Each expected value is the spec's. -/

namespace Sys2Proof.Tests

open Sys2Proof Sys2Proof.Machine

/-- One field of the state after a command. -/
def probe {α : Type} (i : Instr) (s : State) (field : State → α) : Option α :=
  match exec i s with
  | .next t => some (field t)
  | .fault _ => none
  | .refused _ => none

/-- What the link is sending. -/
def said (t : State) : Option ReplyBody := t.link.sending.map (·.body)

/-! ## Well-formedness -/

theorem test_wf_long_body : Instr.wf (.clockSet 0 (List.replicate 241 0)) = false := by decide +kernel
theorem test_wf_full_body : Instr.wf (.tariffPut 0 (List.replicate 240 0)) = true := by decide +kernel
theorem test_wf_other_order : Instr.wf (.suspend 0 [4, 3]) = false := by decide
theorem test_wf_no_order_byte : Instr.wf (.endCollection 0 [4]) = false := by decide
theorem test_wf_known_kind : Instr.wf (.unknownKind 0 46) = false := by decide
theorem test_wf_kind_past_the_last : Instr.wf (.unknownKind 0 47) = true := by decide
theorem test_wf_drop_zero : Instr.wf (.idle 0 0) = false := by decide
theorem test_wf_drop_33 : Instr.wf (.quote 0 33 1 [0, 0, 2, 0]) = false := by decide
theorem test_wf_long_frame : Instr.wf (.sale 0 5 87 (List.replicate 79 0)) = false := by decide
theorem test_wf_long_ack : Instr.wf (.ack 0 5 (List.replicate 81 0)) = false := by decide
theorem test_wf_referral_zero : Instr.wf (.referralDeadlineExpiry 0) = false := by decide

/-! ## Codings, checks and frames (R181 to R184) -/

/-- R181's own example: 390 pence. -/
theorem test_money : toMoney 390 = [0x00, 0x00, 0x03, 0x90] := by decide
theorem test_money_read : packed [0x00, 0x00, 0x03, 0x90] = some 390 := by decide
theorem test_packed_bad_half_byte : packed [0x0A] = none := by decide
theorem test_binary : binary [0x03, 0xEA] = 1002 := by decide
/-- The published check value of this code (all ones, not inverted, most significant bit first) over the digits 1 to 9. -/
theorem test_check : frameCheck [0x31, 0x32, 0x33, 0x34, 0x35, 0x36, 0x37, 0x38, 0x39] = 0x29B1#16 := by decide +kernel
theorem test_clock_get_frame :
    linkCommand ([0xA5, 0, 7, 2] ++ toBinary 2 (frameCheck [0, 7, 2]).toNat) = some (.clockGet 7 []) := by decide +kernel
theorem test_suspend_frame :
    linkCommand ([0xA5, 2, 9, 17, 12, 2] ++ toBinary 2 (frameCheck [2, 9, 17, 12, 2]).toNat) =
      some (.suspend 9 [12, 2]) := by decide +kernel
theorem test_unknown_kind_frame :
    linkCommand ([0xA5, 0, 9, 47] ++ toBinary 2 (frameCheck [0, 9, 47]).toNat) = some (.unknownKind 9 47) := by decide +kernel
theorem test_wrong_check : linkCommand [0xA5, 0, 7, 2, 0, 0] = some .linkFrameDiscarded := by decide +kernel
theorem test_length_241 : linkCommand [0xA5, 241] = some .linkFrameDiscarded := by decide
theorem test_unfinished_frame : linkCommand [0xA5, 0, 7] = none := by decide
/-- A SALE of two 200 p coins at drop 5, request 87 (R184). -/
theorem test_sale_frame :
    lineCommand 0 ([0x5A, 5, 8, 18, 2, 87, 0, 0, 0, 0, 0, 2] ++
      toBinary 2 (frameCheck [5, 8, 18, 2, 87, 0, 0, 0, 0, 0, 2]).toNat) = .sale 0 5 87 [0, 0, 0, 0, 0, 2] := by decide +kernel
/-- DOOR OPEN with code 314159, event 202 (R74, R183). -/
theorem test_door_open_frame :
    lineCommand 1 ([0x5A, 6, 6, 19, 202, 1, 1, 0x31, 0x41, 0x59] ++
      toBinary 2 (frameCheck [6, 6, 19, 202, 1, 1, 0x31, 0x41, 0x59]).toNat) =
      .doorOpen 1 6 202 [1, 0x31, 0x41, 0x59] := by decide +kernel
theorem test_door_open_code : readDoorOpen [1, 0x31, 0x41, 0x59] = some (.doorOpen (some 314159)) := by decide
theorem test_door_open_bad_presence : readDoorOpen [2, 0x31, 0x41, 0x59] = none := by decide
theorem test_sale_of_seven_bytes : readSale [0, 0, 0, 0, 0, 2, 0] = none := by decide
theorem test_sale_without_coins : readSale [0, 0, 0, 0, 0, 0] = some none := by decide
theorem test_ticket_is_30_bytes (t : Ticket) : t.bytes.length = 30 := by rfl
theorem test_lifted_is_27_bytes (r : Lifted) : r.bytes.length = 27 := by rfl

/-! ## The tariff of the fare cases -/

def tariff3 : ZoneTariff :=
  { weekday := [⟨480, 1110, 30, 6⟩, ⟨1110, 1200, 50, 15⟩], saturday := [], sunday := [], special := [],
    minimumCharge := 60, maximumStay := 240, residentCap := some 120 }

/-- The tariff of the Sunday-market zone. -/
def tariff5 : ZoneTariff :=
  { weekday := [], saturday := [], sunday := [⟨600, 720, 100, 20⟩], special := [], minimumCharge := 0, maximumStay := 180,
    residentCap := none }

/-- A computation under a tariff from a minute of a day. -/
def under (kind : FareKind) (budget : Budget) (t : ZoneTariff) (day minute : Nat) (today tomorrow : DayType) : Computation :=
  { entry := { kind := kind, budget := budget, zone := 3, bank := .active, start := none, returnTo := .terminal 4 87,
               permit := none }
    copy := { letter := .a, version := 41, tariff := some t }
    start := { day := day, minute := minute }
    dayType := today
    nextDayType := some tomorrow
    horizon := { day := day + 2, minute := 0 } }

/-- Case A. -/
def figuresA : Figures :=
  { start := ⟨1002, 1067⟩, chargeableStart := ⟨1002, 1067⟩, expiry := ⟨1002, 1155⟩, minutes := 88, walkCost := 390, charged := 390, unused := 10,
    freeStart := false, ending := .money, segments := none }

theorem test_case_a : (under .sale (.money 400) tariff3 1002 1067 .weekday .weekday).walk = .computed figuresA := by decide +kernel

/-- The segment list of case A. -/
def segmentsA : List Segment := [⟨⟨1002, 1067⟩, 43, 240⟩, ⟨⟨1002, 1110⟩, 45, 150⟩]

/-- R49, R55: only a TRIAL's result has a segment list. -/
theorem test_case_a_as_a_trial :
    (under .trial (.money 400) tariff3 1002 1067 .weekday .weekday).walk =
      .computed { figuresA with segments := some segmentsA } := by decide +kernel

theorem test_case_b :
    (under .sale (.money 1500) tariff3 1002 610 .weekday .weekday).walk =
      .computed { start := ⟨1002, 610⟩, chargeableStart := ⟨1002, 610⟩, expiry := ⟨1002, 850⟩, minutes := 240, walkCost := 1200, charged := 1200,
                  unused := 300, freeStart := false, ending := .maxStay, segments := none } := by
  decide +kernel

theorem test_case_c :
    (under .sale (.money 100) tariff3 1002 1240 .weekday .weekday).walk =
      .computed { start := ⟨1002, 1240⟩, chargeableStart := ⟨1003, 480⟩, expiry := ⟨1003, 498⟩, minutes := 18, walkCost := 90, charged := 90,
                  unused := 10, freeStart := true, ending := .money, segments := none } := by decide +kernel

theorem test_case_d :
    (under .session (.minutes 90) tariff3 1002 1080 .weekday .weekday).walk =
      .computed { start := ⟨1002, 1080⟩, chargeableStart := ⟨1002, 1080⟩, expiry := ⟨1002, 1170⟩, minutes := 90, walkCost := 0, charged := 0,
                  unused := 0, freeStart := false, ending := .budget,
                  segments := none } := by decide +kernel

theorem test_case_e :
    (under .sale (.money 70) tariff3 1002 1125 .weekday .weekday).walk =
      .computed { start := ⟨1002, 1125⟩, chargeableStart := ⟨1002, 1125⟩, expiry := ⟨1002, 1140⟩, minutes := 15, walkCost := 50, charged := 60,
                  unused := 10, freeStart := false, ending := .money, segments := none } := by decide +kernel

theorem test_trial_horizon :
    (under .trial (.money 1000) tariff5 1006 1000 .saturday .sunday).walk =
      .computed { start := ⟨1006, 1000⟩, chargeableStart := ⟨1007, 600⟩, expiry := ⟨1007, 720⟩, minutes := 120, walkCost := 600, charged := 600,
                  unused := 400, freeStart := true, ending := .horizon, segments := some [⟨⟨1007, 600⟩, 120, 600⟩] } := by decide +kernel

theorem test_trial_insufficient :
    (under .trial (.money 80) tariff5 1007 660 .sunday .weekday).walk = .insufficient ⟨1007, 660⟩ := by decide

theorem test_trial_free_parking :
    (under .trial (.money 500) tariff5 1007 750 .sunday .weekday).walk = .freeParking ⟨1007, 750⟩ := by decide

/-- R41: a start at day 65,535, minute 1,439. -/
theorem test_last_minute_is_free :
    ({ under .sale (.money 400) tariff3 65535 1439 .weekday .weekday with
        nextDayType := none, horizon := horizonEnd 65535 } : Computation).walk = .freeParking ⟨65535, 1439⟩ := by decide

/-! ## States -/

def bankA : Bank := { slots := (Vector.replicate 16 none).set 3 (some tariff3), version := 41 }
def bankB : Bank := { slots := (Vector.replicate 16 none).set 15 (some tariff5), version := 40 }

/-- Terminal 4 of the worked sale: line 0, drop 5, zone 3. -/
def term4 : Context :=
  { number := 4, line := 0, drop := 5, zone := 3, boxCapacity := 3000, paperCapacity := 1000, paperRemaining := 412,
    override := none, faults := .empty, suspended := false, collection := none, serial := 1317,
    last := some (86, { terminal := 4, serial := 1317, zone := 3, start := ⟨1002, 600⟩, expiry := ⟨1002, 640⟩, charged := 200,
                        unused := 0, minutes := 40, version := 41, freeStart := false, maxStay := false, horizon := false,
                        tariffChanged := false, resident := false, permit := none })
    lastEvent := some 200
    events := [⟨198, .coinPathOk, ⟨1002, 60000⟩⟩, ⟨199, .printerOk, ⟨1002, 60010⟩⟩, ⟨200, .doorClosed, ⟨1002, 60020⟩⟩]
    reports := { condition := false, events := true, held := false, plate := false }
    owed := .none, plateVersion := some 41, inFlight := none, referral := none, held := none, errors := .zero
    tally := { coins := { p5 := 0, p10 := 0, p20 := 500, p50 := 606, p100 := 500, p200 := 298 }, coinTotal := 1904,
               penceTotal := 143270 } }

/-- The exchange that polls terminal 4, waiting for its reply. -/
def poll4 : Exchange :=
  { terminal := 4, drop := 5, frame := .poll, triesAllowed := 3, triesUsed := 1, phase := .window, taken := none,
    answer := none }

def asked (sent : SentFrame) : Exchange := { poll4 with frame := sent }

/-- A line in an exchange. -/
def inExchange (e : Exchange) : Line :=
  { Line.cold with state := .awaitReply, exchange := some e, pollList := [5], position := 2, pass := .running,
                   passRecord := [4], madeExchange := true }

/-- The part of the worked sale with line 0 as given: day 1,002, 17:47, zone 3 of bank A. -/
def at1747 (L : Line) (c : Context) : State :=
  { State.reset with
    clock := { day := 1002, second := 64020, valid := true }
    tariffs := { bankA := bankA, bankB := bankB, active := .a, schedule := none }
    contexts := [c]
    lines := (Vector.replicate 4 .cold).set 0 L
    notices := [{ kind := .terminal 4, count := 1 }]
    attention := true }

/-- Line 0 STOPPED. -/
def rested : State := at1747 Line.cold term4
/-- Line 0 waits for terminal 4's reply to a POLL. -/
def polled : State := at1747 (inExchange poll4) term4

/-! ## Clock and Calendar -/

theorem test_clock_get_reads :
    probe (.clockGet 1 []) rested said = some (some (.done (.clock 1002 64020 true 1 .weekday))) := by decide
theorem test_clock_set_out_of_range :
    probe (.clockSet 1 (toBinary 2 0 ++ toBinary 3 86400)) State.reset said = some (some (.field 2)) := by decide
/-- R2: the last second of day 65,535 is held. -/
theorem test_clock_holds :
    probe .secondsEvent { State.reset with clock := { day := 65535, second := 86399, valid := true } } State.clock =
      some { day := 65535, second := 86399, valid := true } := by decide
theorem test_day_begins :
    probe .secondsEvent { State.reset with clock := { day := 7, second := 86399, valid := false } } State.clock =
      some { day := 8, second := 0, valid := false } := by decide
/-- The worked clock step: the switchover is carried out and the counter restarts. -/
theorem test_clock_set_passes_a_switchover :
    probe (.clockSet 1 (toBinary 2 1001 ++ toBinary 3 22500))
      { rested with
        clock := { day := 1001, second := 20000, valid := true }
        tariffs := { rested.tariffs with schedule := some ⟨1001, 360⟩ } }
      (fun t => (t.tariffs.active, t.tariffs.schedule, (t.tariffs.bank .b).version)) = some (.b, none, 42) := by decide
theorem test_calendar_put_full :
    probe (.calendarPut 1 [0, 200, 3])
      { State.reset with calendar := (List.range 64).map fun n => { day := n, type := .special } } said =
      some (some .full) := by decide
theorem test_calendar_drop_no_such : probe (.calendarDrop 1 [0, 5]) State.reset said = some (some .noSuch) := by decide
theorem test_calendar_list_from :
    probe (.calendarList 1 [0, 5]) { State.reset with calendar := [⟨4, .sunday⟩, ⟨5, .special⟩] } said =
      some (some (.done (.calendar [⟨5, .special⟩]))) := by decide
theorem test_pace_counter_returns :
    probe .secondsEvent (rested.onLine 2 fun L => { L with paceCounter := 9 }) (fun t => (t.line 2).paceCounter) =
      some 0 := by decide

/-! ## Tariff banks -/

/-- The worked revision: the second WEEKDAY band starts before the first one ends, index 15. -/
theorem test_tariff_put_overlap :
    probe (.tariffPut 1 (66 :: 3 :: { tariff3 with weekday := [⟨480, 1110, 40, 6⟩, ⟨1100, 1320, 60, 15⟩] }.bytes)) rested said =
      some (some (.field 15)) := by decide
theorem test_tariff_put_active :
    probe (.tariffPut 1 (65 :: 3 :: tariff3.bytes)) rested said = some (some .state) := by decide
theorem test_tariff_put_staged :
    probe (.tariffPut 1 (66 :: 3 :: tariff3.bytes)) rested (fun t => (t.tariffs.copy .b 3).tariff) =
      some (some tariff3) := by decide
theorem test_tariff_drop :
    probe (.tariffDrop 1 [66, 15]) rested (fun t => (t.tariffs.copy .b 15).tariff) = some none := by decide
theorem test_tariff_get :
    probe (.tariffGet 1 [66, 3]) rested said = some (some (.done (.tariff .a 40 none none))) := by decide
theorem test_bank_copy_keeps_the_version :
    probe (.bankCopy 1 []) rested (fun t => t.tariffs.copy .b 3) =
      some { letter := .b, version := 40, tariff := some tariff3 } := by decide
theorem test_switch_at_now :
    probe (.switchAt 1 (toBinary 2 1002 ++ toBinary 2 1067)) rested said = some (some (.field 2)) := by decide
theorem test_switch_at_yesterday :
    probe (.switchAt 1 (toBinary 2 1001 ++ toBinary 2 1439)) rested said = some (some (.field 1)) := by decide
theorem test_switch_now_versions :
    probe (.switchNow 1 []) rested (fun t => (t.tariffs.active, (t.tariffs.bank .a).version, (t.tariffs.bank .b).version)) =
      some (.b, 41, 42) := by decide
theorem test_switch_now_invalid : probe (.switchNow 1 []) State.reset said = some (some .state) := by decide
theorem test_switch_cancel_empty : probe (.switchCancel 1 []) State.reset said = some (some .noSuch) := by decide

/-! ## The Fare Engine and commits -/

theorem test_fare_trial_begins :
    probe (.fareTrial 1 ([0, 3] ++ toBinary 2 1002 ++ toBinary 2 1067 ++ [0] ++ toMoney 400)) rested
      (fun t => t.fare.computing.map (·.walk)) = some (some (.computed { figuresA with segments := some segmentsA })) := by decide +kernel
theorem test_fare_trial_bad_budget_kind :
    probe (.fareTrial 1 [0, 3, 0, 0, 0, 0, 2]) rested said = some (some (.field 5)) := by decide

/-- SALE 87 of two 200 p coins at terminal 4, being computed. -/
def selling : State :=
  let flight : InFlight :=
    { kind := .sale { Coins.zero with p200 := 2 } none, number := 87, withdrawn := false }
  { at1747 { inExchange { poll4 with phase := .engine, taken := some (.request 87 (some (.sale { Coins.zero with p200 := 2 } none))) } with
      state := .awaitEngine } { term4 with inFlight := some flight } with
    fare := { queue := [], computing := some (under .sale (.money 400) tariff3 1002 1067 .weekday .weekday) } }

/-- The worked sale: serial, tally and paper. -/
theorem test_sale_commits :
    probe .computationComplete selling
      (fun t => (t.context 4).map fun c => (c.serial, c.tally.coinTotal, c.tally.penceTotal, c.paperRemaining)) =
      some (some (1318, 1906, 143670, 411)) := by decide
theorem test_sale_is_answered :
    probe .computationComplete selling
      (fun t => ((t.line 0).exchange.bind (·.answer)).map fun a => (a.1, match a.2 with | .ticket k => k.charged | _ => 0)) =
      some (some (87, 390)) := by decide
/-- The worked suspension meeting a commit: a SUSPENDED terminal refuses the sale. -/
theorem test_suspended_sale_refused :
    probe .computationComplete (selling.onContext 4 fun c => { c with suspended := true })
      (fun t => ((t.line 0).exchange.bind (·.answer), (t.context 4).map (·.serial))) =
      some (some (87, .refused .notInService), some 1317) := by decide

/-! ## Terminal contexts -/

theorem test_terminal_set_creates :
    probe (.terminalSet 1 ([9, 1, 7, 3] ++ toBinary 2 1000 ++ toBinary 2 500)) State.reset
      (fun t => (t.context 9).map fun c => (c.paperRemaining, c.owed, c.reports.condition)) =
      some (some (500, { condition := true, clock := true, result := false, plate := true }, true)) := by decide
theorem test_terminal_set_duplicate :
    probe (.terminalSet 1 ([9, 0, 5, 3] ++ toBinary 2 1000 ++ toBinary 2 500)) rested said = some (some .duplicate) := by
  decide
theorem test_terminal_remove_with_coins : probe (.terminalRemove 1 [4]) rested said = some (some .state) := by decide
theorem test_terminal_get_unconfigured :
    probe (.terminalGet 1 [9, 0]) rested said = some (some (.done .unconfigured)) := by decide
theorem test_suspend : probe (.suspend 1 [4, 2]) rested (fun t => t.condition 4) = some .suspended := by decide
theorem test_resume_not_suspended : probe (.resume 1 [4, 3]) rested said = some (some .state) := by decide
theorem test_end_collection_outside : probe (.endCollection 1 [4, 1]) rested said = some (some .state) := by decide
theorem test_message_on_a_stopped_line : probe (.message 1 [4, 4, 65]) rested said = some (some .state) := by decide
theorem test_message_queued :
    probe (.message 1 [4, 4, 65]) polled (fun t => (t.line 0).directed) =
      some [{ terminal := 4, kind := .message [65] }] := by decide

/-! ## Permits -/

/-- Permit 40,117,022 of the worked referral. -/
def fields : PermitFields :=
  { number := 40117022, zones := 0x0018, validFrom := 900, validTo := 1300, status := .active, allowance := 180 }

def fieldBytes : List Byte :=
  toPacked 4 40117022 ++ [0x00, 0x18] ++ toBinary 2 900 ++ toBinary 2 1300 ++ [0] ++ toBinary 2 180

def ask : Lookup := { terminal := 4, request := 15, permit := 40117022, minutes := 90, zone := 3 }

/-- A LOOKUP of that permit in progress, the record there. -/
def looking : State :=
  { at1747 { inExchange { poll4 with phase := .engine, taken := some (.request 15 (some (.session 40117022 90))) } with
      state := .awaitEngine } { term4 with inFlight := some { kind := .session, number := 15, withdrawn := false } } with
    permits := { State.reset.permits with records := [fields.record], working := some (.lookup ask false) } }

theorem test_permit_load_begins :
    probe (.permitLoad 1 (1 :: fieldBytes)) State.reset (fun t => t.permits.working) =
      some (some (.load [fields] 0 0)) := by decide
theorem test_permit_load_bad_zones :
    probe (.permitLoad 1 (1 :: toPacked 4 40117022 ++ [0, 0] ++ (fieldBytes.drop 6))) State.reset said =
      some (some (.field 3)) := by decide
theorem test_record_insertion :
    probe .recordInsertion
      { State.reset with permits := { State.reset.permits with working := some (.load [fields] 0 0) } }
      (fun t => t.permits.records) = some [fields.record] := by decide
theorem test_permit_change_no_such :
    probe (.permitChange 1 (toPacked 4 5 ++ [0, 0, 0, 0, 0, 0])) State.reset (fun t => t.permits.working) =
      some (some (.settled .noSuch)) := by decide
theorem test_permit_drop :
    probe (.permitDrop 1 (toPacked 4 40117022)) { looking with permits := { looking.permits with working := none } }
      (fun t => t.permits.records) = some [] := by decide
theorem test_permit_get :
    probe (.permitGet 1 (toPacked 4 40117022)) { looking with permits := { looking.permits with working := none } }
      (fun t => t.permits.working) =
      some (some (.settled (.done (.permit { record := fields.record, effectiveUsed := 0, remaining := 180, running := false })))) := by
  decide
theorem test_permit_scan_ends :
    probe .permitOperationComplete
      { looking with
        permits := { looking.permits with working := some (.scan 1 5) }
        link := State.reset.link.accept 9 22 } said =
      some (some (.done (.scan [{ record := fields.record, effectiveUsed := 0, remaining := 180, running := false }] false))) := by
  decide
/-- R82, R86: a scan that asks for one of two records says MORE, and goes on above the last one it chose. -/
theorem test_permit_scan_more :
    probe .permitOperationComplete
      { looking with
        permits := { looking.permits with
          working := some (.scan 1 1), records := [fields.record, { fields.record with number := 40117023 }] }
        link := State.reset.link.accept 9 22 } said =
      some (some (.done (.scan [{ record := fields.record, effectiveUsed := 0, remaining := 180, running := false }] true))) := by
  decide
theorem test_completion_replies :
    probe .permitOperationComplete
      { State.reset with
        permits := { State.reset.permits with working := some (.settled .noSuch) }
        link := State.reset.link.accept 9 20 } said = some (some .noSuch) := by decide
/-- The worked session: the smallest of 90, 180 and 120. -/
theorem test_lookup_places_the_walk :
    probe .lookupComplete looking (fun t => t.fare.computing.map (·.entry.budget)) = some (some (.minutes 90)) := by decide
theorem test_lookup_refers :
    probe .lookupComplete
      { looking with
        permits := { looking.permits with records := [], referralEnabled := true, lastReferral := 6 } }
      (fun t => ((t.context 4).bind (·.referral), t.notices.map (·.kind))) =
      some (some { referral := 7, request := 15 }, [.terminal 4, .referrals]) := by decide

def referral7 : Referral :=
  { number := 7, terminal := 4, request := 14, permit := 40117022, minutes := 90, arrival := ⟨1002, 32405⟩, deadline := 20,
    decision := none, detached := false }

/-- Referral 7 waits for terminal 4. -/
def referred : State :=
  { at1747 Line.cold { term4 with referral := some { referral := 7, request := 14 } } with
    permits := { State.reset.permits with referrals := [referral7], lastReferral := 7, referralEnabled := true } }

theorem test_referral_list_seconds :
    probe (.referralList 1 []) { referred with elapsed := 11 } said =
      some (some (.done (.referrals [{ referral := referral7, secondsLeft := 9 }]))) := by decide
theorem test_referral_set_range : probe (.referralSet 1 [1, 61]) State.reset said = some (some (.field 2)) := by decide
theorem test_deadline_refuses :
    probe (.referralDeadlineExpiry 7) referred (fun t => ((t.context 4).bind (·.held), t.permits.referrals)) =
      some (some { referral := 7, request := 14, outcome := .refusal .permitUnknown }, []) := by decide
/-- The worked late answer. -/
theorem test_late_answer :
    probe (.referralAnswer 1 ([7, 1, 0, 0] ++ fieldBytes)) State.reset (fun t => t.permits.working) =
      some (some (.settled .tooLate)) := by decide
theorem test_grant_once_walks :
    probe (.referralAnswer 1 [7, 0, 0, 60]) referred (fun t => t.fare.computing.map (·.entry.budget)) =
      some (some (.minutes 60)) := by decide

/-! ## Cash accounts -/

/-- Terminal 5 of the worked round. -/
def term5 : Context :=
  { term4 with
    number := 5, drop := 6, events := []
    faults := { FaultSet.empty with boxFull := true, boxNearFull := true }
    tally := { coins := { p5 := 280, p10 := 420, p20 := 606, p50 := 700, p100 := 500, p200 := 300 }, coinTotal := 2806,
               penceTotal := 162720 } }

def round17 (entries : List RoundEntry) : Round := { number := 17, code := 314159, isOpen := true, entries := entries }

/-- Line 0 waits for terminal 5, listed in round 17. -/
def collecting (c : Context) (entry : EntryState) : State :=
  { at1747 (inExchange { poll4 with terminal := 5, drop := 6 }) c with
    notices := [{ kind := .terminal 5, count := 1 }]
    cash := { State.reset.cash with
      rounds := [round17 [{ terminal := 4, state := .due }, { terminal := 5, state := entry }]], lastLifted := 300,
      lastRound := 17 } }

theorem test_door_open_authorised :
    probe (.doorOpen 0 6 201 [1, 0x31, 0x41, 0x59]) (collecting term5 .due)
      (fun t => (t.condition 5, (t.cash.roundOf 5).bind (·.entryState 5))) =
      some (.inCollection, some .opened) := by decide
theorem test_door_open_wrong_code :
    probe (.doorOpen 0 6 201 [1, 0x31, 0x41, 0x58]) (collecting term5 .due)
      (fun t => (t.context 5).map fun c => (c.faults.forcedDoor, c.collection)) = some (some (true, none)) := by decide
theorem test_box_replaced_record :
    probe (.boxReplaced 0 6 202 []) (collecting { term5 with collection := some 17 } .opened)
      (fun t => t.cash.lifted.map fun r => (r.number, r.round, r.expected, r.unscheduled)) =
      some [(301, some 17, 162720, false)] := by decide
theorem test_box_replaced_empties :
    probe (.boxReplaced 0 6 202 []) (collecting { term5 with collection := some 17 } .opened)
      (fun t => (t.context 5).map fun c => (c.tally, c.faults.boxFull)) = some (some (.empty, false)) := by decide
theorem test_door_closed_ends :
    probe (.doorClosed 0 6 203 []) (collecting { term5 with collection := some 17 } .lifted)
      (fun t => (t.context 5).map (·.collection)) = some (some none) := by decide

def record301 : Lifted :=
  { number := 301, terminal := 5, round := some 17, coins := term5.tally.coins, expected := 162720, lifted := ⟨1012, 36872⟩,
    unscheduled := false, merged := false }

/-- The counting room: 220 p short. -/
theorem test_count_enter_difference :
    probe (.countEnter 1 (toBinary 2 301 ++ toMoney 162500))
      { State.reset with cash := { State.reset.cash with lifted := [record301] } } said =
      some (some (.done (.counted (-220) 162500 record301))) := by decide
theorem test_lift_list_ends :
    probe (.liftList 1 (toBinary 2 300)) { State.reset with cash := { State.reset.cash with lifted := [record301] } } said =
      some (some (.done (.lifts [record301] false))) := by decide
theorem test_round_open_twice : probe (.roundOpen 1 [0x31, 0x41, 0x59, 2, 4, 4]) rested said = some (some .duplicate) := by decide
/-- ROUND BUILD takes the terminals with a box fault in the zone set. -/
theorem test_round_build :
    probe (.roundBuild 1 [0x00, 0x08, 0x31, 0x41, 0x59])
      { rested with contexts := [term4, term5], cash := { State.reset.cash with lastRound := 16 } } said =
      some (some (.done (.roundBuilt 17 1))) := by decide
theorem test_round_close_skips :
    probe (.roundClose 1 [0, 17]) (collecting term5 .lifted) said = some (some (.done (.roundClosed 1 1))) := by decide
theorem test_round_get_no_such : probe (.roundGet 1 [0, 17]) State.reset said = some (some .noSuch) := by decide

/-! ## Faults and thresholds -/

/-- The worked afternoon: fault code 5 and RESTRICTED. -/
theorem test_override_restricts :
    probe (.thresholdOverrideSet 1 (4 :: toBinary 2 850 ++ toBinary 2 950 ++ toBinary 2 60))
      (rested.onContext 4 fun c => { c with paperRemaining := 51, tally := { c.tally with coinTotal := 990 } })
      (fun t => (t.context 4).map fun c => (c.faults.code, c.condition)) = some (some (5, .restricted)) := by decide
theorem test_override_drop_without : probe (.thresholdOverrideDrop 1 [4]) rested said = some (some .state) := by decide
theorem test_defaults_reevaluate :
    probe (.thresholdDefaultSet 1 (toBinary 2 1904 ++ toBinary 2 1905 ++ toBinary 2 50)) rested
      (fun t => (t.context 4).map fun c => (c.faults.boxNearFull, c.faults.boxFull)) = some (some (true, false)) := by decide
theorem test_defaults_get :
    probe (.thresholdDefaultGet 1 []) State.reset said =
      some (some (.done (.thresholds { nearFull := 2400, full := 2800, paperLow := 50 }))) := by decide
theorem test_fault_clear_derived : probe (.faultClear 1 [4, 0x10]) rested said = some (some (.field 2)) := by decide
theorem test_fault_clear :
    probe (.faultClear 1 [4, 0x01]) (rested.onContext 4 fun c => { c with faults := { c.faults with forcedDoor := true } })
      (fun t => (t.context 4).map (·.faults)) = some (some .empty) := by decide
/-- The worked sale goes on: PRINTER FAULT, event 201. -/
theorem test_printer_fault :
    probe (.printerFault 0 5 201 []) polled
      (fun t => (t.condition 4, (t.context 4).map fun c => (c.reports.condition, c.events.length))) =
      some (.outOfService, some (true, 4)) := by decide
theorem test_printer_ok :
    probe (.printerOk 0 5 201 []) (polled.onContext 4 fun c => { c with faults := { c.faults with printer := true } })
      (fun t => t.condition 4) = some .inService := by decide
theorem test_print_failed_records :
    probe (.printFailed 0 5 201 [0x00, 0x13, 0x17]) polled (fun t => (t.context 4).map fun c => c.events.map (·.event)) =
      some (some [.coinPathOk, .printerOk, .doorClosed, .printFailed 1317]) := by decide
theorem test_coin_path_fault :
    probe (.coinPathFault 0 5 201 []) polled (fun t => t.condition 4) = some .restricted := by decide
theorem test_coin_path_ok :
    probe (.coinPathOk 0 5 201 []) (polled.onContext 4 fun c => { c with faults := { c.faults with coinPath := true } })
      (fun t => t.condition 4) = some .inService := by decide
theorem test_paper_out : probe (.paperOut 0 5 201 []) polled (fun t => t.condition 4) = some .outOfService := by decide
/-- The count of a PAPER LOADED is lowered to the capacity. -/
theorem test_paper_loaded :
    probe (.paperLoaded 0 5 201 ([1] ++ toBinary 2 1200)) polled (fun t => (t.context 4).map (·.paperRemaining)) =
      some (some 1000) := by decide

/-! ## Lines -/

theorem test_line_set_window :
    probe (.lineSet 1 ([0] ++ toBinary 2 9600 ++ [65, 2, 20, 1, 0, 0, 0, 10, 4])) State.reset said = some (some (.field 3)) := by
  decide
theorem test_line_get :
    probe (.lineGet 1 [0]) State.reset said = some (some (.done (.line .cold .stopped none))) := by decide
theorem test_line_start_without_a_list : probe (.lineStart 1 [0]) rested said = some (some .state) := by decide
theorem test_line_start_polls :
    probe (.lineStart 1 [0]) (at1747 { Line.cold with pollList := [5] } term4)
      (fun t => (t.line 0).exchange.map fun e => (e.terminal, e.frame, e.triesUsed)) = some (some (4, .poll, 1)) := by decide
theorem test_line_stop_stops : probe (.lineStop 1 [0]) polled (fun t => (t.line 0).state) = some .stopping := by decide
theorem test_poll_list_put : probe (.pollListPut 1 [0, 2, 5, 5]) rested (fun t => (t.line 0).pollList) = some [5, 5] := by decide
theorem test_poll_list_get_running :
    probe (.pollListGet 1 [0]) polled said = some (some (.done (.pollList [5] (some (2, .running, none))))) := by decide
theorem test_sweep_starts_a_pass :
    probe (.sweep 1 [0]) (at1747 { Line.cold with state := .idle, settings := { LineSettings.cold with mode := .single }, pollList := [5] } term4)
      said = some (some (.done (.sweep .started))) := by decide
/-- The second pace tick of the worked sweep is dropped. -/
theorem test_pace_overrun :
    probe (.paceTick 0) (at1747 { inExchange poll4 with settings := { LineSettings.cold with mode := .paced }, leg := .running 1 } term4)
      (fun t => t.notices.map (·.kind)) = some [.terminal 4, .paceOverrun 0] := by decide

/-! ## Exchanges -/

theorem test_sale_taken :
    probe (.sale 0 5 87 [0, 0, 0, 0, 0, 2]) polled (fun t => (t.fare.computing.map (·.entry.budget), (t.line 0).state)) =
      some (some (.money 400), .awaitEngine) := by decide
theorem test_quote_taken :
    probe (.quote 0 5 88 (toMoney 200)) polled (fun t => (t.context 4).map fun c => c.inFlight.map (·.kind)) =
      some (some (some .quote)) := by decide
theorem test_session_looked_up :
    probe (.session 0 5 15 (toPacked 4 40117022 ++ toBinary 2 90)) polled (fun t => t.permits.working) =
      some (some (.lookup ask false)) := by decide
theorem test_cancel_without_a_referral :
    probe (.cancel 0 5 16 []) polled (fun t => (t.line 0).exchange.bind (·.answer)) = some (some (16, .taken)) := by decide
/-- The worked event 202 finds the buffer full. -/
theorem test_event_held :
    probe (.doorOpen 0 5 202 [0])
      (polled.onContext 4 fun c => { c with events := c.events ++ [⟨201, .printerFault, ⟨1002, 64021⟩⟩], lastEvent := some 201 })
      (fun t => ((t.line 0).exchange.bind (·.answer), (t.context 4).map (·.faults.forcedDoor))) =
      some (some (202, .hold), some false) := by decide
theorem test_idle_goes_on :
    probe (.idle 0 5) polled (fun t => (t.line 0).exchange.map fun e => (e.frame, e.phase)) = some (some (.poll, .send)) := by
  decide
theorem test_ack_of_block_4 :
    probe (.ack 0 5 [4, 4])
      (at1747 { inExchange (asked (.order (.plate 4 (plateBlock 3 { letter := .a, version := 42, tariff := some tariff3 } 4)))) with
        state := .stopping } term4) (fun t => (t.context 4).bind (·.plateVersion)) = some (some 42) := by decide
/-- A character whose three samplings agree, with some of its bits turned over on the way. -/
def flipped (b : Byte) (bits : BitVec 11) : RxChar :=
  { first := characterBits b ^^^ bits, second := characterBits b ^^^ bits, third := characterBits b ^^^ bits, early := false }

/-- The worked noisy pair: one parity error, and the exchange stays in RECEIVE while the turnaround runs. -/
theorem test_parity_counted :
    probe (.rejectedFrame 0 [flipped 1 0x200]) polled
      (fun t => ((t.context 4).map (·.errors), (t.line 0).exchange.map (·.phase))) =
      some (some { ErrorCounters.zero with parity := 1 }, some .receive) := by decide
/-- R142: a character after the frame's last one is no part of it: the frame names drop 6, and counts PROTOCOL. -/
theorem test_frame_ends_at_its_length :
    probe (.rejectedFrame 0 (([0x5A, 6, 0, 17] ++ toBinary 2 (frameCheck [6, 0, 17]).toNat).map clean ++ [flipped 1 0x200])) polled
      (fun t => (t.context 4).map (·.errors)) = some (some { ErrorCounters.zero with protocol := 1 }) := by decide +kernel
/-- R142: each of the four faults, found in the samples of a character of byte 11000011. -/
theorem test_character_faults :
    (clean 0xC3).byte = 0xC3 ∧ faulty (clean 0xC3) = false ∧ (flipped 0xC3 0x200).parity = true ∧
      (flipped 0xC3 0x400).framing = true ∧ ({ clean 0xC3 with second := 0 } : RxChar).noise = true ∧
      ({ clean 0xC3 with early := true } : RxChar).overrun = true := by decide +kernel
/-- The worked silent terminal: the last of three tries. -/
theorem test_third_window_fails :
    probe (.responseWindowExpiry 0) (at1747 (inExchange { poll4 with triesUsed := 3 }) term4)
      (fun t => (t.context 4).map fun c => (c.errors.noReply, c.faults.silent, c.owed.condition)) =
      some (some (1, true, true)) := by decide
theorem test_service_limit_busy :
    probe (.serviceLimitExpiry 0) selling
      (fun t => ((t.line 0).exchange.bind (·.answer), (t.context 4).bind fun c => c.inFlight.map (·.withdrawn))) =
      some (some (87, .busy), some true) := by decide
/-- R36, R68: the entry waits in the fare queue, and its WITHDRAWN result removes the request in flight. -/
theorem test_service_limit_withdraws :
    probe (.serviceLimitExpiry 0)
      { selling with fare := { selling.fare with queue := [(under .sale (.money 400) tariff3 1002 1067 .weekday .weekday).entry] } }
      (fun t => (t.fare.queue, (t.context 4).map (·.inFlight))) = some ([], some none) := by decide
theorem test_transmission_opens_the_window :
    probe (.frameTransmissionComplete 0) (at1747 { inExchange { poll4 with phase := .send } with driving := true } term4)
      (fun t => (t.line 0).exchange.map (·.phase)) = some (some .window) := by decide
theorem test_character_begins :
    probe (.characterBeginsToArrive 0) polled (fun t => (t.line 0).exchange.map (·.phase)) = some (some .receive) := by decide
theorem test_turnaround_sends :
    probe (.turnaroundExpiry 0) (at1747 { inExchange { poll4 with phase := .send } with turnaround := true } term4)
      (fun t => ((t.line 0).driving, (t.line 0).exchange.map (·.triesUsed))) = some (true, some 2) := by decide
/-- The worked noisy pair: three character times after the rejected frame the phase is SEND, and the second try is used. -/
theorem test_turnaround_resends :
    probe (.turnaroundExpiry 0) (at1747 { inExchange { poll4 with phase := .receive } with turnaround := true } term4)
      (fun t => ((t.line 0).driving, (t.line 0).exchange.map fun e => (e.phase, e.triesUsed))) = some (true, some (.send, 2)) := by
  decide
theorem test_stray_frame_restarts_the_turnaround :
    probe (.lineFrameDiscarded 0) rested (fun t => (t.line 0).turnaround) = some true := by decide
theorem test_earliest_start :
    probe (.earliestStartReached 0) (at1747 { inExchange poll4 with pass := .waiting } term4) (fun t => (t.line 0).pass) =
      some .running := by decide
/-- R157: the last entry of a pass that no EARLIEST START REACHED has met ends it, and the next one waits. -/
theorem test_pass_waits_for_its_earliest_start :
    probe (.idle 0 5) (at1747 { inExchange poll4 with settings := { LineSettings.cold with period := 1200 } } term4)
      (fun t => ((t.line 0).pass, (t.line 0).state)) = some (.waiting, .idle) := by decide

/-! ## The link, notices and starts -/

theorem test_notice_take :
    probe (.noticeTake 1 []) rested (fun t => (t.notices, t.attention, (t.context 4).map fun c => (c.events, c.lastEvent))) =
      some ([], false, some ([], some 200)) := by decide
theorem test_notice_none : probe (.noticeTake 1 []) State.reset said = some (some (.done .noNotice)) := by decide
theorem test_part_status_counts :
    probe (.partStatus 1 []) rested said =
      some (some (.done (.status .cold .r57600 true 1 0 [.stopped, .stopped, .stopped, .stopped] 1 0 0 0))) := by decide
theorem test_unknown_kind : probe (.unknownKind 1 47) State.reset said = some (some .unknownKind) := by decide
theorem test_overlap :
    probe (.clockGet 8 []) (State.reset.accepted 7 2) (fun t => t.link.sending) =
      some (some { tag := 8, kind := 2, body := .overlap }) := by decide
theorem test_overlap_row :
    probe (.overlap 8 2) (State.reset.accepted 7 2) (fun t => t.link.sending) =
      some (some { tag := 8, kind := 2, body := .overlap }) := by decide
/-- R169, R182: a byte before the marker A5 is ignored, and without a marker there is no frame. -/
theorem test_hunting_for_the_marker :
    linkCommand (0x33 :: linkFrame 7 2 []) = some (.clockGet 7 []) ∧ linkCommand (0xA4 :: (linkFrame 7 2 []).tail) = none := by
  decide +kernel
/-- R181: an absent slot, and the absent position, pass and leg of a line not in use. -/
theorem test_absent_fields :
    DoneFields.bytes (.tariff .a 40 none none) = [65, 0, 40, 0, 0] ∧ DoneFields.bytes (.pollList [5] none) = [1, 5, 0, 0, 0] := by
  decide
theorem test_discarded_frame : probe .linkFrameDiscarded State.reset (fun t => t.link.check) = some 1 := by decide
theorem test_marker : probe .frameMarkerReceived State.reset (fun t => t.link.receiver) = some (.receiving 0) := by decide
theorem test_frame_limit :
    probe .frameLimitExpiry (State.reset.onLink fun k => { k with receiver := .receiving 0 }) (fun t => t.link.timeout) =
      some 1 := by decide
theorem test_reply_sent :
    probe .replyTransmissionComplete (State.reset.replied 1 2 .noSuch) (fun t => (t.link.outstanding, t.link.sending)) =
      some (none, none) := by decide
theorem test_restart_makes_the_start_due :
    probe .replyTransmissionComplete (State.reset.replied 1 46 (.done .plain)) (fun t => t.link.warmStartDue) = some true := by
  decide
theorem test_warm_start_keeps_the_queue :
    probe .warmStart polled (fun t => (t.notices.map (·.kind), (t.line 0).state)) = some ([.terminal 4], .stopped) := by decide
theorem test_power_start_empties_the_queue :
    probe .powerStart { polled with mainSupply := false } (fun t => (t.notices, t.attention)) = some ([], false) := by decide
theorem test_power_start_after_retention_loss :
    probe .powerStart { rested with mainSupply := false, retentionHeld := false } (fun t => t.contexts) = some [] := by decide
theorem test_cold_start : probe .coldStart rested (fun t => (t.contexts, t.clock.valid)) = some ([], false) := by decide
theorem test_main_supply_loss : probe .mainSupplyLoss rested (fun t => t.mainSupply) = some false := by decide
theorem test_retention_loss :
    probe .retentionSupplyLoss { rested with mainSupply := false } (fun t => t.retentionHeld) = some false := by decide
theorem test_start_complete :
    probe (.startComplete .r115200) (State.reset.onLink fun k => { k with starting := true })
      (fun t => (t.link.rate, t.link.starting)) = some (.r115200, false) := by decide

/-! ## Witnesses: for each statement with hypotheses, a state and operands that meet them, clause by clause -/

/-- A command waits in the worked sale's part. -/
def waiting : State := { rested with pending := [.secondsEvent] }

theorem witness_StepTakesTheFrontCommand :
    waiting.pending = .secondsEvent :: [] ∧ State.reset.pending = [] := by decide
theorem witness_AttentionFollowsTheQueue : waiting.attentionFollows ∧ ∃ t, step waiting = .next t :=
  ⟨by unfold State.attentionFollows; decide, _, rfl⟩
theorem witness_NoticesStandForReports : waiting.noticesKept ∧ ∃ t, step waiting = .next t := by
  refine ⟨⟨?_, ?_, ?_⟩, _, rfl⟩
  · unfold State.contextsKept; decide
  · unfold State.noticesOnce; decide
  · intro n
    by_cases h : n = 4
    · subst h
      exact ⟨fun _ => ⟨term4, by decide⟩, fun _ => ⟨{ kind := .terminal 4, count := 1 }, by decide⟩⟩
    · simp [waiting, rested, at1747, State.context, term4, Ne.symm h]
theorem witness_DirectedQueuesStayBounded :
    ({ polled.onLine 0 (fun L => { L with directed := [{ terminal := 4, kind := .clock }] }) with
        pending := [.secondsEvent] } : State).directedKept ∧
      ∃ t, step { polled.onLine 0 (fun L => { L with directed := [{ terminal := 4, kind := .clock }] }) with
        pending := [.secondsEvent] } = .next t :=
  ⟨by unfold State.directedKept; decide, _, rfl⟩
theorem witness_ClockCalendarAndPermitsStayInOrder :
    ({ looking with calendar := [⟨4, .sunday⟩, ⟨5, .special⟩], pending := [.lookupComplete] } : State).clockShown ∧
      ({ looking with calendar := [⟨4, .sunday⟩, ⟨5, .special⟩], pending := [.lookupComplete] } : State).calendarKept ∧
      ({ looking with calendar := [⟨4, .sunday⟩, ⟨5, .special⟩], pending := [.lookupComplete] } : State).permitsKept ∧
      ∃ t, step { looking with calendar := [⟨4, .sunday⟩, ⟨5, .special⟩], pending := [.lookupComplete] } = .next t :=
  ⟨by unfold State.clockShown; decide, by unfold State.calendarKept; decide, by unfold State.permitsKept; decide, _, rfl⟩
theorem witness_TheActiveBankIsNeverWritten :
    (Instr.switchNow 1 [] ≠ .coldStart ∧ ∃ t, exec (.switchNow 1 []) rested = .next t) ∧
      Instr.powerStart ≠ .coldStart ∧ rested.retentionHeld = true ∧ ∃ t, exec .powerStart rested = .next t :=
  ⟨⟨by decide, _, rfl⟩, by decide, by decide, _, rfl⟩
theorem witness_RequestFramesAreReadBack :
    Instr.wf (.message 9 [4, 4, 65]) = true ∧
      linkBytes (.message 9 [4, 4, 65]) = some (linkFrame 9 17 [4, 4, 65]) := by decide +kernel
theorem witness_TerminalFramesAreReadBack :
    Instr.wf (.sale 3 32 255 (List.replicate 78 0)) = true ∧ lineOf (.sale 3 32 255 (List.replicate 78 0)) = some 3 ∧
      lineBytes (.sale 3 32 255 (List.replicate 78 0)) = some (lineFrame 32 18 (2 :: 255 :: List.replicate 78 0)) := by
  refine ⟨by decide +kernel, rfl, rfl⟩
theorem witness_tariff3_valid : tariff3.valid := by
  simp [ZoneTariff.valid, bandsValid, tariff3]
theorem witness_ready : State.reset.ready = true ∧ rested.ready = true ∧ polled.ready = true := by decide
theorem witness_ClockSetGivesTheTime :
    rested.ready = true ∧ rested.contextsKept ∧ rested.context 4 = some term4 ∧
      ∃ t, exec (.clockSet 1 (toBinary 2 65535 ++ toBinary 3 86399)) rested = .next t :=
  ⟨by decide, by unfold State.contextsKept; decide, by decide, _, rfl⟩
theorem witness_SecondsEventCounts : rested.mainSupply = true := by decide

/-- Line 0 in use, PACED. -/
def paced (source : PaceSource) (leg : Leg) : State :=
  at1747 { inExchange poll4 with settings := { LineSettings.cold with mode := .paced, source := source }, leg := leg } term4

theorem witness_SweepsAndPaceTicks :
    (((paced .clock .pending).line 0).pacedByClock = true ∧ ((paced .clock .pending).line 0).leg ≠ .none) ∧
      (((paced .clock .none).line 0).pacedByClock = true ∧ ((paced .clock .none).line 0).leg = .none ∧
        ((paced .clock .none).line 0).state ≠ .idle) ∧ (rested.line 0).pacedByClock = false ∧
      (rested.line 0).halted = true ∧ ((paced .host .none).line 0).halted = false ∧
      ((paced .host .none).line 0).settings.source = .host ∧ ((paced .host (.running 1)).line 0).leg ≠ .none ∧
      ((at1747 { inExchange poll4 with settings := { LineSettings.cold with mode := .single }, pass := .none } term4).line
        0).pass = .none := by decide
/-- R155: drop 31, which no terminal of line 0 holds, and drop 5, which terminal 4 holds. -/
theorem passed31 (L : Line) (record : List Nat) : (at1747 L term4).passesOver 0 record [31] := by
  intro d hd c hc _ h
  rw [List.mem_singleton.mp hd, List.mem_singleton.mp hc] at h
  exact absurd h (by decide)
theorem polled5 (L : Line) (record : List Nat) : (at1747 L term4).pollable 0 record 5 term4 :=
  ⟨List.mem_singleton_self _, rfl, rfl, fun _ hd _ _ => List.mem_singleton.mp hd, fun h => absurd h.1 (by decide)⟩

/-- An IDLE line whose list begins with a drop that no terminal holds: a leg of 2, a leg of 1 and a SINGLE pass. -/
theorem witness_idle_line_takes :
    let idle (mode : SweepMode) (source : PaceSource) (leg : Nat) (drops : List Nat) : State :=
      at1747
        { Line.cold with
          state := .idle, pollList := drops, settings := { LineSettings.cold with mode := mode, source := source, leg := leg } }
        term4
    let s := idle .paced .clock 2 [31, 5]
    (s.line 0).pacedByClock = true ∧ (s.line 0).leg = .none ∧ (s.line 0).state = .idle ∧ (s.line 0).chain = none ∧
      (s.line 0).directed = [] ∧ (s.line 0).takeTick.before ([31] ++ 5 :: []) ∧ s.passesOver 0 [] [31] ∧
      s.pollable 0 [] 5 term4 ∧ (idle .paced .host 1 [31, 5]).ready = true ∧
      ((idle .paced .host 1 [31, 5]).line 0).before ([31] ++ [5]) ∧ ((idle .paced .host 2 [31]).line 0).before [31] ∧
      (idle .paced .host 2 [31]).passesOver 0 [] [31] ∧ ((idle .single .clock 1 [31]).line 0).pass = .none ∧
      ((idle .single .clock 1 [31, 5]).line 0).pollList = [31] ++ 5 :: [] ∧
      (idle .single .clock 1 [31, 5]).pollable 0 [] 5 term4 :=
  ⟨by decide, by decide, by decide, by decide, by decide, ⟨[], by decide⟩, passed31 _ _, polled5 _ _, by decide, ⟨[], by decide⟩,
    ⟨[], by decide⟩, passed31 _ _, by decide, by decide, polled5 _ _⟩
theorem witness_TariffPutWritesOneSlot :
    readTariffPut (65 :: 3 :: tariff3.bytes) = .ok { bank := .a, zone := 3, tariff := tariff3 } ∧ BankLetter.a = rested.tariffs.active ∧
      readTariffPut (66 :: 3 :: tariff3.bytes) = .ok { bank := .b, zone := 3, tariff := tariff3 } ∧
      BankLetter.b ≠ rested.tariffs.active := by decide
theorem witness_TariffDropMakesASlotAbsent :
    readSlot [] = .error 0 ∧ bankOfCode (64 : Byte).toNat = none ∧ 15 < (16 : Byte).toNat ∧
      BankLetter.a = rested.tariffs.active ∧ BankLetter.b ≠ rested.tariffs.active ∧
      (rested.tariffs.copy .b 0).tariff = none ∧ (rested.tariffs.copy .b 15).tariff ≠ none := by decide
theorem witness_SwitchoversAreSetAndMade :
    rested.ready = true ∧ rested.clock.valid = true ∧ 1001 < rested.clock.day ∧ 1002 = rested.clock.day ∧
      1067 ≤ rested.clock.second / 60 ∧ ¬1068 ≤ rested.clock.second / 60 ∧ State.reset.clock.valid = false ∧
      rested.contextsKept ∧ rested.context 4 = some term4 := by
  unfold State.contextsKept
  decide
theorem witness_SwitchCancelEmptiesTheSchedule :
    ({ rested with tariffs := { rested.tariffs with schedule := some ⟨1003, 0⟩ } } : State).ready = true := by decide
/-- A walk that passes a test on its figures has figures that pass it. -/
theorem walk_computed {w : Walk} {p : Figures → Bool}
    (h : (match w with | .computed f => p f | _ => false) = true) : ∃ f, w = .computed f ∧ p f = true := by
  cases w with
  | computed f => exact ⟨f, rfl, h⟩
  | _ => cases h

theorem witness_WalksAddUp :
    (under .sale (.money 400) tariff3 1002 1067 .weekday .weekday).latched ∧
      (under .session (.minutes 1) tariff3 1002 1067 .weekday .weekday).latched ∧
      (under .sale (.money 400) tariff3 1002 1067 .weekday .weekday).walk = .computed figuresA ∧
      (∃ f, (under .session (.minutes 1) tariff3 1002 1067 .weekday .weekday).walk = .computed f) ∧
      (under .trial (.money 80) tariff5 1007 660 .sunday .weekday).walk = .insufficient ⟨1007, 660⟩ :=
  ⟨by unfold Computation.latched; decide, by unfold Computation.latched; decide, by decide +kernel,
    let ⟨f, hf, _⟩ := walk_computed (p := fun _ => true) (by decide +kernel); ⟨f, hf⟩, test_trial_insufficient⟩
theorem witness_TrialsArePlacedAndAnswered :
    readTrial ([0, 3] ++ toBinary 2 1002 ++ toBinary 2 1067 ++ [0] ++ toMoney 400) =
        .ok { role := .active, zone := 3, start := ⟨1002, 1067⟩, budget := .money 400 } ∧
      readTrial ([1, 3] ++ toBinary 2 1002 ++ toBinary 2 1067 ++ [1] ++ toBinary 2 1440) =
        .ok { role := .staged, zone := 3, start := ⟨1002, 1067⟩, budget := .minutes 1440 } ∧
      rested.ready = true ∧ rested.fare.computing = none ∧ selling.ready = true ∧ selling.fare.computing ≠ none ∧
      ({ under .trial (.money 400) tariff3 1002 1067 .weekday .weekday with
          entry := { (under .trial (.money 400) tariff3 1002 1067 .weekday .weekday).entry with returnTo := .host 9 } } : Computation).entry.returnTo =
        .host 9 ∧
      (State.reset.accepted 9 13).link.outstanding = some { tag := 9, kind := 13 } := by decide +kernel
/-- Terminal 4 with a request 87 in flight. -/
def flying (kind : FlightKind) (withdrawn : Bool) : Context :=
  { term4 with inFlight := some { kind := kind, number := 87, withdrawn := withdrawn } }

/-- A computation for that request in the engine. -/
def priced (k : Computation) (c : Context) : State :=
  { selling with contexts := [c], fare := { queue := [], computing := some k } }

theorem witness_SalesAreCommittedOrRefused :
    let sale := under .sale (.money 400) tariff3 1002 1067 .weekday .weekday
    let poor := under .sale (.money 59) tariff3 1002 1067 .weekday .weekday
    let quote := under .quote (.money 400) tariff3 1002 1067 .weekday .weekday
    let coins : Coins := { Coins.zero with p200 := 2 }
    (selling.mainSupply = true ∧ selling.fare.computing = some sale ∧ sale.entry.returnTo = .terminal 4 87 ∧
        selling.context 4 = some (flying (.sale coins none) false) ∧ sale.walk = .computed figuresA ∧
        selling.saleFails (flying (.sale coins none) false) sale.walk = none) ∧
      ((priced poor (flying (.sale coins none) false)).fare.computing = some poor ∧
        selling.saleFails (flying (.sale coins none) false) poor.walk = some .belowMinimum) ∧
      (quote.entry.kind = .quote ∧ (priced quote (flying .quote false)).context 4 = some (flying .quote false) ∧
        (flying .quote false).condition = .inService ∧ quote.walk = .computed figuresA) ∧
      (priced quote (flying .quote true)).context 4 = some (flying .quote true) ∧
      (selling.line 0).state ≠ .idle ∧
      (selling.line 0).exchange.map (fun e => (e.terminal, e.phase, e.taken)) =
        some (4, .engine, some (.request 87 (some (.sale coins none)))) := by decide +kernel

/-- Case D at terminal 4, request 15, for permit 40,117,022. -/
def caseD : Computation :=
  { under .session (.minutes 90) tariff3 1002 1080 .weekday .weekday with
    entry := { kind := .session, budget := .minutes 90, zone := 3, bank := .active, start := none,
               returnTo := .terminal 4 15, permit := some 40117022 } }

def charging : State :=
  { looking with
    permits := { State.reset.permits with
      records := [{ fields.record with usedDay := some 1002, usedMinutes := 90, claim := some (.session 4 15) }] }
    fare := { queue := [], computing := some caseD } }

theorem witness_SessionIsCharged :
    charging.mainSupply = true ∧ charging.fare.computing = some caseD ∧ caseD.entry.returnTo = .terminal 4 15 ∧
      (charging.context 4).bind (·.inFlight) = some { kind := .session, number := 15, withdrawn := false } ∧
      (∃ f, caseD.walk = .computed f ∧ f.minutes + 90 ≤ 180) ∧
      (charging.permit 40117022).map (fun p => (p.status, p.validFrom, p.validTo, p.effectiveUsed 1002, p.allowance)) =
        some (.active, 900, 1300, 90, 180) ∧ zoneIn fields.zones caseD.entry.zone = true :=
  ⟨by decide, rfl, rfl, by decide,
    let ⟨f, hf, hp⟩ := walk_computed (p := fun f => decide (f.minutes + 90 ≤ 180)) (by decide +kernel); ⟨f, hf, by simpa using hp⟩,
    by decide +kernel, by decide +kernel⟩
theorem witness_session_commit :
    probe .computationComplete charging
      (fun t => ((t.permit 40117022).map fun p => (p.usedMinutes, p.claim), (t.context 4).map (·.serial))) =
      some (some (180, none), some 1318) := by decide +kernel

/-- Case D as the walk of referral 7. -/
def caseR : Computation :=
  { caseD with entry := { caseD.entry with kind := .referral, returnTo := .referral 7 4 } }

/-- That walk being computed, the referral answered with a decision. -/
def answered7 (decision : Decision) (detached : Bool) : State :=
  { at1747 Line.cold { term4 with referral := some { referral := 7, request := 14 } } with
    permits := { State.reset.permits with
      records := [{ fields.record with claim := some (.referral 7) }]
      referrals := [{ referral7 with decision := some decision, detached := detached }] }
    fare := { queue := [], computing := some caseR } }

theorem witness_SessionResults :
    let c : Context := { term4 with inFlight := some { kind := .session, number := 15, withdrawn := false } }
    charging.context 4 = some c ∧ charging.sessionFails c caseD false = none ∧
      (charging.onPermit 40117022 fun p => { p with status := .suspended }).sessionFails c caseD false =
        some .permitNotValid ∧
      ((charging.onContext 4 fun d => { d with
          inFlight := some { kind := .session, number := 15, withdrawn := true } }).context 4).bind (·.inFlight) =
        some { kind := .session, number := 15, withdrawn := true } := by decide +kernel
theorem witness_ReferralResults :
    let d : Context := { term4 with referral := some { referral := 7, request := 14 } }
    (answered7 (.grantOnce 60) false).fare.computing = some caseR ∧ caseR.entry.returnTo = .referral 7 4 ∧
      (answered7 (.grantOnce 60) false).context 4 = some d ∧
      ((answered7 (.grantOnce 60) false).referralOf 7).map (·.decision) = some (some (.grantOnce 60)) ∧
      (answered7 (.grantOnce 60) false).sessionFails d caseR true = none ∧
      (answered7 (.grantAndLoad fields) false).sessionFails d caseR false = none ∧
      caseR.entry.permit = some fields.number ∧ ((answered7 (.grantAndLoad fields) false).permit fields.number).isSome = true ∧
      ({ answered7 (.grantAndLoad fields) false with clock := State.reset.clock } : State).sessionFails d caseR false = some .clockNotSet ∧
      ((answered7 .deny true).referralOf 7).map (·.detached) = some true := by decide +kernel
theorem witness_TerminalSetCreatesAndChanges :
    readTerminalSet rested.overrideOf ([127, 3, 32, 15] ++ toBinary 2 200 ++ toBinary 2 2000) =
        .ok { number := 127, line := 3, drop := 32, zone := 15, boxCapacity := 200, paperCapacity := 2000 } ∧
      rested.context 127 = none ∧ (rested.line 3).halted = true ∧ (rested.line 3).directed = [] ∧
      rested.dropTaken { number := 127, line := 3, drop := 32, zone := 15, boxCapacity := 200, paperCapacity := 2000 } = false ∧
      readTerminalSet rested.overrideOf ([4, 0, 5, 3] ++ toBinary 2 3000 ++ toBinary 2 100) =
        .ok { number := 4, line := 0, drop := 5, zone := 3, boxCapacity := 3000, paperCapacity := 100 } ∧
      rested.context 4 = some term4 ∧ rested.engaged term4 = false ∧ polled.engaged term4 = true ∧
      ({ rested with contexts := [term4, { term5 with drop := 5 }] } : State).dropTaken
        { number := 4, line := 0, drop := 5, zone := 3, boxCapacity := 3000, paperCapacity := 100 } = true := by decide
/-- On a line in use, with 13 entries queued for another terminal; and a move to line 1 with an entry left behind. -/
theorem witness_terminal_set_orders :
    let full := polled.onLine 0 fun L => { L with directed := List.replicate 13 { terminal := 4, kind := .message [65] } }
    let left := rested.onLine 0 fun L => { L with directed := [{ terminal := 4, kind := .clock }] }
    (full.ready = true ∧ full.context 9 = none ∧
        full.dropTaken { number := 9, line := 0, drop := 7, zone := 3, boxCapacity := 1000, paperCapacity := 500 } = false ∧
        (full.line 0).halted = false ∧ (full.line 0).state ≠ .idle ∧ (full.line 0).directed.length ≤ 13 ∧
        ∀ x ∈ (full.line 0).directed, x.terminal ≠ 9) ∧
      readTerminalSet left.overrideOf ([4, 1, 6, 3] ++ toBinary 2 3000 ++ toBinary 2 1000) =
        .ok { number := 4, line := 1, drop := 6, zone := 3, boxCapacity := 3000, paperCapacity := 1000 } ∧
      left.dropTaken { number := 4, line := 1, drop := 6, zone := 3, boxCapacity := 3000, paperCapacity := 1000 } = false ∧
      left.engaged term4 = false ∧ term4.paperRemaining ≤ term4.paperCapacity ∧
      readTerminalSet left.overrideOf ([4, 0, 5, 15] ++ toBinary 2 3000 ++ toBinary 2 1000) =
        .ok { number := 4, line := 0, drop := 5, zone := 15, boxCapacity := 3000, paperCapacity := 1000 } := by decide
theorem witness_TerminalRemoveDeletesAContext :
    rested.context 127 = none ∧ rested.context 4 = some term4 ∧ term4.tally.isEmpty = false ∧
      (at1747 Line.cold { term4 with tally := .empty }).ready = true ∧ Tally.empty.isEmpty = true ∧
      rested.cash.roundOf 4 = none ∧ term4.inFlight = none ∧ (rested.line 0).busyWith 4 = false ∧
      (polled.line 0).busyWith 4 = true := by decide
theorem witness_TerminalGetReadsAContext :
    rested.ready = true ∧ rested.context 127 = none ∧ rested.context 4 = some term4 := by decide
theorem witness_SuspendResumeAndEndCollection :
    rested.context 4 = some term4 ∧ term4.suspended = false ∧ term4.collection = none ∧
      (at1747 Line.cold { term4 with suspended := true, collection := some 17 }).ready = true := by decide

/-- Terminal 5 in collection, the one entry of its round in a state. -/
def lastOf (entry : EntryState) : State :=
  { collecting { term5 with collection := some 17 } entry with
    cash := { State.reset.cash with rounds := [round17 [{ terminal := 5, state := entry }]], lastLifted := 300, lastRound := 17 } }

theorem lastOf_completes : (lastOf .lifted).completes 5 17 :=
  ⟨round17 [{ terminal := 5, state := .lifted }], by decide, rfl, by decide, by decide⟩
theorem lastOf_does_not_complete : ¬(lastOf .opened).completes 5 17 := by
  rintro ⟨r, hr, -, he, -⟩
  cases hr
  exact absurd (he _ List.mem_cons_self) (by decide)
theorem witness_end_collection_completes :
    (lastOf .lifted).ready = true ∧ (lastOf .lifted).context 5 = some { term5 with collection := some 17 } ∧
      (lastOf .opened).ready = true := by decide
theorem witness_MessageIsQueued :
    polled.ready = true ∧ (∀ b ∈ List.replicate 40 (126 : Byte), 32 ≤ b.toNat ∧ b.toNat ≤ 126) ∧ polled.context 127 = none ∧
      polled.context 4 = some term4 ∧ (rested.line 0).halted = true ∧ (polled.line 0).halted = false ∧
      ((at1747 { Line.cold with state := .idle } term4).line 0).state = .idle ∧
      (polled.line 0).directed.length < 16 ∧ (polled.line 0).state ≠ .idle ∧
      16 ≤ ((polled.onLine 0 fun L =>
        { L with directed := List.replicate 16 { terminal := 4, kind := .message [65] } }).line 0).directed.length := by
  decide
theorem witness_PermitRequestsBeginOrWait :
    looking.ready = true ∧ looking.permits.working ≠ none ∧ charging.ready = true ∧ charging.permits.working = none ∧
      readPermitLoad (1 :: fieldBytes) = .ok [fields] ∧
      readPermitChange (toPacked 4 40117022 ++ [1, 1, 0, 0, 0, 0, 0]) =
        .ok { number := 40117022, status := some .suspended, allowance := none, validFrom := none, validTo := none,
              zones := none } ∧
      readPermitNumber (toPacked 4 40117022) = .ok 40117022 ∧ (charging.permit 40117022).isSome = true ∧
      readPermitNumber (toPacked 4 99999999) = .ok 99999999 ∧ charging.permit 99999999 = none ∧
      readPermitScan (toPacked 4 1 ++ [5]) = .ok (1, 5) ∧
      readReferralAnswer looking.referredPermit [7, 2, 0, 0] = .ok (7, .deny) := by decide
/-- A PERMIT CHANGE for no record, one that gives a last day before the first, and one that gives the first day. -/
theorem witness_permit_changes :
    readPermitChange (toPacked 4 99999999 ++ [1, 1, 0, 0, 0, 0, 0]) =
        .ok { number := 99999999, status := some .suspended, allowance := none, validFrom := none, validTo := none,
              zones := none } ∧
      readPermitChange (toPacked 4 40117022 ++ [0, 0, 0, 1] ++ toBinary 2 899 ++ [0, 0]) =
        .ok { number := 40117022, status := none, allowance := none, validFrom := none, validTo := some 899, zones := none } ∧
      readPermitChange (toPacked 4 40117022 ++ [0, 0, 0, 1] ++ toBinary 2 900 ++ [0, 0]) =
        .ok { number := 40117022, status := none, allowance := none, validFrom := none, validTo := some 900, zones := none } ∧
      (charging.permit 40117022).map (·.validFrom) = some 900 := by decide
theorem witness_scan_in_progress :
    let s : State := { looking with permits := { looking.permits with working := some (.scan 1 5) } }
    s.mainSupply = true ∧ s.permits.working = some (.scan 1 5) ∧ s.permitsKept ∧ s.scanAhead 1 = [fields.record] := by
  unfold State.permitsKept
  decide
/-- Referral 7 WAITING, DECIDED and gone; and a table without room for the record of a GRANT AND LOAD. -/
theorem witness_referral_answers :
    referred.ready = true ∧ referred.permits.working = none ∧ referred.referralOf 8 = none ∧
      readReferralAnswer referred.referredPermit [8, 2, 0, 0] = .ok (8, .deny) ∧
      (answered7 .deny false).ready = true ∧ ((answered7 .deny false).referralOf 7).bind (·.decision) = some .deny ∧
      readReferralAnswer (answered7 .deny false).referredPermit [7, 2, 0, 0] = .ok (7, .deny) ∧
      referred.referralOf 7 = some referral7 ∧ readReferralAnswer referred.referredPermit [7, 0, 0, 60] = .ok (7, .grantOnce 60) ∧
      (referred.context referral7.terminal).isSome = true ∧
      readReferralAnswer referred.referredPermit ([7, 1, 0, 0] ++ fieldBytes) = .ok (7, .grantAndLoad fields) ∧
      referred.permit fields.number = none ∧ referred.permits.records.length < 2048 := by decide +kernel
theorem witness_grant_and_load_full :
    let s : State := { referred with
      permits := { referred.permits with records := List.replicate 2048 { fields.record with number := 1 } } }
    s.permit fields.number = none ∧ 2048 ≤ s.permits.records.length := by decide +kernel
theorem witness_PermitLoadTakesItsRecords :
    charging.ready = true ∧ charging.permits.working = none ∧ readPermitLoad (1 :: fieldBytes) = .ok [fields] ∧
      (∀ n, n ∈ ([] : List Nat) ↔ (∃ f ∈ [fields], f.number = n) ∧ charging.permit n = none) ∧
      (∀ n, n ∈ [40117022] ↔ (∃ f ∈ [fields], f.number = n) ∧ State.reset.permit n = none) ∧ [40117022].Nodup ∧
      (charging.permit fields.number).isSome = true ∧ charging.permit 1 = none := by
  refine ⟨by decide, by decide, by decide, fun n => ⟨fun h => absurd h List.not_mem_nil, ?_⟩, fun n => ?_, by decide,
    by decide, by decide⟩
  · rintro ⟨⟨f, hf, rfl⟩, h⟩
    rw [List.mem_singleton.mp hf] at h
    exact absurd h (by decide)
  · simp [fields, State.permit, State.reset, eq_comm]
/-- The record of a GRANT AND LOAD to come, for a number no record holds and for one that a record holds. -/
theorem witness_grant_insertion :
    ({ referred with permits := { referred.permits with working := some (.grant 7 fields false) } } : State).permit fields.number =
        none ∧
      (({ charging with permits := { charging.permits with working := some (.grant 7 fields false) } } : State).permit
        fields.number).isSome = true := by decide
theorem witness_PermitCompletionIsAnswered :
    ((State.reset.accepted 9 20).onPermits fun t => { t with working := some (.settled .noSuch) }).link.outstanding =
        some { tag := 9, kind := 20 } ∧ State.reset.permits.queue = [] ∧
      ({ State.reset.permits with queue := [.lookup ask] } : Permits).queue = .lookup ask :: [] ∧
      ((State.reset.accepted 9 18).onPermits fun t => { t with working := some (.load [] 255 0) }).permits.working =
        some (.load [] 255 0) ∧
      ((looking.accepted 9 22).onPermits fun t => { t with working := some (.scan 1 5) }).permitsKept ∧
      ((looking.accepted 9 22).onPermits fun t => { t with working := some (.scan 1 5) }).scanAhead 1 = [fields.record] := by
  unfold State.permitsKept
  decide

/-- The answer of a GRANT AND LOAD whose record is in, with a status. -/
def granted (status : PermitStatus) : State :=
  { referred.accepted 9 25 with
    permits := { referred.permits with
      records := [{ fields.record with status := status }], working := some (.grant 7 fields true)
      referrals := [{ referral7 with decision := some (.grantAndLoad fields) }] } }

theorem witness_grant_completion :
    (granted .active).link.outstanding = some { tag := 9, kind := 25 } ∧
      ((granted .active).referralOf 7).map (·.detached) = some false ∧ ((granted .active).context 4).isSome = true ∧
      (granted .active).recordFails fields.record 3 = none ∧ (granted .active).activeCap 3 = some 120 ∧
      (granted .active).permit fields.number = some fields.record ∧
      (granted .withdrawn).permit fields.number = some { fields.record with status := .withdrawn } ∧
      (granted .withdrawn).recordFails { fields.record with status := .withdrawn } 3 = some .permitNotValid := by decide
theorem witness_LookupSetsTheClaim :
    looking.permits.working = some (.lookup ask false) ∧ looking.permits.queue = [] ∧ looking.clock.valid = true ∧
      looking.condition 4 = .inService ∧ looking.permit 40117022 = some fields.record ∧
      fields.record.status = .active ∧ fields.record.validFrom ≤ 1002 ∧ 1002 ≤ fields.record.validTo ∧
      zoneIn fields.record.zones 3 = true ∧ looking.activeCap 3 = some 120 ∧ fields.record.claim = none ∧
      fields.record.running looking.clock.now = false ∧ 0 < fields.record.remaining 1002 := by decide

/-- That LOOKUP finds no record, with referral ENABLED and these referrals. -/
def unknown (referrals : List Referral) : State :=
  { looking with permits := { looking.permits with records := [], referralEnabled := true, referrals := referrals } }

theorem witness_lookup_refers :
    (unknown []).permit 40117022 = none ∧ (unknown []).permits.referralEnabled = true ∧ ((unknown []).context 4).isSome = true ∧
      (unknown (List.replicate 7 { referral7 with terminal := 5 })).permits.referrals.length < 8 ∧
      (∀ r ∈ List.replicate 7 { referral7 with terminal := 5 }, r.terminal ≠ 4) ∧
      8 ≤ (unknown (List.replicate 8 { referral7 with terminal := 5 })).permits.referrals.length ∧
      (unknown [referral7]).permits.referrals = [referral7] ∧ referral7.terminal = ask.terminal := by decide
/-- R88: a LOOKUP that fails check 1, 2, 3 (DISABLED), 4 and 6. -/
theorem witness_lookup_fails :
    let c : Context := { term4 with inFlight := some { kind := .session, number := 15, withdrawn := false } }
    looking.context 4 = some c ∧
      ({ looking with clock := State.reset.clock } : State).lookupFails c ask = some .clockNotSet ∧
      looking.lookupFails { c with suspended := true } ask = some .notInService ∧
      (looking.onPermits fun t => { t with records := [] }).lookupFails c ask = some .permitUnknown ∧
      (looking.onPermit 40117022 fun p => { p with status := .suspended }).lookupFails c ask = some .permitNotValid ∧
      (looking.onPermit 40117022 fun p => { p with claim := some (.referral 7) }).lookupFails c ask = some .sessionActive := by
  decide
theorem witness_ReferralSetAndList : referred.ready = true ∧ 5 ≤ 5 ∧ 60 ≤ 60 := by decide
theorem witness_ReferralsAreRefused :
    referred.referralOf 7 = some referral7 ∧ referral7.decision = none ∧
      (referred.context 4).map (·.referral) = some (some { referral := 7, request := 14 }) ∧ (7 : Byte).toNat = 7 ∧
      referred.ready = true ∧ readReferralAnswer referred.referredPermit [7, 2, 0, 0] = .ok (7, .deny) ∧
      referred.permits.working = none := by decide
theorem witness_LiftedRecordsAndRoundsAreRead :
    (collecting term5 .due).ready = true ∧ (collecting term5 .due).cash.roundNumbered 65535 = none ∧
      ((collecting term5 .due).cash.roundNumbered 17).isSome = true ∧
      [record301].find? (fun q => q.number == 301) = some record301 ∧ (∀ r ∈ [record301], r.number ≠ 65535) := by decide
/-- Four rounds, the first two OPEN or not. -/
def fourRounds (isOpen : Bool) : List Round :=
  [16, 15, 14, 13].map fun n => { number := n, code := 314159, isOpen := isOpen && (n == 16 || n == 15), entries := [] }

theorem witness_RoundsAreOpenedAndClosed :
    rested.ready = true ∧ readRoundOpen [0x31, 0x41, 0x59, 2, 4, 4] = .ok (314159, [4, 4]) ∧ ¬[4, 4].Nodup ∧
      readRoundOpen [0x31, 0x41, 0x59, 1, 9] = .ok (314159, [9]) ∧ rested.context 9 = none ∧
      readRoundOpen [0x31, 0x41, 0x59, 1, 4] = .ok (314159, [4]) ∧ [4].Nodup ∧ rested.context 4 ≠ none ∧
      (rested.cash.rounds.filter (·.isOpen)).length < 2 ∧ ((fourRounds false).filter (·.isOpen)).length < 2 ∧
      (fourRounds false).length ≤ 4 ∧ 2 ≤ ((fourRounds true).filter (·.isOpen)).length ∧
      ((collecting term5 .due).cash.roundNumbered 17).map (·.isOpen) = some true ∧
      (∀ c ∈ (collecting term5 .due).contexts, c.collection ≠ some 17) ∧
      (∃ c ∈ (collecting { term5 with collection := some 17 } .opened).contexts, c.collection = some 17) ∧
      rested.cash.roundNumbered 65535 = none := by decide
theorem witness_round_open_unlisted :
    (∀ n ∈ [4], ¬({ rested with cash := { rested.cash with rounds := fourRounds true } } : State).cash.listed n) ∧
      (collecting term5 .due).cash.listed 5 :=
  ⟨fun n _ ⟨r, hr, _, x, hx, _⟩ => by
      have : ∀ r ∈ fourRounds true, r.entries = [] := by decide
      rw [this r hr] at hx
      exact absurd hx List.not_mem_nil,
    ⟨_, List.mem_cons_self, rfl, { terminal := 5, state := .due }, by decide, rfl⟩⟩
/-- R110: terminal 5 is the one candidate of zone 3, and there is none without it. -/
theorem witness_round_build_candidates :
    readRoundBuild [0x00, 0x08, 0x31, 0x41, 0x59] = .ok (0x0008, 314159) ∧
      (∀ n, n ∈ [5] ↔ ∃ c, ({ rested with contexts := [term4, term5] } : State).context n = some c ∧
        (0x0008#16).getLsbD c.zone.val = true ∧ (c.faults.boxNearFull = true ∨ c.faults.boxFull = true) ∧
        ¬({ rested with contexts := [term4, term5] } : State).cash.listed n) ∧
      (∀ n, n ∈ ([] : List Nat) ↔ ∃ c, rested.context n = some c ∧ (0x0008#16).getLsbD c.zone.val = true ∧
        (c.faults.boxNearFull = true ∨ c.faults.boxFull = true) ∧ ¬rested.cash.listed n) := by
  have none_listed : ∀ n, ¬rested.cash.listed n := fun n ⟨r, hr, _⟩ => absurd hr List.not_mem_nil
  have context5 : ∀ n c, ({ rested with contexts := [term4, term5] } : State).context n = some c →
      n = 4 ∧ c = term4 ∨ n = 5 ∧ c = term5 := fun n c h => by
    have hm := List.mem_of_find?_eq_some h
    have hn := List.find?_some h
    simp only [List.mem_cons, List.not_mem_nil, or_false] at hm
    rcases hm with rfl | rfl
    · exact .inl ⟨(beq_iff_eq.mp hn).symm, rfl⟩
    · exact .inr ⟨(beq_iff_eq.mp hn).symm, rfl⟩
  refine ⟨by decide, fun n => ⟨fun h => ?_, ?_⟩, fun n => ⟨fun h => absurd h List.not_mem_nil, ?_⟩⟩
  · rw [List.mem_singleton.mp h]
    exact ⟨term5, by decide, by decide, .inl rfl, none_listed 5⟩
  · rintro ⟨c, hc, -, hb, -⟩
    rcases context5 n c hc with ⟨rfl, rfl⟩ | ⟨rfl, rfl⟩
    · exact absurd hb (by decide)
    · exact List.mem_cons_self
  · rintro ⟨c, hc, -, hb, -⟩
    have hm := List.mem_of_find?_eq_some hc
    rw [show c = term4 from List.mem_singleton.mp hm] at hb
    exact absurd hb (by decide)
theorem witness_FaultClearRemovesTheNamed :
    rested.ready = true ∧ ({ FaultSet.empty with coinPath := true } : FaultSet).clearable = true ∧ rested.context 127 = none ∧
      rested.context 4 = some term4 := by decide
theorem witness_ThresholdDefaultsApply :
    rested.ready = true ∧ rested.contextsKept ∧
      readThresholds (toBinary 2 3000 ++ toBinary 2 3000 ++ toBinary 2 2000) =
        .ok { nearFull := 3000, full := 3000, paperLow := 2000 } ∧ rested.context 4 = some term4 :=
  ⟨by decide, by unfold State.contextsKept; decide, by decide, by decide⟩
theorem witness_ThresholdOverridesApply :
    rested.ready = true ∧ rested.context 127 = none ∧ rested.context 4 = some term4 ∧ term4.override = none ∧
      term4.boxCapacity = 3000 ∧ term4.paperCapacity ≤ 2000 ∧
      (at1747 Line.cold { term4 with override := some .cold }).ready = true ∧ 127 < 128 ∧
      term4.boxCapacity < 3001 ∧ 1 ≤ term4.boxCapacity ∧ term4.paperCapacity < 1001 := by decide
theorem witness_LineSettingsAndPollLists :
    rested.ready = true ∧ (rested.line 0).state = .stopped ∧ (polled.line 0).state ≠ .stopped ∧
      readLineSet ([0] ++ toBinary 2 19200 ++ [250, 3, 50, 2, 4, 176, 1, 255, 8]) =
        .ok (0, { rate := 19200, window := 250, retries := 3, serviceLimit := 50, mode := .paced, period := 1200,
                  source := .host, interval := 255, leg := 8 }) ∧
      (∀ d ∈ List.replicate 40 (32 : Byte), 1 ≤ d.toNat ∧ d.toNat ≤ 32) := by decide
theorem witness_LineStartBeginsTheMode :
    polled.ready = true ∧ (polled.line 0).state ≠ .stopped ∧ (rested.line 0).pollList = [] ∧
      ((at1747 { Line.cold with pollList := [5], settings := { LineSettings.cold with mode := .paced } } term4).line 0).state =
        .stopped := by decide
/-- Line 0 STOPPED with a poll list and a mode. -/
def listed (mode : SweepMode) (drops : List Nat) : State :=
  at1747 { Line.cold with pollList := drops, settings := { LineSettings.cold with mode := mode } } term4

theorem witness_line_start_sweeps :
    (listed .single [31, 5]).ready = true ∧ ((listed .continuous [31]).line 0).pollList = [31] ∧
      ((listed .single [31, 5]).line 0).pollList = [31] ++ 5 :: [] ∧ ((listed .single [31, 5]).line 0).chain = none ∧
      ((listed .single [31, 5]).line 0).directed = [] ∧ (listed .single [31]).passesOver 0 [] [31] ∧
      (listed .single [31, 5]).pollable 0 [] 5 term4 ∧
      (((listed .paced [5]).onLine 0 fun L => { L with directed := [{ terminal := 4, kind := .plate }] }).line 0).directed =
        { terminal := 4, kind := .plate } :: [] :=
  ⟨by decide, by decide, by decide, by decide, by decide, passed31 _ _, polled5 _ _, by decide⟩
theorem witness_LineStopOwesTheQueue :
    polled.ready = true ∧ (rested.line 0).halted = true ∧ (polled.line 0).halted = false ∧ polled.context 4 = some term4 := by
  decide
theorem witness_NoticeTakeEmptiesTheReports :
    State.reset.notices = [] ∧ rested.notices = { kind := .terminal 4, count := 1 } :: [] ∧ rested.context 4 = some term4 ∧
      ∀ kind ∈ [NoticeKind.sweepComplete 3, .paceOverrun 0, .switchover, .referrals, .roundComplete],
        (State.reset.notice kind).notices = { kind := kind, count := 1 } :: [] ∧ (State.reset.notice kind).ready = true := by
  decide
theorem witness_StatusRestartAndUnknownKind : rested.ready = true ∧ 46 < (47 : Byte).toNat := by decide
theorem witness_OverlappingRequestsAreNotActedOn :
    hostFields (.clockGet 8 []) = some (8, 2, []) ∧ Instr.wf (.clockGet 8 []) = true ∧
      (State.reset.accepted 7 2).linkOpen = true ∧ (State.reset.accepted 7 2).link.outstanding ≠ none ∧
      ((State.reset.accepted 7 2).link.waiting.filter fun r => r.body == .overlap).length < 3 ∧
      3 ≤ ((List.replicate 3 ({ tag := 8, kind := 2, body := .overlap } : Reply)).filter fun r => r.body == .overlap).length := by
  decide
theorem witness_LinkEvents :
    State.reset.linkOpen = true ∧ State.reset.link.receiver = .hunting ∧ Receiver.receiving 0 ≠ .hunting ∧
      (State.reset.replied 1 2 .noSuch).link.sending = some { tag := 1, kind := 2, body := .noSuch } ∧ (2 : Byte) ≠ 46 ∧
      (State.reset.replied 1 46 (.done .plain)).link.sending = some { tag := 1, kind := 46, body := .done .plain } ∧
      (State.reset.onLink fun k => { k with starting := true }).linkOpen = false ∧
      hostFields (.clockGet 8 []) = some (8, 2, []) := by
  decide

theorem witness_hears : polled.hears 0 poll4 term4 := by
  unfold State.hears State.awaits
  decide

theorem witness_RequestsArePlaced :
    poll4.frame = .poll ∧ (5 : Byte).toNat = poll4.drop ∧ term4.inFlight = none ∧ term4.referral = none ∧
      readQuote (toMoney 99999) = some (some (.quote 99999)) ∧
      readSale [255, 0, 0, 0, 0, 0, 0, 41] = some (some (.sale { Coins.zero with p5 := 255 } (some 41))) ∧
      (∀ last, term4.last = some last → last.1 ≠ (87 : Byte).toNat) ∧
      readSession (toPacked 4 99999999 ++ toBinary 2 1440) = some (some (.session 99999999 1440)) ∧
      polled.permits.working = none := by
  refine ⟨by decide, by decide, by decide, by decide, by decide, by decide, ?_, by decide, by decide⟩
  intro last h
  cases h
  decide
/-- Terminal 4 SILENT, alone and beside a printer fault. -/
def silent4 (faults : FaultSet) : Context := { term4 with faults := { faults with silent := true } }
theorem witness_good_frame_of_a_silent_terminal :
    (∀ faults ∈ [FaultSet.empty, { FaultSet.empty with printer := true }], ∀ state ∈ [LineState.stopping, .awaitReply],
      (at1747 { inExchange poll4 with state := state } (silent4 faults)).awaits 0 poll4 (silent4 faults)) ∧
      (silent4 .empty).revived = true ∧ (silent4 { FaultSet.empty with printer := true }).revived = false ∧
      (silent4 .empty).faults.silent = true ∧ (silent4 .empty).owedOnceHeard.kinds = .condition :: [] ∧
      (silent4 { FaultSet.empty with printer := true }).owedOnceHeard.kinds = [] ∧
      (silent4 .empty).inFlight = none ∧ (silent4 .empty).referral = none := by
  unfold State.awaits
  decide
theorem witness_RequestsAnsweredAtOnce :
    poll4.frame = .poll ∧ term4.inFlight = none ∧ term4.last.map (·.1) = some (86 : Byte).toNat ∧
      readSale [0, 0, 0, 0, 0, 2] = some (some (.sale { Coins.zero with p200 := 2 } none)) ∧ readSale (List.replicate 6 0) = some none ∧
      readQuote [0, 0x0A, 0, 0] = some none ∧ readSession (toPacked 4 0 ++ toBinary 2 60) = some none ∧
      (referred.waitingOf 4) = some referral7 ∧ polled.waitingOf 4 = none := by decide
/-- Terminal 4 with a request in flight that was withdrawn, and with a referral WAITING and DECIDED, on a line that waits for
its reply. -/
theorem witness_requests_meet :
    let mark : ReferralMark := { referral := 7, request := 14 }
    let busy : Context := { term4 with inFlight := some { kind := .quote, number := 87, withdrawn := true } }
    let waiting : Context := { term4 with referral := some mark }
    let decided := { referral7 with decision := some .deny }
    let on (r : Referral) : State :=
      { at1747 (inExchange poll4) waiting with permits := { State.reset.permits with referrals := [r] } }
    (at1747 (inExchange poll4) busy).hears 0 poll4 busy ∧ busy.inFlight ≠ none ∧
      (on referral7).hears 0 poll4 waiting ∧ waiting.referral = some mark ∧ mark.request = (14 : Byte).toNat ∧
      mark.request ≠ (86 : Byte).toNat ∧ waiting.last.map (·.1) = some (86 : Byte).toNat ∧
      (on referral7).impliedCancel 4 mark = ([], none) ∧ (on decided).impliedCancel 4 mark = ([decided], some mark) ∧
      readSession (toPacked 4 40117022 ++ toBinary 2 90) = some (some (.session 40117022 90)) ∧
      (on referral7).permits.working = none := by
  unfold State.hears State.awaits
  decide
theorem witness_RepeatedAndHeldEventsDoNothing :
    polled.hears 0 poll4 term4 ∧ term4.lastEvent = some (200 : Byte).toNat ∧ term4.lastEvent ≠ some (202 : Byte).toNat ∧
      (at1747 (inExchange poll4) { term4 with events := term4.events ++ term4.events }).hears 0 poll4
        { term4 with events := term4.events ++ term4.events } ∧ 4 ≤ (term4.events ++ term4.events).length := by
  unfold State.hears State.awaits
  decide
theorem witness_SensorEventsChangeTheFaultSet :
    polled.hears 0 poll4 term4 ∧ poll4.frame = .poll ∧ term4.lastEvent ≠ some (201 : Byte).toNat ∧ term4.events.length < 4 := by
  unfold State.hears State.awaits
  decide

theorem witness_DoorAndBoxEvents :
    (collecting term5 .due).hears 0 { poll4 with terminal := 5, drop := 6 } term5 ∧
      term5.lastEvent ≠ some (201 : Byte).toNat ∧ term5.events.length < 4 ∧
      (collecting term5 .due).cash.roundOf 5 = some (round17 [{ terminal := 4, state := .due }, { terminal := 5, state := .due }]) ∧
      (round17 [{ terminal := 4, state := .due }, { terminal := 5, state := .due }]).entryState 5 = some .due ∧
      ((collecting term5 .opened).cash.roundOf 5).bind (·.entryState 5) = some .opened ∧
      ((collecting term5 .lifted).cash.roundOf 5).bind (·.entryState 5) = some .lifted ∧ some 999999 ≠ some (round17 []).code ∧
      ((collecting term5 .due).cash.lifted.filter fun r => r.terminal == 5).length < 2 ∧
      (lastOf .lifted).hears 0 { poll4 with terminal := 5, drop := 6 } { term5 with collection := some 17 } := by
  unfold State.hears State.awaits
  decide
/-- R105: two records of terminal 5, the newer of them before one of another terminal. -/
theorem witness_merge :
    let newer := { record301 with number := 302 }
    let other := { record301 with number := 303, terminal := 4 }
    [record301, newer, other] = [record301] ++ newer :: [other] ∧
      2 ≤ ([record301, newer, other].filter fun r => r.terminal == 5).length ∧ newer.terminal = 5 ∧
      ∀ r ∈ [other], r.terminal ≠ 5 := by decide

/-- A STOPPING line in an exchange with terminal 4. -/
def stopping (sent : SentFrame) (c : Context) : State := at1747 { inExchange (asked sent) with state := .stopping } c

def result7 : HeldResult := { referral := 7, request := 14, outcome := .refusal .permitUnknown }

/-- The chain of terminal 4's PLATE with so many blocks acknowledged. -/
def chain4 (acked : Nat) : Chain := { terminal := 4, zone := 3, copy := { letter := .a, version := 65535, tariff := none }, acked := acked }

/-- A line with that chain, in the exchange of its next block. -/
def plating (acked : Nat) (state : LineState) : State :=
  at1747
    { inExchange (asked (.order (.plate (acked + 1) (plateBlock 3 (chain4 0).copy (acked + 1))))) with
      state := state, chain := some (chain4 acked), settings := { LineSettings.cold with mode := .single }, pass := .none }
    term4

theorem witness_ExchangesEnd :
    (stopping .poll term4).hears 0 poll4 term4 ∧ ((stopping .poll term4).line 0).chain = none ∧
      (stopping (.order (.clock ⟨1002, 64020⟩)) term4).hears 0 (asked (.order (.clock ⟨1002, 64020⟩))) term4 ∧
      (stopping (.order (.result (some result7))) { term4 with held := some result7 }).hears 0
        (asked (.order (.result (some result7)))) { term4 with held := some result7 } ∧
      (at1747 { inExchange poll4 with settings := { LineSettings.cold with mode := .single }, pass := .none } term4).hears 0 poll4
        term4 ∧ (polled.line 0).halted = false ∧ (polled.line 0).directed = [] ∧ term4.owed = .none := by
  unfold State.hears State.awaits
  decide
/-- R28: block 4 of a present slot, and block 1 of an absent one. -/
theorem test_plate_blocks :
    plateBlock 3 { letter := .a, version := 42, tariff := some tariff3 } 4 =
        { zone := 3, bands := [], notTariffed := false, tail := some (60, 240, 42) } ∧
      plateBlock 7 { letter := .a, version := 42, tariff := none } 1 =
        { zone := 7, bands := [], notTariffed := true, tail := none } := by decide
/-- Blocks 1, 3 and 4 of a chain on a STOPPING line and on one in use. -/
theorem witness_plate_chain :
    (∀ acked ∈ [0, 2, 3], ∀ state ∈ [LineState.stopping, .awaitReply],
      (plating acked state).hears 0
          (asked (.order (.plate (acked + 1) (plateBlock 3 (chain4 0).copy (acked + 1))))) term4 ∧
        ((plating acked state).line 0).chain = some (chain4 acked)) ∧
      (plateBlock 3 (chain4 0).copy 4).tail = some (0, 0, 65535) ∧ (plateBlock 3 (chain4 0).copy 3).tail = none ∧
      ((plating 2 .awaitReply).line 0).halted = false ∧ ((plating 2 .awaitReply).line 0).pass = .none := by
  unfold State.hears State.awaits
  decide +kernel
/-- R162: all four kinds owed with an empty queue, and a queue of 16 entries for other terminals. -/
theorem witness_owed_orders :
    ({ condition := true, clock := true, result := true, plate := true } : OwedOrders).kinds =
        .condition :: [.clock, .result, .plate] ∧
      (List.replicate 16 ({ terminal := 9, kind := .message [65] } : Directed)).length = 16 ∧
      ∀ x ∈ List.replicate 16 ({ terminal := 9, kind := .message [65] } : Directed), x.terminal ≠ 4 := by decide
/-- Line 0 waits for terminal 4's reply, its sweep standing at a position of a poll list. -/
def sweeping (mode : SweepMode) (drops : List Nat) (position : Nat) (leg : Leg) : State :=
  at1747
    { inExchange poll4 with
      settings := { LineSettings.cold with mode := mode, leg := 2 }, pollList := drops, position := position, leg := leg }
    term4

theorem witness_sweep_polls :
    (sweeping .single [5, 31, 5] 2 .none).hears 0 poll4 term4 ∧ (sweeping .single [5, 31, 5] 2 .none).contextsKept ∧
      ((sweeping .single [5, 31, 5] 2 .none).line 0).before ([31] ++ 5 :: []) ∧
      ((sweeping .single [5, 31, 5] 2 .none).line 0).pass = .running ∧
      (sweeping .single [5, 31, 5] 2 .none).passesOver 0 [4] [31] ∧ (sweeping .single [5, 31, 5] 2 .none).pollable 0 [4] 5 term4 ∧
      ((sweeping .single [5, 31, 5] 2 .none).line 0).chain = none ∧ ((sweeping .single [5, 31, 5] 2 .none).line 0).directed = [] := by
  refine ⟨by unfold State.hears State.awaits; decide, by unfold State.contextsKept; decide, ⟨[5], by decide⟩, by decide, passed31 _ _,
    polled5 _ _, by decide, by decide⟩
/-- The end of a pass: the last entry passed over, or its own exchange ended, with its earliest start reached or not. -/
theorem witness_sweep_ends :
    ((sweeping .single [5, 31] 2 .none).line 0).before [31] ∧ (sweeping .single [5, 31] 2 .none).passesOver 0 [4] [31] ∧
      ((sweeping .continuous [5] 2 .none).line 0).before [] ∧ ((sweeping .continuous [5] 2 .none).line 0).earliestReached = false ∧
      ((sweeping .continuous [5] 2 .none).line 0).settings.period = 0 ∧
      ((sweeping .continuous [5] 2 .none).line 0).madeExchange = true ∧
      (((sweeping .continuous [5] 2 .none).onLine 0 fun L => { L with settings := { L.settings with period := 1200 } }).line
        0).settings.period ≠ 0 ∧
      (sweeping .continuous [5] 2 .none).pollable 0 [] 5 term4 :=
  ⟨⟨[5], by decide⟩, passed31 _ _, ⟨[5], by decide⟩, by decide, by decide, by decide, by decide, polled5 _ _⟩
/-- A RUNNING leg with 2, 1 and no entries left, and a PENDING one of 2. -/
theorem witness_leg :
    ((sweeping .paced [5, 31, 5] 2 (.running 2)).line 0).legLeft 2 ∧
      ((sweeping .paced [5, 31, 5] 2 (.running 2)).line 0).before ([31] ++ 5 :: []) ∧
      ((sweeping .paced [5, 31, 5] 2 (.running 1)).line 0).before ([31] ++ [5]) ∧
      ((sweeping .paced [5] 2 (.running 0)).line 0).before [] ∧ ((sweeping .paced [5, 31] 1 .pending).line 0).legLeft 2 ∧
      ((sweeping .paced [5, 31] 1 .pending).line 0).before ([] ++ 5 :: [31]) ∧
      (sweeping .paced [5, 31, 5] 2 (.running 2)).passesOver 0 [4] [31] ∧ (sweeping .paced [5, 31] 1 .pending).pollable 0 [4] 5 term4 :=
  ⟨.inl (by decide), ⟨[5], by decide⟩, ⟨[5], by decide⟩, ⟨[5], by decide⟩, .inr (by decide), ⟨[], by decide⟩, passed31 _ _,
    polled5 _ _⟩
/-- The ACK of a CLOCK order with a MESSAGE queued behind it. -/
theorem witness_directed_first :
    let clock := asked (.order (.clock ⟨1002, 64020⟩))
    let s := at1747
      { inExchange clock with directed := [{ terminal := 4, kind := .message [65] }], pollList := [5, 5] } term4
    s.hears 0 clock term4 ∧ (s.line 0).halted = false ∧ s.contextsKept ∧ (s.line 0).chain = none ∧
      (s.line 0).directed = { terminal := 4, kind := .message [65] } :: [] ∧ s.context 4 = some term4 ∧
      (s.line 0).position ≤ (s.line 0).pollList.length ∧ (s.line 0).leg ≠ .running 0 := by
  unfold State.hears State.awaits State.contextsKept
  decide
theorem witness_RejectedFramesAreCounted :
    polled.hears 0 poll4 term4 ∧ poll4.triesUsed < poll4.triesAllowed ∧
      [clean 1, { clean 2 with early := true }].find? faulty = some { clean 2 with early := true } ∧
      [clean 0x5A].find? faulty = none ∧ openLineFrame ([clean 0x5A].map (·.byte)) = none := by
  unfold State.hears State.awaits
  decide +kernel
/-- A frame whole to its length with more after it, and one cut short. -/
theorem witness_framed :
    framed (([0x5A, 6, 0, 17] ++ toBinary 2 (frameCheck [6, 0, 17]).toNat).map clean) [flipped 1 0x200] ∧
      framed [clean 0x5A, clean 6, clean 80] [] :=
  ⟨.inl ⟨clean 0, by decide +kernel, by decide +kernel⟩,
    .inr ⟨rfl, fun length h => by rw [show length = clean 80 from (Option.some.inj h).symm]; decide +kernel⟩⟩
theorem witness_frame_from_another_drop :
    openLineFrame ([0x5A, 6, 0, 17] ++ toBinary 2 (frameCheck [6, 0, 17]).toNat) = some (6, 17, []) ∧ (6 : Byte).toNat ≠ poll4.drop := by
  decide +kernel
theorem witness_PhasesOfATryAndOfAPass :
    polled.mainSupply = true ∧ (polled.line 0).exchange = some poll4 ∧ poll4.phase = .window ∧
      ({ poll4 with phase := .send } : Exchange).phase = .send ∧ ({ poll4 with phase := .receive } : Exchange).phase = .receive ∧
      ({ poll4 with phase := .answer } : Exchange).phase = .answer ∧
      (rested.line 0).listening = none ∧ (rested.line 0).driving = false ∧ (polled.line 0).settings.mode = .continuous := by
  decide
/-- An ANSWER being sent on a STOPPING line and on one in use, nothing and everything owed; and an IDLE line whose pass waits. -/
theorem witness_answer_sent :
    let answering : Exchange := { poll4 with phase := .answer, answer := some (201, .taken) }
    let L : Line := { inExchange answering with
      driving := true, settings := { LineSettings.cold with mode := .single }, pass := .none }
    let owing : Context := { term4 with owed := { condition := true, clock := true, result := false, plate := true } }
    ((at1747 L owing).line 0).exchange = some answering ∧ ((at1747 L owing).line 0).driving = true ∧
      ((at1747 L owing).line 0).halted = false ∧ ((at1747 { L with state := .stopping } term4).line 0).state = .stopping ∧
      (at1747 L owing).context 4 = some owing ∧ (at1747 L owing).contextsKept ∧
      owing.owed.kinds = .condition :: [.clock, .plate] ∧ (at1747 L term4).context 4 = some term4 ∧ term4.owed = .none := by
  unfold State.contextsKept
  decide
theorem witness_idle_pass_waits :
    let s := at1747 { Line.cold with state := .idle, pass := .waiting, pollList := [31, 5] } term4
    s.mainSupply = true ∧ (s.line 0).settings.mode = .continuous ∧ (s.line 0).before ([31] ++ 5 :: []) ∧
      s.passesOver 0 [] [31] ∧ s.pollable 0 [] 5 term4 :=
  ⟨by decide, by decide, ⟨[], by decide⟩, passed31 _ _, polled5 _ _⟩
theorem witness_WindowExpiryResendsOrFails :
    polled.mainSupply = true ∧ (polled.line 0).exchange = some poll4 ∧ poll4.phase = .window ∧
      poll4.triesUsed < poll4.triesAllowed ∧ (polled.line 0).turnaround = false ∧
      ({ poll4 with triesUsed := 3 } : Exchange).triesAllowed ≤ 3 ∧ ((stopping .poll term4).line 0).state = .stopping ∧
      ((stopping .poll term4).line 0).chain = none ∧ (stopping .poll term4).context 4 = some term4 ∧ term4.line = 0 ∧
      ((plating 2 .stopping).line 0).state = .stopping ∧ ((plating 2 .stopping).line 0).chain = some (chain4 2) ∧
      (chain4 2).terminal = poll4.terminal := by decide
/-- The last try of an order fails on a line in use: with nothing to take, and with an entry for terminal 5. -/
theorem witness_failure_in_use :
    let last := { asked (.order (.result (some result7))) with triesUsed := 3 }
    let L : Line := { inExchange last with settings := { LineSettings.cold with mode := .single }, pass := .none }
    let s := { at1747 { L with directed := [{ terminal := 5, kind := .clock }] } term4 with contexts := [term4, term5] }
    ((at1747 L term4).line 0).exchange = some last ∧ last.phase = .window ∧ last.triesAllowed ≤ last.triesUsed ∧
      ((at1747 L term4).line 0).halted = false ∧ ((at1747 L term4).line 0).chain = none ∧
      ((at1747 L term4).line 0).directed = [] ∧ ((at1747 L term4).line 0).pass = .none ∧
      (s.line 0).directed = { terminal := 5, kind := .clock } :: [] ∧ s.context 5 = some term5 ∧
      s.context 4 = some term4 := by decide
theorem witness_ServiceLimitWithdraws :
    selling.mainSupply = true ∧ (selling.line 0).exchange.map (·.phase) = some .engine ∧
      ((selling.line 0).exchange.bind (·.taken)) = some (.request 87 (some (.sale { Coins.zero with p200 := 2 } none))) ∧
      (selling.line 0).turnaround = false ∧ selling.fareWaits 4 87 = false ∧
      ({ selling with fare := { selling.fare with
          queue := [(under .sale (.money 400) tariff3 1002 1067 .weekday .weekday).entry] } } : State).fareWaits 4 87 = true := by
  decide
/-- The SESSION 15 of terminal 4 in the ENGINE phase: its LOOKUP waiting, in progress, its walk waiting, its walk computed. -/
theorem witness_session_withdrawn :
    let c : Context := { term4 with inFlight := some { kind := .session, number := 15, withdrawn := false } }
    let waits : State := looking.onPermits fun t => { t with queue := [.get 1, .lookup ask, .drop 2], working := some (.settled .noSuch) }
    looking.context 4 = some c ∧ (looking.line 0).exchange.map (fun e => (e.terminal, e.phase)) = some (4, .engine) ∧
      (looking.line 0).exchange.bind (·.taken) = some (.request 15 (some (.session 40117022 90))) ∧
      (looking.line 0).turnaround = false ∧ waits.permits.queue = [.get 1] ++ .lookup ask :: [.drop 2] ∧
      ask.terminal = 4 ∧ ask.request = 15 ∧ looking.permits.queue = [] ∧
      looking.permits.working = some (.lookup ask false) ∧ charging.permits.working = none ∧ charging.fareWaits 4 15 = false ∧
      ({ charging with fare := { charging.fare with queue := [caseD.entry] } } : State).fareWaits 4 15 = true ∧
      (charging.line 0).exchange = (looking.line 0).exchange ∧
      (looking.onPermits fun t => { t with working := some (.lookup ask true) }).permits.working = some (.lookup ask true) := by
  decide
theorem witness_other_operations :
    ∀ o ∈ ([.get 1] ++ [.drop 2] : List PermitOp), ∀ p, o = .lookup p → ¬(p.terminal = 4 ∧ p.request = 15) := by
  simp
theorem witness_PowerAndWarmStartsKeepTheRetained :
    rested.retentionHeld = true ∧ State.reset.clock.valid = false ∧ rested.tariffs.due rested.clock.current = false ∧
      rested.mainSupply = true ∧ rested.contextsKept ∧ rested.attentionFollows ∧ rested.context 4 = some term4 ∧
      ({ term4 with faults := { term4.faults with silent := true } } : Context).condition ≠ term4.condition := by
  unfold State.contextsKept State.attentionFollows
  decide
theorem witness_ColdStartAndSupplies :
    ({ rested with mainSupply := false } : State).mainSupply = false ∧ rested.mainSupply = true ∧
      (State.reset.onLink fun k => { k with starting := true }).link.starting = true := by decide

end Sys2Proof.Tests
end

section
/-! The invariant of O5: the time can be shown, and the Calendar and the permit records stand in order. One lemma for each
operation that could change one of the three; all others leave the clock, the Calendar and the records as they are, so that
the invariant of the state before is that of the state after by unfolding. -/

namespace Sys2Proof.Machine

open Sys2Proof

/-- What O5 keeps (R1, R10, R79). -/
def State.inOrder (s : State) : Prop := s.clockShown ∧ s.calendarKept ∧ s.permitsKept

theorem OnlyTerminals.inOrder {s t : State} (k : OnlyTerminals s t) (h : s.inOrder) : t.inOrder := by
  obtain ⟨_, _, _, _, rfl⟩ := k
  exact h

theorem OnlyLines.inOrder {s t : State} (k : OnlyLines s t) (h : s.inOrder) : t.inOrder := k.terminals.inOrder h

/-! ### The clock -/

theorem Clock.tick_shown {c : Clock} (h : c.day ≤ 65535 ∧ c.second ≤ 86399) :
    c.tick.day ≤ 65535 ∧ c.tick.second ≤ 86399 := by
  unfold Clock.tick Clock.held
  split
  · exact h
  · split
    · exact ⟨h.1, by simp only; omega⟩
    · rename_i last more
      simp at last
      simp only
      omega

theorem tick_inOrder {s : State} (h : s.inOrder) : s.tick.inOrder := ⟨Clock.tick_shown h.1, h.2⟩

/-- A CLOCK SET body that is read gives a time the clock can show (R5). -/
theorem readClockSet_shown {body : List Byte} {t : Instant} (h : readClockSet body = .ok t) :
    t.day ≤ 65535 ∧ t.second ≤ 86399 := by
  unfold readClockSet sized checked at h
  split at h
  · by_cases day : number body 0 2 ≤ 65535 <;> by_cases second : number body 2 3 ≤ 86399 <;>
      simp [firstBad, within, day, second] at h
    rw [← h]
    exact ⟨day, second⟩
  · nomatch h

theorem switchover_inOrder {s : State} (h : s.inOrder) : s.switchover.inOrder :=
  ((askAll_only (s.onTariffs Tariffs.switch) .plate).trans (notice_only _ _).terminals).inOrder h

theorem presentMinute_inOrder {s : State} (h : s.inOrder) : s.presentMinute.inOrder := by
  unfold State.presentMinute
  split
  · exact h
  · split
    · exact h
    · exact switchover_inOrder h

theorem clockSet_inOrder {s : State} {t : Instant} (shown : t.day ≤ 65535 ∧ t.second ≤ 86399) (h : s.inOrder) :
    (s.clockSet t).inOrder :=
  (askAll_only _ _).inOrder (presentMinute_inOrder (s := State.onLines _ _) ⟨shown, h.2⟩)

theorem secondsEvent_inOrder {s : State} (h : s.inOrder) : s.secondsEvent.inOrder := by
  have ticked : s.scanAlong.tick.inOrder := tick_inOrder h
  unfold State.secondsEvent
  split
  · refine (onLines_only _ _).inOrder ?_
    split
    · exact presentMinute_inOrder ticked
    · exact ticked
  · split
    · exact tick_inOrder h
    · exact h

/-! ### The Calendar -/

theorem mem_putEntry {e x : CalendarEntry} {l : List CalendarEntry} (h : x ∈ putEntry e l) : x = e ∨ x ∈ l := by
  induction l with
  | nil => simpa [putEntry] using h
  | cons d rest ih =>
    unfold putEntry at h
    split at h
    · simpa using h
    · split at h
      · rcases List.mem_cons.mp h with rfl | h
        · exact .inl rfl
        · exact .inr (List.mem_cons_of_mem _ h)
      · rcases List.mem_cons.mp h with rfl | h
        · exact .inr List.mem_cons_self
        · exact (ih h).imp_right (List.mem_cons_of_mem _)

/-- An entry put into a Calendar in order leaves it in order (R10). -/
theorem putEntry_ascending (e : CalendarEntry) {l : List CalendarEntry} (h : (l.map (·.day)).Pairwise (· < ·)) :
    ((putEntry e l).map (·.day)).Pairwise (· < ·) := by
  rw [List.pairwise_map] at *
  induction l with
  | nil => simp [putEntry]
  | cons d rest ih =>
    obtain ⟨above, sorted⟩ := List.pairwise_cons.mp h
    unfold putEntry
    split
    · rename_i before
      refine List.pairwise_cons.mpr ⟨fun x hx => ?_, h⟩
      rcases List.mem_cons.mp hx with rfl | hx
      · exact before
      · exact before.trans (above x hx)
    · split
      · rename_i same
        exact List.pairwise_cons.mpr ⟨fun x hx => same ▸ above x hx, sorted⟩
      · refine List.pairwise_cons.mpr ⟨fun x hx => ?_, ih sorted⟩
        rcases mem_putEntry hx with rfl | hx
        · omega
        · exact above x hx

/-- Only an entry for a day that has none makes the Calendar longer (R10). -/
theorem length_putEntry_le (e : CalendarEntry) (l : List CalendarEntry) : (putEntry e l).length ≤ l.length + 1 := by
  induction l with
  | nil => simp [putEntry]
  | cons d rest ih =>
    unfold putEntry
    split
    · simp
    · split <;> simp [ih]

theorem length_putEntry_marked {e : CalendarEntry} {l : List CalendarEntry} (sorted : (l.map (·.day)).Pairwise (· < ·))
    (h : l.any (fun d => d.day == e.day) = true) : (putEntry e l).length = l.length := by
  rw [List.pairwise_map] at sorted
  induction l with
  | nil => simp at h
  | cons d rest ih =>
    obtain ⟨above, sorted⟩ := List.pairwise_cons.mp sorted
    unfold putEntry
    split
    · rename_i before
      obtain ⟨x, hx, same⟩ := List.any_eq_true.mp h
      have : x.day = e.day := by simpa using same
      rcases List.mem_cons.mp hx with rfl | hx
      · omega
      · have := above x hx
        omega
    · split
      · simp
      · rename_i other
        have : (d.day == e.day) = false := by simpa using Ne.symm other
        simpa using ih sorted (by simpa [this] using h)

theorem calendarPut_inOrder (e : CalendarEntry) {s : State} (h : s.inOrder) : (s.calendarPut e).inOrder := by
  obtain ⟨shown, ⟨sorted, bound⟩, permits⟩ := h
  unfold State.calendarPut
  split
  · exact ⟨shown, ⟨sorted, bound⟩, permits⟩
  · rename_i room
    refine ⟨shown, ⟨putEntry_ascending e sorted, ?_⟩, permits⟩
    show (putEntry e s.calendar).length ≤ Config.calendarCapacity
    by_cases marked : s.marked e.day = true
    · exact (length_putEntry_marked sorted marked).trans_le bound
    · have := length_putEntry_le e s.calendar
      have fits : s.calendar.length < Config.calendarCapacity := by simpa [marked] using room
      exact this.trans fits

theorem calendarDrop_inOrder (day : Nat) {s : State} (h : s.inOrder) : (s.calendarDrop day).inOrder := by
  obtain ⟨shown, ⟨sorted, bound⟩, permits⟩ := h
  have kept := List.filter_sublist (p := fun e : CalendarEntry => e.day != day) (l := s.calendar)
  unfold State.calendarDrop
  split
  · exact ⟨shown, ⟨sorted.sublist (kept.map _), kept.length_le.trans bound⟩, permits⟩
  · exact ⟨shown, ⟨sorted, bound⟩, permits⟩

/-! ### The permit records -/

/-- A change to records that keeps their numbers. -/
theorem map_permits_inOrder {s : State} (f : Permit → Permit) (keeps : ∀ p, (f p).number = p.number) (h : s.inOrder) :
    (s.onPermits fun t => { t with records := t.records.map f }).inOrder := by
  refine ⟨h.1, h.2.1, ?_⟩
  show ((s.permits.records.map f).map (·.number)).Pairwise (· < ·)
  rw [List.map_map, show (fun p : Permit => p.number) ∘ f = fun p => p.number from funext keeps]
  exact h.2.2

theorem onPermit_inOrder {s : State} (number : Nat) (f : Permit → Permit) (keeps : ∀ p, (f p).number = p.number)
    (h : s.inOrder) : (s.onPermit number f).inOrder :=
  map_permits_inOrder (fun p => if p.number = number then f p else p) (fun p => by split <;> simp [keeps]) h

theorem clearClaim_inOrder (claim : Claim) {s : State} (h : s.inOrder) : (s.clearClaim claim).inOrder :=
  map_permits_inOrder (fun p => if p.claim = some claim then { p with claim := none } else p)
    (fun p => by split <;> rfl) h

theorem mem_insertPermit {p q : Permit} {l : List Permit} (h : q ∈ insertPermit p l) : q = p ∨ q ∈ l := by
  induction l with
  | nil => simpa [insertPermit] using h
  | cons d rest ih =>
    unfold insertPermit at h
    split at h
    · simpa using h
    · rcases List.mem_cons.mp h with rfl | h
      · exact .inr List.mem_cons_self
      · exact (ih h).imp_right (List.mem_cons_of_mem _)

/-- A record of a number that none has goes in at its ascending place (R83). -/
theorem insertPermit_ascending {p : Permit} {l : List Permit} (h : (l.map (·.number)).Pairwise (· < ·))
    (fresh : ∀ q ∈ l, q.number ≠ p.number) : ((insertPermit p l).map (·.number)).Pairwise (· < ·) := by
  rw [List.pairwise_map] at *
  induction l with
  | nil => simp [insertPermit]
  | cons d rest ih =>
    obtain ⟨above, sorted⟩ := List.pairwise_cons.mp h
    unfold insertPermit
    split
    · rename_i before
      refine List.pairwise_cons.mpr ⟨fun x hx => ?_, h⟩
      rcases List.mem_cons.mp hx with rfl | hx
      · exact before
      · exact before.trans (above x hx)
    · refine List.pairwise_cons.mpr ⟨fun x hx => ?_, ih sorted fun q hq => fresh q (List.mem_cons_of_mem _ hq)⟩
      rcases mem_insertPermit hx with rfl | hx
      · have := fresh d List.mem_cons_self
        omega
      · exact above x hx

theorem loadRecord_inOrder (f : PermitFields) {s : State} (h : s.inOrder) : (s.loadRecord f).inOrder := by
  unfold State.loadRecord
  split
  · exact onPermit_inOrder f.number (fun p => p.replace f) (fun _ => rfl) h
  · rename_i absent
    refine ⟨h.1, h.2.1, insertPermit_ascending h.2.2 fun q hq => ?_⟩
    simpa [PermitFields.record] using List.find?_eq_none.mp absent q hq

theorem loadAll_inOrder {s : State} (h : s.inOrder) (records : List PermitFields) (inserted replaced : Nat) :
    (s.loadAll records inserted replaced).1.inOrder := by
  induction records generalizing s inserted replaced with
  | nil => exact h
  | cons f rest ih =>
    unfold State.loadAll
    split <;> exact ih (loadRecord_inOrder f h) _ _

/-! ### Referrals, claims and walks -/

theorem dropReferral_inOrder (r : Referral) {s : State} (h : s.inOrder) : (s.dropReferral r).inOrder := h

theorem placeFare_inOrder (e : FareEntry) {s : State} (h : s.inOrder) : (s.placeFare e).inOrder := by
  rw [placeFare_eq]
  exact h

theorem hold_inOrder (n : Nat) (held : HeldResult) {s : State} (h : s.inOrder) : (s.hold n held).inOrder :=
  (hold_only s n held).inOrder h

theorem finish_inOrder (n request : Nat) (answer : Answer) {s : State} (h : s.inOrder) :
    (s.finish n request answer).inOrder := (finish_only s n request answer).inOrder h

theorem act_inOrder (n : Nat) (f : Context → Context) {s : State} (h : s.inOrder) : (s.act n f).inOrder :=
  (act_only s n f).inOrder h

theorem refuseReferral_inOrder (r : Referral) (reason : Reason) {s : State} (h : s.inOrder) :
    (s.refuseReferral r reason).inOrder := dropReferral_inOrder r (hold_inOrder _ _ h)

theorem withdrawn_inOrder (n request : Nat) {s : State} (h : s.inOrder) : (s.withdrawn n request).inOrder :=
  clearClaim_inOrder _ (s := s.scanAlong.onContext n fun c => { c with inFlight := none }) h

theorem refer_inOrder (l : Lookup) {s : State} (h : s.inOrder) : (s.refer l).inOrder := by
  unfold State.refer
  split
  · exact finish_inOrder _ _ _ h
  · exact (notice_only _ _).inOrder (finish_inOrder _ _ _ h)

theorem claimSession_inOrder (l : Lookup) (p : Permit) (cap : Nat) {s : State} (h : s.inOrder) :
    (s.claimSession l p cap).inOrder :=
  placeFare_inOrder _ (onPermit_inOrder l.permit _ (by intro _; rfl) h)

theorem lookupChecks_inOrder (l : Lookup) {s : State} (h : s.inOrder) : (s.lookupChecks l).inOrder := by
  have refused (reason : Reason) := finish_inOrder l.terminal l.request (.refused reason) h
  unfold State.lookupChecks
  simp only
  split
  · exact refused _
  · split
    · exact refused _
    · split
      · split
        · exact refer_inOrder l h
        · exact refused _
      · split
        · exact refused _
        · exact claimSession_inOrder _ _ _ h

/-! ### The permit queue -/

theorem grantOnce_inOrder (r : Referral) (minutes : Nat) {s : State} (h : s.inOrder) :
    (s.grantOnce r minutes).inOrder := by
  unfold State.grantOnce
  split
  · exact h
  · exact placeFare_inOrder _ h

theorem beginAnswer_inOrder (number : Nat) (decision : Decision) {s : State} (h : s.inOrder) :
    (s.beginAnswer number decision).inOrder := by
  unfold State.beginAnswer
  split
  · exact h
  · split
    · exact h
    · split
      · exact refuseReferral_inOrder _ _ (s := s.recordDecision number .deny) h
      · exact grantOnce_inOrder _ _ (s := s.recordDecision number _) h
      · split <;> exact h

theorem beginChange_inOrder (c : PermitChange) {s : State} (h : s.inOrder) : (s.beginChange c).inOrder := by
  unfold State.beginChange
  split
  · exact h
  · split
    · exact h
    · exact onPermit_inOrder c.number (fun p => p.change c) (fun _ => rfl) h

theorem beginOp_inOrder (op : PermitOp) {s : State} (h : s.inOrder) : (s.beginOp op).inOrder := by
  cases op with
  | lookup l => exact h
  | load records => unfold State.beginOp; simp only; split <;> exact h
  | change c => exact beginChange_inOrder c h
  | drop number =>
    unfold State.beginOp
    simp only
    split
    · exact h
    · exact ⟨h.1, h.2.1, h.2.2.sublist (List.filter_sublist.map _)⟩
  | get number => unfold State.beginOp; simp only; split <;> exact h
  | scan first count => exact h
  | answer referral decision => exact beginAnswer_inOrder referral decision h

theorem placeOp_inOrder (op : PermitOp) {s : State} (h : s.inOrder) : (s.placeOp op).inOrder := by
  unfold State.placeOp
  split
  · exact beginOp_inOrder op h
  · exact h

theorem nextOp_inOrder {s : State} (h : s.inOrder) : s.nextOp.inOrder := by
  unfold State.nextOp
  split
  · exact h
  · exact beginOp_inOrder _ (s := s.onPermits _) h

theorem grantChecks_inOrder (number : Nat) (record : PermitFields) {s : State} (h : s.inOrder) :
    (s.grantChecks number record).inOrder := by
  unfold State.grantChecks
  split
  · exact h
  · split
    · split
      · exact refuseReferral_inOrder _ _ h
      · exact placeFare_inOrder _ (onPermit_inOrder record.number _ (by intro _; rfl) h)
    · exact dropReferral_inOrder _ h

theorem completeOp_inOrder {s : State} (h : s.inOrder) : s.completeOp.inOrder := by
  unfold State.completeOp
  split
  · exact h
  · exact h
  · exact nextOp_inOrder (s := s.reply _) h
  · exact nextOp_inOrder (s := s.completeScan _ _) h
  · exact nextOp_inOrder (s := State.done _ _) (loadAll_inOrder h _ _ _)
  · refine nextOp_inOrder (s := State.done _ _) (grantChecks_inOrder _ _ ?_)
    split
    · exact h
    · exact loadRecord_inOrder _ h

theorem insertStep_inOrder {s : State} (h : s.inOrder) : s.insertStep.inOrder := by
  unfold State.insertStep
  split
  · split <;> exact loadRecord_inOrder _ h
  · exact loadRecord_inOrder _ h
  · exact h

theorem completeLookup_inOrder {s : State} (h : s.inOrder) : s.completeLookup.inOrder := by
  unfold State.completeLookup
  split
  · refine nextOp_inOrder ?_
    split
    · exact withdrawn_inOrder _ _ h
    · exact lookupChecks_inOrder _ h
  · exact h

theorem expireReferral_inOrder (number : Nat) {s : State} (h : s.inOrder) : (s.expireReferral number).inOrder := by
  unfold State.expireReferral
  split
  · exact h
  · split
    · exact h
    · exact refuseReferral_inOrder _ _ h

/-! ### Results and withdrawals -/

theorem commitSession_inOrder (c : Context) (r : FareResult) (f : Figures) (once : Bool) {s : State} (h : s.inOrder) :
    (s.commitSession c r f once).inOrder := by
  unfold State.commitSession
  refine act_inOrder _ _ ?_
  split
  · exact onPermit_inOrder _ _ (by intro _; rfl) h
  · exact h

theorem takeSession_inOrder (c : Context) (flight : InFlight) (r : FareResult) (version : Nat) (walk : Walk) {s : State}
    (h : s.inOrder) : (s.takeSession c flight r version walk).inOrder := by
  unfold State.takeSession
  split
  · exact finish_inOrder _ _ _ h
  · exact finish_inOrder _ _ _ (s := State.onContext _ _ _) (commitSession_inOrder c r _ false h)

theorem commitSale_inOrder (c : Context) (flight : InFlight) (coins : Coins) (quoteVersion : Option Nat) (r : FareResult)
    (version : Nat) (f : Figures) {s : State} (h : s.inOrder) :
    (s.commitSale c flight coins quoteVersion r version f).inOrder := by
  unfold State.commitSale
  exact finish_inOrder _ _ _ (s := State.onContext _ _ _) (act_inOrder _ _ h)

theorem takeSale_inOrder (c : Context) (flight : InFlight) (coins : Coins) (quoteVersion : Option Nat) (r : FareResult)
    (version : Nat) (walk : Walk) {s : State} (h : s.inOrder) :
    (s.takeSale c flight coins quoteVersion r version walk).inOrder := by
  unfold State.takeSale
  split
  · split
    · exact finish_inOrder _ _ _ h
    · exact commitSale_inOrder _ _ _ _ _ _ _ h
  · split
    · exact finish_inOrder _ _ _ h
    · exact h

theorem takeTerminal_inOrder (n request : Nat) (r : FareResult) {s : State} (h : s.inOrder) :
    (s.takeTerminal n request r).inOrder := by
  unfold State.takeTerminal
  split
  · exact h
  · split
    · exact h
    · split
      · exact h
      · split
        · split
          · exact finish_inOrder _ _ _ h
          · exact takeSale_inOrder _ _ _ _ _ _ _ h
          · exact takeSession_inOrder _ _ _ _ _ h
        · exact h

theorem takeClaimed_inOrder (n request : Nat) (r : FareResult) {s : State} (h : s.inOrder) :
    (s.takeClaimed n request r).inOrder :=
  clearClaim_inOrder _ (takeTerminal_inOrder n request r (s := s.scanAlong) h)

theorem takeReferral_inOrder (number : Nat) (r : FareResult) (version : Nat) (walk : Walk) {s : State} (h : s.inOrder) :
    (s.takeReferral number r version walk).inOrder := by
  unfold State.takeReferral
  split
  · exact clearClaim_inOrder _ h
  · refine dropReferral_inOrder _ (clearClaim_inOrder _ ?_)
    split
    · exact h
    · split
      · exact hold_inOrder _ _ h
      · exact hold_inOrder _ _ (commitSession_inOrder _ _ _ _ h)

theorem computationComplete_inOrder {s : State} (h : s.inOrder) : s.computationComplete.inOrder := by
  have delivered (r : FareResult) : (s.deliver r).inOrder := by
    unfold State.deliver
    split
    · split
      · exact takeClaimed_inOrder _ _ _ h
      · exact takeTerminal_inOrder _ _ _ h
    · exact takeReferral_inOrder _ _ _ _ (s := s.scanAlong) h
    · exact h
    · exact h
  unfold State.computationComplete
  split
  · exact h
  · unfold State.serveFare
    split <;> exact delivered _

theorem withdraw_inOrder (n request : Nat) {s : State} (h : s.inOrder) : (s.withdraw n request).inOrder := by
  have fare {u : State} (h : u.inOrder) : (u.withdrawFare n request).inOrder := by
    unfold State.withdrawFare
    split
    · exact takeTerminal_inOrder _ _ _ (s := u.unqueueFare n request) h
    · exact h
  have walk {u : State} (h : u.inOrder) : (u.withdrawWalk n request).inOrder := by
    unfold State.withdrawWalk
    split
    · exact takeClaimed_inOrder _ _ _ (s := u.unqueueFare n request) h
    · exact h
  have session {u : State} (h : u.inOrder) : (u.withdrawSession n request).inOrder := by
    unfold State.withdrawSession
    split
    · exact withdrawn_inOrder n request (s := u.onPermits _) h
    · split
      · split
        · exact h
        · exact walk h
      · exact walk h
  unfold State.withdraw
  split
  · exact h
  · rename_i flight _
    split
    · have marked : (s.onContext n fun c => { c with inFlight := some { flight with withdrawn := true } }).inOrder := h
      simp only
      split
      · exact session marked
      · exact fare marked
      · exact fare marked
    · exact h

/-! ### What a terminal sends -/

theorem handAnswer_inOrder (n request : Nat) (answer : Answer) {s : State} (h : s.inOrder) :
    (s.handAnswer n request answer).inOrder := (handAnswer_only s n request answer).inOrder h

theorem cancelRequest_inOrder (n request : Nat) {s : State} (h : s.inOrder) : (s.cancelRequest n request).inOrder := by
  unfold State.cancelRequest
  split
  · exact handAnswer_inOrder _ _ _ (dropReferral_inOrder _ h)
  · exact handAnswer_inOrder _ _ _ h

theorem serveRequest_inOrder (c : Context) (number : Nat) (request : TermRequest) {s : State} (h : s.inOrder) :
    (s.serveRequest c number request).inOrder := by
  cases request with
  | quote amount => exact placeFare_inOrder _ h
  | sale coins version =>
    simp only [State.serveRequest]
    split
    · exact handAnswer_inOrder _ _ _ h
    · exact placeFare_inOrder _ h
  | session permit minutes =>
    simp only [State.serveRequest]
    split
    · exact handAnswer_inOrder _ _ _ h
    · exact placeOp_inOrder _ h
  | cancel => exact cancelRequest_inOrder _ _ h

theorem implicitCancel_inOrder (n : Nat) {s : State} (h : s.inOrder) : (s.implicitCancel n).inOrder := by
  unfold State.implicitCancel
  split
  · exact dropReferral_inOrder _ h
  · exact h

theorem takeRequest_inOrder (n number : Nat) (request : Option TermRequest) {s : State} (h : s.inOrder) :
    (s.takeRequest n number request).inOrder := by
  unfold State.takeRequest
  split
  · exact h
  · split
    · exact handAnswer_inOrder _ _ _ h
    · split
      · exact handAnswer_inOrder _ _ _ h
      · split
        · exact cancelRequest_inOrder _ _ h
        · split
          · exact serveRequest_inOrder _ _ _ h
          · split
            · exact handAnswer_inOrder _ _ _ h
            · exact serveRequest_inOrder _ _ _ (implicitCancel_inOrder n h)

theorem doorOpened_inOrder (n : Nat) (code : Option Nat) {s : State} (h : s.inOrder) : (s.doorOpened n code).inOrder := by
  unfold State.doorOpened
  simp only
  split
  · exact act_inOrder _ _ h
  · split
    · exact act_inOrder _ _ (s := s.onCash _) h
    · exact act_inOrder _ _ h

theorem boxLifted_inOrder (n : Nat) {s : State} (h : s.inOrder) : (s.boxLifted n).inOrder := by
  unfold State.boxLifted
  split
  · exact h
  · refine act_inOrder _ _ ?_
    split <;> exact h

theorem collectionEnded_inOrder (n : Nat) {s : State} (h : s.inOrder) : (s.collectionEnded n).inOrder := by
  have look (number : Nat) {u : State} (h : u.inOrder) : (u.lookAtRound number).inOrder := by
    unfold State.lookAtRound
    split
    · exact h
    · split <;> exact h
  unfold State.collectionEnded
  split
  · exact h
  · split
    · exact h
    · exact look _ (act_inOrder _ _ h)

theorem takeEvent_inOrder (n number : Nat) (event : Event) {s : State} (h : s.inOrder) :
    (s.takeEvent n number event).1.inOrder := by
  have hand : (s.handEvent n event).inOrder := by
    cases event
    case doorOpen code => exact doorOpened_inOrder n code h
    case doorClosed => exact collectionEnded_inOrder n h
    case boxReplaced => exact boxLifted_inOrder n h
    all_goals exact act_inOrder _ _ h
  unfold State.takeEvent
  split
  · exact h
  · split
    · exact h
    · split
      · exact (report_only _ _ _).inOrder (s := State.onContext _ _ _) hand
      · exact (report_only _ _ _).inOrder h

theorem ackOrder_inOrder (l : LineNo) (n : Nat) (content : OrderContent) {s : State} (h : s.inOrder) :
    (s.ackOrder l n content).inOrder := by
  cases content with
  | condition _ _ => exact h
  | clock _ => exact h
  | message _ => exact h
  | result held => exact h
  | plate block plate =>
    simp only [State.ackOrder]
    split
    · exact (report_only _ _ _).inOrder (s := State.onContext _ _ _) h
    · exact h

theorem handFrame_inOrder (l : LineNo) (e : Exchange) (frame : TermFrame) {s : State} (h : s.inOrder) :
    (s.handFrame l e frame).inOrder := by
  cases frame with
  | idle => exact (endExchange_only _ _ _).inOrder h
  | request number request => exact takeRequest_inOrder _ _ _ (s := s.onLine l _) h
  | event number event => exact takeEvent_inOrder e.terminal number event h
  | ack body =>
    simp only [State.handFrame]
    split
    · exact (endExchange_only _ _ _).inOrder (ackOrder_inOrder _ _ _ h)
    · exact h
  | unknown => exact h

theorem discardFrame_inOrder (l : LineNo) {s : State} (h : s.inOrder) : (s.discardFrame l).inOrder := by
  unfold State.discardFrame
  split <;> exact h

theorem received_inOrder (l : LineNo) (drop : Nat) (frame : TermFrame) {s : State} (h : s.inOrder) :
    (s.received l drop frame).inOrder := by
  unfold State.received
  split
  · exact discardFrame_inOrder l h
  · split
    · exact handFrame_inOrder _ _ _ ((goodFrame_only _ _ _).inOrder h)
    · exact (rejectFrame_only _ _ _ _).inOrder h

theorem receivedRaw_inOrder (l : LineNo) (received : List RxChar) {s : State} (h : s.inOrder) :
    (s.receivedRaw l received).inOrder := by
  unfold State.receivedRaw
  split
  · exact discardFrame_inOrder l h
  · simp only
    split
    · exact (rejectFrame_only _ _ _ _).inOrder h
    · split
      · exact (rejectFrame_only _ _ _ _).inOrder h
      · exact received_inOrder _ _ _ h

theorem frameDiscarded_inOrder (l : LineNo) {s : State} (h : s.inOrder) : (s.frameDiscarded l).inOrder := by
  unfold State.frameDiscarded
  split
  · exact discardFrame_inOrder l h
  · exact h

/-! ### The lines -/

theorem sweep_inOrder (l : LineNo) {s : State} (h : s.inOrder) : (s.sweep l).inOrder := by
  have effect : (s.sweepEffect l (s.line l).disposition).inOrder := by
    unfold State.sweepEffect
    split
    · exact h
    · exact (chooseIfIdle_only _ _).inOrder (s := s.onLine l _) h
    · exact (paceEvent_only s l).inOrder h
    · exact (paceEvent_only s l).inOrder h
  exact effect

theorem lineStart_inOrder (l : LineNo) {s : State} (h : s.inOrder) : (s.lineStart l).inOrder := by
  unfold State.lineStart
  split
  · exact h
  · exact (choose_only _ _).inOrder (s := State.dropNotices (s.onLine l _) _) h

theorem paceTick_inOrder (l : LineNo) {s : State} (h : s.inOrder) : (s.paceTick l).inOrder := by
  unfold State.paceTick
  simp only
  split
  · exact (paceEvent_only _ _).inOrder (s := s.onLine l _) h
  · exact h

theorem sent_inOrder (l : LineNo) {s : State} (h : s.inOrder) : (s.sent l).inOrder := by
  unfold State.sent
  split
  · split
    · exact h
    · split
      case h_2 => exact (endExchange_only _ _ _).inOrder h
      all_goals exact h
  · exact h

theorem windowOver_inOrder (l : LineNo) {s : State} (h : s.inOrder) : (s.windowOver l).inOrder := by
  unfold State.windowOver
  split
  · exact h
  · split
    · exact (noReply_only _ _ _ _).inOrder h
    · exact h

theorem serviceLimitOver_inOrder (l : LineNo) {s : State} (h : s.inOrder) : (s.serviceLimitOver l).inOrder := by
  unfold State.serviceLimitOver
  split
  · exact h
  · split
    · split
      · exact h
      · exact withdraw_inOrder _ _ (s := s.onLine l _) h
    · exact h

theorem earliestStart_inOrder (l : LineNo) {s : State} (h : s.inOrder) : (s.earliestStart l).inOrder := by
  unfold State.earliestStart
  split
  · split
    · exact (chooseIfIdle_only _ _).inOrder (s := s.onLine l _) h
    · exact h
    · exact h
  · exact h

/-! ### Terminals -/

theorem terminalSet_inOrder (f : TerminalSet) {s : State} (h : s.inOrder) : (s.terminalSet f).inOrder := by
  have created : (s.createTerminal f).inOrder := by
    unfold State.createTerminal
    exact ((((report_only _ _ _).trans (askOrder_only _ _ _)).trans (askOrder_only _ _ _)).trans
      (askOrder_only _ _ _)).inOrder (s := { s with contexts := insertContext _ s.contexts }) h
  have changed (c : Context) : (s.changeTerminal c f).inOrder := by
    unfold State.changeTerminal
    simp only
    have moved : (if c.line = f.line ∧ c.drop = f.drop then s.onContext c.number fun c => c.replace f
        else (s.onContext c.number fun c => c.replace f).moveTerminal c.number c.line).inOrder := by
      split <;> exact h
    have plated := fun {u : State} (h : u.inOrder) => (askOrder_only u c.number .plate).inOrder h
    split <;> split
    · exact moved
    · exact plated moved
    · exact act_inOrder _ _ moved
    · exact act_inOrder _ _ (plated moved)
  unfold State.terminalSet
  split
  · exact h
  · split
    · exact created
    · split
      · exact h
      · exact changed _

theorem terminalRemove_inOrder (n : Nat) {s : State} (h : s.inOrder) : (s.terminalRemove n).inOrder := by
  unfold State.terminalRemove
  split
  · exact h
  · split <;> exact h

theorem terminalOrder_inOrder (n : Nat) (order : Order) {s : State} (h : s.inOrder) :
    (s.terminalOrder n order).inOrder := by
  have suspended (c : Context) (b : Bool) : (s.setSuspended c b).inOrder := by
    unfold State.setSuspended
    split
    · exact h
    · exact act_inOrder _ _ h
  unfold State.terminalOrder
  split
  · exact h
  · split
    · unfold State.endCollection
      split
      · exact h
      · exact collectionEnded_inOrder _ h
    · exact suspended _ _
    · exact suspended _ _
    · unfold State.sendMessage
      simp only
      split
      · exact h
      · split
        · exact h
        · exact (chooseIfIdle_only _ _).inOrder (s := s.onLine _ _) h

/-! ### Cash, conditions and starts -/

theorem reevaluateAll_inOrder {s : State} (h : s.inOrder) : s.reevaluateAll.inOrder := (reevaluateAll_only s).inOrder h

theorem override_inOrder (c : Context) (o : Option Thresholds) {s : State} (h : s.inOrder) : (s.override c o).inOrder :=
  act_inOrder _ _ h

theorem restarted_inOrder (kind : StartKind) {s : State} (h : s.inOrder) : (s.restarted kind).inOrder :=
  map_permits_inOrder (fun p => { p with claim := none }) (fun _ => rfl) h

theorem reportChanged_inOrder {after : State} (s : State) (h : after.inOrder) : (after.reportChanged s).inOrder := by
  unfold State.reportChanged
  generalize s.changedBy after = numbers
  induction numbers generalizing after with
  | nil => exact h
  | cons n rest ih => exact ih ((report_only _ _ _).inOrder h)

theorem coldStart_inOrder (s : State) : s.coldStart.inOrder := by
  refine ⟨⟨Nat.zero_le _, Nat.zero_le _⟩, ⟨List.Pairwise.nil, Nat.zero_le _⟩, List.Pairwise.nil⟩

theorem powerStart_inOrder {s : State} (h : s.inOrder) : s.powerStart.inOrder := by
  have up := reportChanged_inOrder (after := (s.restarted .power).emptied) s (restarted_inOrder .power h)
  unfold State.powerStart
  simp only
  split
  · exact presentMinute_inOrder up
  · exact up

/-! ### Every command -/

theorem acceptFrame_inOrder (tag kind : Byte) {take : State → State} {s : State} (h : s.inOrder)
    (takes : ∀ u : State, u.inOrder → (take u).inOrder) : (s.acceptFrame tag kind take).inOrder := by
  unfold State.acceptFrame
  split
  · simp only
    split
    · exact h
    · exact takes _ h
  · exact h

/-- A request keeps the order when its act does, from fields that were read. -/
theorem request_inOrder {α : Type} {tag : Byte} {kind : Nat} {read : State → Except Nat α} {act : α → State → State}
    {s : State} (h : s.inOrder) (acts : ∀ a (u : State), read u = .ok a → u.inOrder → (act a u).inOrder) :
    (s.request tag kind read act).inOrder := by
  refine acceptFrame_inOrder _ _ h fun u hu => ?_
  unfold State.owned
  split
  · exact hu
  · rename_i a fields
    exact acts a u fields hu

theorem working_inOrder {act : State → State} {s : State} (h : s.inOrder)
    (acts : ∀ {u : State}, u.inOrder → (act u).inOrder) : (s.working act).inOrder := by
  unfold State.working
  split
  · exact acts h
  · exact h

theorem ifOpen_inOrder (f : Link → Link) {s : State} (h : s.inOrder) : (s.ifOpen f).inOrder := by
  unfold State.ifOpen
  split <;> exact h

theorem next_inOrder {u t : State} (e : Host.Outcome.next u = (.next t : Host.Outcome State Fault Refusal))
    (h : u.inOrder) : t.inOrder := by
  cases e
  exact h

/-! ### Requests of which every branch leaves the three alone -/

theorem tariffPut_inOrder (p : TariffPut) {s : State} (h : s.inOrder) : (s.tariffPut p).inOrder := by
  unfold State.tariffPut
  split <;> exact h

theorem tariffDrop_inOrder (bank : BankLetter) (zone : Zone) {s : State} (h : s.inOrder) :
    (s.tariffDrop bank zone).inOrder := by
  unfold State.tariffDrop
  split
  · exact h
  · split <;> exact h

theorem switchAt_inOrder (m : Moment) {s : State} (h : s.inOrder) : (s.switchAt m).inOrder := by
  unfold State.switchAt
  split
  · exact h
  · split <;> exact h

theorem switchCancel_inOrder {s : State} (h : s.inOrder) : s.switchCancel.inOrder := by
  unfold State.switchCancel
  split <;> exact h

theorem countEnter_inOrder (number amount : Nat) {s : State} (h : s.inOrder) : (s.countEnter number amount).inOrder := by
  unfold State.countEnter
  split <;> exact h

theorem roundOpen_inOrder (code : Nat) (terminals : List Nat) {s : State} (h : s.inOrder) :
    (s.roundOpen code terminals).inOrder := by
  unfold State.roundOpen
  split
  · exact h
  · split
    · exact h
    · split <;> exact h

theorem roundBuild_inOrder (zones : ZoneSet) (code : Nat) {s : State} (h : s.inOrder) :
    (s.roundBuild zones code).inOrder := by
  unfold State.roundBuild
  split
  · exact h
  · split <;> exact h

theorem roundClose_inOrder (number : Nat) {s : State} (h : s.inOrder) : (s.roundClose number).inOrder := by
  unfold State.roundClose
  split
  · exact h
  · split <;> exact h

theorem roundGet_inOrder (number : Nat) {s : State} (h : s.inOrder) : (s.roundGet number).inOrder := by
  unfold State.roundGet
  split <;> exact h

theorem lineSet_inOrder (l : LineNo) (settings : LineSettings) {s : State} (h : s.inOrder) :
    (s.lineSet l settings).inOrder := by
  unfold State.lineSet
  split <;> exact h

theorem lineStop_inOrder (l : LineNo) {s : State} (h : s.inOrder) : (s.lineStop l).inOrder := by
  unfold State.lineStop
  split <;> exact h

theorem pollListPut_inOrder (l : LineNo) (drops : List Nat) {s : State} (h : s.inOrder) :
    (s.pollListPut l drops).inOrder := by
  unfold State.pollListPut
  split <;> exact h

theorem terminalGet_inOrder (n : Nat) (clear : Bool) {s : State} (h : s.inOrder) : (s.terminalGet n clear).inOrder := by
  unfold State.terminalGet
  split
  · exact h
  · cases clear <;> exact h

theorem noticeTake_inOrder {s : State} (h : s.inOrder) : s.noticeTake.inOrder := by
  unfold State.noticeTake State.emptyReports
  split
  · exact h
  · split <;> exact h

theorem switchNow_inOrder {s : State} (h : s.inOrder) : s.switchNow.inOrder := by
  unfold State.switchNow
  split
  · exact switchover_inOrder h
  · exact h

theorem overrideSet_inOrder (n : Nat) (t : Thresholds) {s : State} (h : s.inOrder) : (s.overrideSet n t).inOrder := by
  unfold State.overrideSet
  split
  · exact h
  · unfold State.owned
    split
    · exact h
    · exact override_inOrder _ _ h

theorem overrideDrop_inOrder (n : Nat) {s : State} (h : s.inOrder) : (s.overrideDrop n).inOrder := by
  unfold State.overrideDrop
  split
  · exact h
  · split
    · exact h
    · exact override_inOrder _ _ h

theorem faultClear_inOrder (n : Nat) (named : FaultSet) {s : State} (h : s.inOrder) : (s.faultClear n named).inOrder := by
  unfold State.faultClear
  split
  · exact h
  · exact act_inOrder _ _ h

theorem setDefaults_inOrder (t : Thresholds) {s : State} (h : s.inOrder) : (s.setDefaults t).inOrder :=
  reevaluateAll_inOrder (s := { s with defaults := t }) h

theorem turnaroundOver_inOrder (l : LineNo) {s : State} (h : s.inOrder) : (s.turnaroundOver l).inOrder := by
  unfold State.turnaroundOver
  split <;> exact h

theorem characterBegins_inOrder (l : LineNo) {s : State} (h : s.inOrder) : (s.characterBegins l).inOrder := by
  unfold State.characterBegins
  split
  · exact h
  · split <;> exact h

theorem startComplete_inOrder (strap : LinkRate) {s : State} (h : s.inOrder) : (s.startComplete strap).inOrder := by
  unfold State.startComplete
  split <;> exact h

/-- Every command keeps the order: a case for each. -/
theorem exec_inOrder (i : Instr) {s t : State} (h : s.inOrder) (e : exec i s = .next t) : t.inOrder := by
  cases i
  case clockSet =>
    exact next_inOrder e (request_inOrder h fun _ _ fields hu => clockSet_inOrder (readClockSet_shown fields) hu)
  case clockGet | calendarList | tariffGet | bankCopy | referralSet | referralList | liftList | thresholdDefaultGet
      | lineGet | pollListGet | partStatus | restart =>
    exact next_inOrder e (request_inOrder h fun _ _ _ hu => hu)
  case calendarPut => exact next_inOrder e (request_inOrder h fun _ _ _ hu => calendarPut_inOrder _ hu)
  case calendarDrop => exact next_inOrder e (request_inOrder h fun _ _ _ hu => calendarDrop_inOrder _ hu)
  case tariffPut => exact next_inOrder e (request_inOrder h fun _ _ _ hu => tariffPut_inOrder _ hu)
  case tariffDrop => exact next_inOrder e (request_inOrder h fun _ _ _ hu => tariffDrop_inOrder _ _ hu)
  case switchAt => exact next_inOrder e (request_inOrder h fun _ _ _ hu => switchAt_inOrder _ hu)
  case switchNow => exact next_inOrder e (request_inOrder h fun _ _ _ hu => switchNow_inOrder hu)
  case switchCancel => exact next_inOrder e (request_inOrder h fun _ _ _ hu => switchCancel_inOrder hu)
  case fareTrial => exact next_inOrder e (request_inOrder h fun _ _ _ hu => placeFare_inOrder _ hu)
  case terminalSet => exact next_inOrder e (request_inOrder h fun _ _ _ hu => terminalSet_inOrder _ hu)
  case terminalRemove => exact next_inOrder e (request_inOrder h fun _ _ _ hu => terminalRemove_inOrder _ hu)
  case terminalGet => exact next_inOrder e (request_inOrder h fun _ _ _ hu => terminalGet_inOrder _ _ hu)
  case endCollection | suspend | resume | message =>
    exact next_inOrder e (request_inOrder h fun _ _ _ hu => terminalOrder_inOrder _ _ hu)
  case permitLoad | permitChange | permitDrop | permitGet | permitScan | referralAnswer =>
    exact next_inOrder e (request_inOrder h fun _ _ _ hu => placeOp_inOrder _ hu)
  case countEnter => exact next_inOrder e (request_inOrder h fun _ _ _ hu => countEnter_inOrder _ _ hu)
  case roundOpen => exact next_inOrder e (request_inOrder h fun _ _ _ hu => roundOpen_inOrder _ _ hu)
  case roundBuild => exact next_inOrder e (request_inOrder h fun _ _ _ hu => roundBuild_inOrder _ _ hu)
  case roundClose => exact next_inOrder e (request_inOrder h fun _ _ _ hu => roundClose_inOrder _ hu)
  case roundGet => exact next_inOrder e (request_inOrder h fun _ _ _ hu => roundGet_inOrder _ hu)
  case faultClear => exact next_inOrder e (request_inOrder h fun _ _ _ hu => faultClear_inOrder _ _ hu)
  case thresholdDefaultSet => exact next_inOrder e (request_inOrder h fun _ _ _ hu => setDefaults_inOrder _ hu)
  case thresholdOverrideSet => exact next_inOrder e (request_inOrder h fun _ _ _ hu => overrideSet_inOrder _ _ hu)
  case thresholdOverrideDrop => exact next_inOrder e (request_inOrder h fun _ _ _ hu => overrideDrop_inOrder _ hu)
  case lineSet => exact next_inOrder e (request_inOrder h fun _ _ _ hu => lineSet_inOrder _ _ hu)
  case lineStart => exact next_inOrder e (request_inOrder h fun _ _ _ hu => lineStart_inOrder _ hu)
  case lineStop => exact next_inOrder e (request_inOrder h fun _ _ _ hu => lineStop_inOrder _ hu)
  case pollListPut => exact next_inOrder e (request_inOrder h fun _ _ _ hu => pollListPut_inOrder _ _ hu)
  case sweep => exact next_inOrder e (request_inOrder h fun _ _ _ hu => sweep_inOrder _ hu)
  case noticeTake => exact next_inOrder e (request_inOrder h fun _ _ _ hu => noticeTake_inOrder hu)
  case quote | sale | session | cancel | doorOpen | doorClosed | boxReplaced | paperOut | paperLoaded |
      printerFault | printFailed | printerOk | coinPathFault | coinPathOk | idle | ack =>
    exact next_inOrder e (working_inOrder h (received_inOrder _ _ _))
  case paceTick => exact next_inOrder e (working_inOrder h (paceTick_inOrder _))
  case computationComplete => exact next_inOrder e (working_inOrder h computationComplete_inOrder)
  case lookupComplete => exact next_inOrder e (working_inOrder h completeLookup_inOrder)
  case recordInsertion => exact next_inOrder e (working_inOrder h insertStep_inOrder)
  case permitOperationComplete => exact next_inOrder e (working_inOrder h completeOp_inOrder)
  case referralDeadlineExpiry => exact next_inOrder e (working_inOrder h (expireReferral_inOrder _))
  case rejectedFrame => exact next_inOrder e (working_inOrder h (receivedRaw_inOrder _ _))
  case frameTransmissionComplete => exact next_inOrder e (working_inOrder h (sent_inOrder _))
  case turnaroundExpiry => exact next_inOrder e (working_inOrder h (turnaroundOver_inOrder _))
  case responseWindowExpiry => exact next_inOrder e (working_inOrder h (windowOver_inOrder _))
  case serviceLimitExpiry => exact next_inOrder e (working_inOrder h (serviceLimitOver_inOrder _))
  case lineFrameDiscarded => exact next_inOrder e (working_inOrder h (frameDiscarded_inOrder _))
  case earliestStartReached => exact next_inOrder e (working_inOrder h (earliestStart_inOrder _))
  case characterBeginsToArrive => exact next_inOrder e (working_inOrder h (characterBegins_inOrder _))
  case startComplete => exact next_inOrder e (working_inOrder h (startComplete_inOrder _))
  case replyTransmissionComplete => exact next_inOrder e (working_inOrder h id)
  case linkFrameDiscarded | frameLimitExpiry | frameMarkerReceived => exact next_inOrder e (ifOpen_inOrder _ h)
  case unknownKind => exact next_inOrder e (by split <;> [exact h; exact acceptFrame_inOrder _ _ h fun _ hu => hu])
  case overlap tag kind =>
    refine next_inOrder e ?_
    unfold State.overlapped
    split
    · exact h
    · exact acceptFrame_inOrder _ _ h fun _ hu => hu
  case secondsEvent => exact next_inOrder e (secondsEvent_inOrder h)
  case coldStart => exact next_inOrder e (coldStart_inOrder s)
  case powerStart => exact next_inOrder e (by split <;> [exact powerStart_inOrder h; exact coldStart_inOrder s])
  case warmStart =>
    exact next_inOrder e (working_inOrder h fun hu => reportChanged_inOrder _ (restarted_inOrder .warm hu))
  case mainSupplyLoss => exact next_inOrder e h
  case retentionSupplyLoss => exact next_inOrder e (by split <;> exact h)

/-- Settles O5: the three hold after every command, and an idle step changes nothing. -/
theorem clockCalendarAndPermitsStayInOrder : Obligations.ClockCalendarAndPermitsStayInOrder := by
  intro s t h e
  unfold step at e
  split at e
  · exact next_inOrder e h
  · rename_i command rest _
    exact exec_inOrder command (s := { s with pending := rest }) h e

end Sys2Proof.Machine
end

section
/-! CLOCK GET, the requests on the Calendar, the reset state and the supplies (O6, O11, O14, O59). -/

namespace Sys2Proof.Machine

open Sys2Proof

/-! ### The reset state and the supplies -/

/-- Settles O6: every list of the reset state is empty. -/
theorem resetMeetsTheInvariants : Obligations.ResetMeetsTheInvariants := by
  refine ⟨rfl, ⟨List.Pairwise.nil, List.nodup_nil, fun n => ?_⟩, fun l => ?_, ?_, ?_, List.Pairwise.nil⟩
  · simp [State.reset, State.context]
  · have cold : State.reset.line l = .cold := by fin_cases l <;> rfl
    rw [cold]
    exact ⟨Nat.zero_le _, List.nodup_nil⟩
  · exact ⟨Nat.zero_le _, Nat.zero_le _⟩
  · exact ⟨List.Pairwise.nil, Nat.zero_le _⟩

/-- Settles O59. -/
theorem coldStartAndSupplies : Obligations.ColdStartAndSupplies := by
  refine ⟨fun s => rfl, fun s => ⟨rfl, fun off => ?_, fun on => ?_, fun on starting strap => ?_⟩⟩
  · simp [exec, execRetentionSupplyLoss, off]
  · simp [exec, execRetentionSupplyLoss, on]
  · simp [exec, execStartComplete, State.working, State.startComplete, State.onLink, on, starting]

/-! ### CLOCK GET -/

/-- Settles O11. -/
theorem clockGetReadsTheClock : Obligations.ClockGetReadsTheClock := by
  intro s tag ready
  exact congrArg Host.Outcome.next (State.request_ready ready tag 2 (fun _ => readNothing []) fun _ s => s.clockGet)

/-! ### The Calendar -/

/-- The entry found for a day after one has been put in: its own for its day, for any other day the one found before. -/
theorem find_putEntry (e : CalendarEntry) (l : List CalendarEntry) (day : Nat) :
    (putEntry e l).find? (fun d => d.day == day) = if day = e.day then some e else l.find? fun d => d.day == day := by
  by_cases own : day = e.day
  · subst own
    rw [if_pos rfl]
    induction l with
    | nil => simp [putEntry]
    | cons d rest ih =>
      unfold putEntry
      split
      · simp
      · split
        · simp
        · rename_i other
          simp [Ne.symm other, ih]
  · rw [if_neg own]
    induction l with
    | nil => simp [putEntry, Ne.symm own]
    | cons d rest ih =>
      unfold putEntry
      split
      · rw [List.find?_cons_of_neg (by simpa using Ne.symm own)]
      · split
        · rename_i same
          rw [List.find?_cons_of_neg (by simpa using Ne.symm own),
            List.find?_cons_of_neg (by simpa [← same] using Ne.symm own)]
        · rw [List.find?_cons, List.find?_cons, ih]

theorem dayTypeOf_putEntry (e : CalendarEntry) (l : List CalendarEntry) (day : Nat) :
    dayTypeOf (putEntry e l) day = if day = e.day then e.type else dayTypeOf l day := by
  unfold dayTypeOf
  rw [find_putEntry]
  by_cases own : day = e.day
  · rw [if_pos own, if_pos own]
  · rw [if_neg own, if_neg own]

/-- A day whose entries are gone has the type of its day of week (R9). -/
theorem dayTypeOf_dropped (l : List CalendarEntry) (day : Nat) :
    dayTypeOf (l.filter fun e => e.day != day) day =
      if day % 7 < 5 then .weekday else if day % 7 = 5 then .saturday else .sunday := by
  have gone : (l.filter fun e => e.day != day).find? (fun e => e.day == day) = none :=
    List.find?_eq_none.mpr fun e he => by simpa using List.of_mem_filter he
  unfold dayTypeOf
  rw [gone]

theorem calendarPut_accepted (s : State) (tag : Byte) (e : CalendarEntry) :
    (s.accepted tag 3).calendarPut e =
      if s.marked e.day = false ∧ 64 ≤ s.calendar.length then s.replied tag 3 .full
      else ({ s with calendar := putEntry e s.calendar } : State).replied tag 3 (.done .plain) := rfl

theorem calendarDrop_accepted (s : State) (tag : Byte) (day : Nat) :
    (s.accepted tag 4).calendarDrop day =
      if s.marked day then
        ({ s with calendar := s.calendar.filter fun e => e.day != day } : State).replied tag 4 (.done .plain)
      else s.replied tag 4 .noSuch := rfl

/-- Settles O14. -/
theorem calendarRequestsKeepTheDayTypes : Obligations.CalendarRequestsKeepTheDayTypes := by
  refine ⟨fun s tag e ready shown => ⟨?_, dayTypeOf_putEntry e s.calendar⟩, fun s tag day ready shown =>
    ⟨?_, dayTypeOf_dropped s.calendar day, ?_⟩⟩
  · simp only [exec, execCalendarPut, State.request_ready ready, readCalendarPut_bytes e shown, State.owned_ok]
    exact congrArg Host.Outcome.next (calendarPut_accepted s tag e)
  · simp only [exec, execCalendarDrop, State.request_ready ready, readDay_bytes shown, State.owned_ok]
    exact congrArg Host.Outcome.next (calendarDrop_accepted s tag day)
  · simp only [exec, execCalendarList, State.request_ready ready, readDay_bytes shown, State.owned_ok]
    rfl

end Sys2Proof.Machine
end

section
/-! What the asking of an order leaves behind (R161, R163): of a context only its owed orders change, of a line neither its
settings nor its pace counter, and an order asked for at a terminal stands for it from then on: owed, queued or in
exchange. -/

namespace Sys2Proof.Machine

open Sys2Proof

/-! ### Of the contexts only the owed orders -/

/-- Every context is as it was but for its owed orders, of which none is lost. -/
def OnlyOwes (s t : State) : Prop :=
  ∀ n, ∃ o : Context → OwedOrders, t.context n = (s.context n).map (fun c => { c with owed := o c }) ∧
    ∀ c kind, c.owed.has kind = true → (o c).has kind = true

theorem OnlyOwes.of_context {s t : State} (h : ∀ n, t.context n = s.context n) : OnlyOwes s t :=
  fun n => ⟨fun c => c.owed, by rw [h]; cases s.context n <;> rfl, fun _ _ => id⟩

theorem OnlyOwes.refl (s : State) : OnlyOwes s s := .of_context fun _ => rfl

theorem OnlyOwes.trans {s t u : State} (h : OnlyOwes s t) (k : OnlyOwes t u) : OnlyOwes s u := by
  intro n
  obtain ⟨o, ho, more⟩ := h n
  obtain ⟨o', ho', more'⟩ := k n
  refine ⟨fun c => o' { c with owed := o c }, ?_, fun c kind hk => more' _ kind (more c kind hk)⟩
  rw [ho', ho]
  cases s.context n <;> rfl

theorem OnlyLines.onlyOwes {s t : State} (h : OnlyLines s t) : OnlyOwes s t := .of_context h.context

/-- The context of a terminal afterwards. -/
theorem OnlyOwes.some {s t : State} (h : OnlyOwes s t) {n : Nat} {c : Context} (hc : s.context n = .some c) :
    ∃ o : OwedOrders, t.context n = .some { c with owed := o } ∧ ∀ kind, c.owed.has kind = true → o.has kind = true := by
  obtain ⟨o, ho, more⟩ := h n
  exact ⟨o c, by rw [ho, hc]; rfl, more c⟩

theorem OwedOrders.has_set_of_has {o : OwedOrders} {kind : OrderKind} (h : o.has kind = true) (other : OrderKind) :
    (o.set other true).has kind = true := by
  cases other <;> cases kind <;> first | exact h | rfl

theorem owe_onlyOwes (s : State) (n : Nat) (kind : OrderKind) : OnlyOwes s (s.owe n kind) := by
  intro m
  refine ⟨fun c => if c.number = n then c.owed.set kind true else c.owed, ?_, fun c k hk => ?_⟩
  · rw [State.owe, State.context_onContext s n m _ (by intro _; rfl)]
    congr 1
    funext c
    by_cases own : c.number = n <;> simp [own]
  · simp only
    split
    · exact OwedOrders.has_set_of_has hk kind
    · exact hk

theorem askOrder_onlyOwes (s : State) (n : Nat) (kind : OrderKind) : OnlyOwes s (s.askOrder n kind) := by
  unfold State.askOrder
  split
  · exact OnlyOwes.refl s
  · simp only
    repeat' split
    all_goals first
      | exact OnlyOwes.refl s
      | exact owe_onlyOwes s n kind
      | exact ((onLine_only _ _ _).trans (chooseIfIdle_only _ _)).onlyOwes

theorem askAll_onlyOwes (s : State) (kind : OrderKind) : OnlyOwes s (s.askAll kind) := by
  unfold State.askAll
  generalize s.contexts.map (·.number) = numbers
  induction numbers generalizing s with
  | nil => exact OnlyOwes.refl s
  | cons n rest ih => exact (askOrder_onlyOwes s n kind).trans (ih _)

/-! ### Neither settings nor pace counters -/

/-- What the Borough Clock and the host keep of a line: its settings and its pace counter. -/
def Line.kept (L : Line) : LineSettings × Nat := (L.settings, L.paceCounter)

theorem Line.transmit_kept (L : Line) : L.transmit.kept = L.kept := by
  unfold Line.transmit
  repeat' split
  all_goals rfl

theorem Line.entryEnded_kept (L : Line) : L.entryEnded.1.kept = L.kept := by
  unfold Line.entryEnded
  repeat' split
  all_goals rfl

/-- No line's settings and no pace counter has changed. -/
def KeepsPace (s t : State) : Prop := ∀ m, (t.line m).kept = (s.line m).kept

theorem KeepsPace.refl (s : State) : KeepsPace s s := fun _ => rfl

theorem KeepsPace.trans {s t u : State} (h : KeepsPace s t) (k : KeepsPace t u) : KeepsPace s u :=
  fun m => (k m).trans (h m)

theorem notice_keepsPace (s : State) (kind : NoticeKind) : KeepsPace s (s.notice kind) := fun _ => rfl

theorem onLine_keepsPace (s : State) (l : LineNo) (f : Line → Line) (keeps : ∀ L, (f L).kept = L.kept) :
    KeepsPace s (s.onLine l f) := by
  intro m
  rw [State.line_onLine]
  split
  · rename_i same
    rw [keeps, same]
  · rfl

theorem beginExchange_keepsPace (s : State) (l : LineNo) (c : Context) (frame : SentFrame) :
    KeepsPace s (s.beginExchange l c frame) :=
  onLine_keepsPace s l _ fun _ => Line.transmit_kept _

theorem beginDirected_keepsPace (s : State) (l : LineNo) (c : Context) (kind : OrderKind) :
    KeepsPace s (s.beginDirected l c kind) := by
  obtain ⟨frame, -, e⟩ := beginDirected_eq s l c kind
  rw [e]
  exact (onLine_keepsPace s l _ (by intro _; rfl)).trans (beginExchange_keepsPace _ l c frame)

theorem entryEnded_keepsPace (s : State) (l : LineNo) : KeepsPace s (s.entryEnded l) := by
  have ended : KeepsPace s (s.onLine l fun _ => (s.line l).entryEnded.1) := by
    intro m
    rw [State.line_onLine]
    split
    · rename_i same
      rw [Line.entryEnded_kept, same]
    · rfl
  unfold State.entryEnded
  simp only
  split <;> exact ended

theorem chooseWith_keepsPace (fuel : Nat) (s : State) (l : LineNo) : KeepsPace s (s.chooseWith fuel l) := by
  induction fuel generalizing s with
  | zero => exact KeepsPace.refl s
  | succ fuel ih =>
    have change (t : State) (f : Line → Line) (keeps : ∀ L, (f L).kept = L.kept) : KeepsPace t (t.onLine l f) :=
      onLine_keepsPace t l f keeps
    unfold State.chooseWith
    simp only
    split
    · split
      · exact beginExchange_keepsPace _ _ _ _
      · exact (change s _ (by intro _; rfl)).trans (ih _)
    · split
      · split
        · exact (change s _ (by intro _; rfl)).trans (beginDirected_keepsPace _ _ _ _)
        · exact (change s _ (by intro _; rfl)).trans (ih _)
      · split
        · split
          · split
            · exact ((change s _ (by intro _; rfl)).trans (notice_keepsPace _ _)).trans (ih _)
            · exact change s _ (by intro _; rfl)
          · split
            · exact ((change s _ (by intro _; rfl)).trans (entryEnded_keepsPace _ l)).trans (ih _)
            · split
              · exact ((change s _ (by intro _; rfl)).trans (entryEnded_keepsPace _ l)).trans (ih _)
              · exact ((change s _ (by intro _; rfl)).trans (change _ _ (by intro _; rfl))).trans
                  (beginExchange_keepsPace _ _ _ _)
        · exact change s _ (by intro _; rfl)

theorem chooseIfIdle_keepsPace (s : State) (l : LineNo) : KeepsPace s (s.chooseIfIdle l) := by
  unfold State.chooseIfIdle
  split
  · exact chooseWith_keepsPace _ s l
  · exact KeepsPace.refl s

theorem askOrder_keepsPace (s : State) (n : Nat) (kind : OrderKind) : KeepsPace s (s.askOrder n kind) := by
  unfold State.askOrder
  split
  · exact KeepsPace.refl s
  · simp only
    repeat' split
    all_goals first
      | exact KeepsPace.refl s
      | exact (onLine_keepsPace s _ _ (by intro _; rfl)).trans (chooseIfIdle_keepsPace _ _)

theorem askAll_keepsPace (s : State) (kind : OrderKind) : KeepsPace s (s.askAll kind) := by
  unfold State.askAll
  generalize s.contexts.map (·.number) = numbers
  induction numbers generalizing s with
  | nil => exact KeepsPace.refl s
  | cons n rest ih => exact (askOrder_keepsPace s n kind).trans (ih _)

/-! ### An order asked for stands -/

/-- An entry of a kind waits in the line's directed queue for the terminal, or its exchange is in progress there with such a
frame. -/
def Line.bears (L : Line) (n : Nat) (kind : OrderKind) (frame : SentFrame → Prop) : Prop :=
  L.holds n kind = true ∨ L.state = .awaitReply ∧ ∃ e, L.exchange = some e ∧ e.terminal = n ∧ frame e.frame

theorem Line.holds_cons {L : Line} {n : Nat} {kind : OrderKind} {entry : Directed} {rest : List Directed}
    (h : L.holds n kind = true) (queue : L.directed = entry :: rest) :
    (entry.terminal = n ∧ entry.kind = kind) ∨ ({ L with directed := rest } : Line).holds n kind = true := by
  simpa [Line.holds, queue] using h

theorem Line.transmit_directed (L : Line) : L.transmit.directed = L.directed := by
  unfold Line.transmit
  repeat' split
  all_goals rfl

theorem Line.transmit_state (L : Line) : L.transmit.state = L.state := by
  unfold Line.transmit
  repeat' split
  all_goals rfl

/-- The line once an exchange has begun on it. -/
theorem beginExchange_line (s : State) (l : LineNo) (c : Context) (frame : SentFrame) :
    ((s.beginExchange l c frame).line l).state = .awaitReply ∧
      ((s.beginExchange l c frame).line l).directed = (s.line l).directed ∧
      ((s.beginExchange l c frame).line l).exchange = some ((s.line l).opening c frame) := by
  simp only [State.beginExchange, State.line_onLine, if_true]
  refine ⟨Line.transmit_state _, Line.transmit_directed _, ?_⟩
  cases h : (s.line l).turnaround <;> simp [Line.transmit, Line.opening, h]

theorem beginDirected_line (s : State) (l : LineNo) (c : Context) (kind : OrderKind) :
    ((s.beginDirected l c kind).line l).state = .awaitReply ∧
      ((s.beginDirected l c kind).line l).directed = (s.line l).directed ∧
      ∃ e, ((s.beginDirected l c kind).line l).exchange = some e ∧ e.terminal = c.number ∧ s.carries c kind e.frame := by
  obtain ⟨frame, carries, e⟩ := beginDirected_eq s l c kind
  obtain ⟨state, directed, exchange⟩ :=
    beginExchange_line (s.onLine l fun L => { L with chain := (s.chainOf c kind).or L.chain }) l c frame
  rw [e]
  exact ⟨state, by simpa using directed, _, exchange, rfl, carries⟩

/-- A change to lines leaves what an order would carry. -/
theorem carries_onLine (s : State) (l : LineNo) (f : Line → Line) (c : Context) (kind : OrderKind) :
    (s.onLine l f).carries c kind = s.carries c kind := by
  cases kind <;> rfl

/-- An entry that waits is still waiting after a choice, or it is the one that was chosen. -/
theorem chooseWith_bears (fuel : Nat) {s : State} {l : LineNo} {n : Nat} {c : Context} {kind : OrderKind}
    (hc : s.context n = some c) (waits : (s.line l).holds n kind = true) :
    ((s.chooseWith fuel l).line l).bears n kind (s.carries c kind) := by
  induction fuel generalizing s with
  | zero => exact .inl waits
  | succ fuel ih =>
    unfold State.chooseWith
    simp only
    split
    · split
      · refine .inl ?_
        obtain ⟨-, directed, -⟩ := beginExchange_line s l ‹_› (.order (.plate _ (plateBlock _ _ _)))
        rw [State.beginBlock, Line.holds, directed]
        exact waits
      · have := ih (s := s.onLine l fun L => { L with chain := none }) hc (by simpa [Line.holds] using waits)
        rwa [carries_onLine] at this
    · split
      · rename_i entry rest queue
        have popped : (s.onLine l fun L => { L with directed := rest }).line l = { s.line l with directed := rest } := by simp
        split
        · rename_i d hd
          obtain ⟨state, directed, e, exchange, terminal, carries⟩ :=
            beginDirected_line (s.onLine l fun L => { L with directed := rest }) l d entry.kind
          rcases Line.holds_cons waits queue with ⟨rfl, rfl⟩ | later
          · obtain rfl : d = c := Option.some.inj (hd.symm.trans hc)
            rw [carries_onLine] at carries
            exact .inr ⟨state, e, exchange, terminal.trans (State.context_number hd), carries⟩
          · refine .inl ?_
            rw [Line.holds, directed, popped]
            exact later
        · rename_i gone
          rcases Line.holds_cons waits queue with ⟨rfl, rfl⟩ | later
          · rw [hc] at gone
            nomatch gone
          · have := ih (s := s.onLine l fun L => { L with directed := rest }) hc (by rw [popped]; exact later)
            rwa [carries_onLine] at this
      · rename_i queue
        simp [Line.holds, queue] at waits

theorem chooseIfIdle_bears {s : State} {l : LineNo} {n : Nat} {c : Context} {kind : OrderKind} {frame : SentFrame → Prop}
    (hc : s.context n = some c) (carried : ∀ f, s.carries c kind f → frame f) (h : (s.line l).bears n kind frame) :
    ((s.chooseIfIdle l).line l).bears n kind frame := by
  unfold State.chooseIfIdle
  split
  · rename_i idle
    rcases h with waits | ⟨busy, -⟩
    · rcases chooseWith_bears (2 * (s.line l).pollList.length + (s.line l).directed.length + 3) hc waits with
        waits | ⟨state, e, exchange, terminal, carries⟩
      · exact .inl waits
      · exact .inr ⟨state, e, exchange, terminal, carried _ carries⟩
    · rw [idle] at busy
      nomatch busy
  · exact h

/-- Whatever order is asked for at whatever terminal, an order that a line bears stays on it. -/
theorem askOrder_bears {s : State} {l : LineNo} {n : Nat} {c : Context} {kind : OrderKind} {frame : SentFrame → Prop}
    (hc : s.context n = some c) (carried : ∀ f, s.carries c kind f → frame f) (h : (s.line l).bears n kind frame)
    (m : Nat) (other : OrderKind) : ((s.askOrder m other).line l).bears n kind frame := by
  have appended (d : Context) : (((s.onLine d.line fun L =>
      { L with directed := L.directed ++ [{ terminal := m, kind := other }] }).chooseIfIdle d.line).line l).bears n kind
        frame := by
    by_cases same : d.line = l
    · subst same
      refine chooseIfIdle_bears (c := c) hc (by rwa [carries_onLine]) ?_
      rw [State.line_onLine, if_pos rfl]
      rcases h with waits | begun
      · exact .inl (by simp_all [Line.holds])
      · exact .inr begun
    · rw [(chooseIfIdle_touches _ d.line n).lines l (Ne.symm same), onLine_line_ne _ _ _ _ (Ne.symm same)]
      exact h
  unfold State.askOrder
  split
  · exact h
  · simp only
    repeat' split
    all_goals first
      | exact h
      | exact appended _

theorem OwedOrders.has_set {o : OwedOrders} {kind : OrderKind} (automatic : ∀ text, kind ≠ .message text) :
    (o.set kind true).has kind = true := by
  cases kind with
  | message text => exact absurd rfl (automatic text)
  | condition | clock | result | plate => rfl

/-- An automatic order asked for stands for its terminal: it is owed, or the terminal's line bears it. -/
theorem askOrder_stands {s : State} {n : Nat} {c : Context} {kind : OrderKind} (automatic : ∀ text, kind ≠ .message text)
    (hc : s.context n = some c) :
    ∃ o : OwedOrders, (s.askOrder n kind).context n = some { c with owed := o } ∧
      (o.has kind = true ∨ ((s.askOrder n kind).line c.line).bears n kind (s.carries c kind)) := by
  have owed : ∃ o : OwedOrders, (s.owe n kind).context n = some { c with owed := o } ∧
      (o.has kind = true ∨ ((s.owe n kind).line c.line).bears n kind (s.carries c kind)) :=
    ⟨c.owed.set kind true, by rw [State.owe, State.context_onContext_self s n _ (by intro _; rfl), hc]; rfl,
      .inl (OwedOrders.has_set automatic)⟩
  unfold State.askOrder
  rw [hc]
  simp only
  split
  · exact ⟨c.owed, hc, .inr (.inl ‹_›)⟩
  · split
    · exact ⟨c.owed, hc, .inl ‹_›⟩
    · split
      · exact owed
      · split
        · exact owed
        · split
          · exact owed
          · refine ⟨c.owed, ?_, .inr (chooseIfIdle_bears (c := c) hc (by rw [carries_onLine]; exact fun _ => id) (.inl ?_))⟩
            · rw [(chooseIfIdle_only _ _).context]
              exact hc
            · simp [Line.holds]

end Sys2Proof.Machine
end

section
/-! CLOCK SET and the seconds event (O12, O13, O15): what the presentation of a minute can change, then the two statements. -/

namespace Sys2Proof.Machine

open Sys2Proof

/-! ### The presentation of a minute (R25, R26) -/

/-- The Tariff Store once a minute has been presented. -/
def Tariffs.presented (t : Tariffs) (now : Moment) : Tariffs := if t.due now then t.switch else t

theorem presentMinute_eq (s : State) :
    s.presentMinute = if s.tariffs.due s.clock.current then s.switchover else s := by
  unfold State.presentMinute Tariffs.due
  cases s.tariffs.schedule with
  | none => rfl
  | some m => cases later : m.later s.clock.current <;> simp [later]

/-- Beside the Tariff Store only the contexts, the lines and the Notice Queue take part in a switchover. -/
theorem presentMinute_only (s : State) :
    OnlyTerminals (s.onTariffs fun t => t.presented s.clock.current) s.presentMinute := by
  rw [presentMinute_eq]
  by_cases due : s.tariffs.due s.clock.current = true
  · have same : (s.onTariffs fun t => t.presented s.clock.current) = s.onTariffs Tariffs.switch := by
      simp [State.onTariffs, Tariffs.presented, due]
    rw [if_pos due, same]
    exact (askAll_only _ _).trans (notice_only _ _).terminals
  · have same : (s.onTariffs fun t => t.presented s.clock.current) = s := by
      simp [State.onTariffs, Tariffs.presented, due]
    rw [if_neg due, same]
    exact OnlyTerminals.refl s

theorem presentMinute_onlyOwes (s : State) : OnlyOwes s s.presentMinute := by
  rw [presentMinute_eq]
  split
  · exact askAll_onlyOwes (s.onTariffs Tariffs.switch) .plate
  · exact OnlyOwes.refl s

theorem presentMinute_keepsPace (s : State) : KeepsPace s s.presentMinute := by
  rw [presentMinute_eq]
  split
  · exact askAll_keepsPace (s.onTariffs Tariffs.switch) .plate
  · exact KeepsPace.refl s

/-! ### CLOCK SET (R5) -/

/-- The state of a CLOCK SET once the time is set and the pace counters are restarted, before the minute is presented. -/
def State.timeSet (s : State) (t : Instant) : State :=
  ({ s with clock := { day := t.day, second := t.second, valid := true } } : State).onLines fun L => { L with paceCounter := 0 }

theorem exec_clockSet {s : State} {day second : Nat} (ready : s.ready = true) (hd : day ≤ 65535) (hs : second ≤ 86399)
    (tag : Byte) :
    exec (.clockSet tag (toBinary 2 day ++ toBinary 3 second)) s =
      .next ((((s.accepted tag 1).timeSet { day := day, second := second }).presentMinute.askAll .clock).done .plain) := by
  simp only [exec, execClockSet, State.request_ready ready, readClockSet_bytes hd hs, State.owned_ok]
  rfl

/-- Settles O12. -/
theorem clockSetGivesTheTime : Obligations.ClockSetGivesTheTime := by
  intro s tag day second ready hd hs
  refine ⟨_, exec_clockSet ready hd hs tag, ?_⟩
  generalize hu : (s.accepted tag 1).timeSet { day := day, second := second } = u
  have only : OnlyTerminals (u.onTariffs fun t => t.presented u.clock.current) (u.presentMinute.askAll .clock) :=
    (presentMinute_only u).trans (askAll_only _ _)
  have pace : KeepsPace u (u.presentMinute.askAll .clock) := (presentMinute_keepsPace u).trans (askAll_keepsPace _ _)
  have owes : OnlyOwes u (u.presentMinute.askAll .clock) := (presentMinute_onlyOwes u).trans (askAll_onlyOwes _ _)
  generalize u.presentMinute.askAll .clock = v at only pace owes
  obtain ⟨cs, ls, ns, a, rfl⟩ := only
  refine ⟨by rw [← hu]; rfl, fun l => ?_, by rw [← hu]; rfl, by rw [← hu]; rfl, by rw [← hu]; rfl, by rw [← hu]; rfl,
    by rw [← hu]; rfl, by rw [← hu]; rfl, by rw [← hu]; rfl, by rw [← hu]; rfl, by rw [← hu]; rfl, fun n => ?_⟩
  · have restarted : (u.line l).kept = ((s.line l).settings, 0) := by
      rw [← hu, State.timeSet, State.line_onLines]
      rfl
    obtain ⟨settings, counter⟩ := Prod.ext_iff.mp ((pace l).trans restarted)
    exact ⟨counter, settings⟩
  · obtain ⟨o, ho, -⟩ := owes n
    have same : u.context n = s.context n := by rw [← hu]; rfl
    refine (congrArg (Option.map _) (ho.trans (by rw [same]))).trans ?_
    cases s.context n <;> rfl

/-! ### The CLOCK orders of a CLOCK SET (R5 step 4) -/

/-- A CLOCK order stands for a terminal of a line, and one that has begun carries this time. -/
def State.clockStands (s : State) (n : Nat) (l : LineNo) (time : Instant) : Prop :=
  ∃ d, s.context n = some d ∧ d.line = l ∧
    (d.owed.clock = true ∨ (s.line l).bears n .clock fun f => f = .order (.clock time))

theorem askOrder_clock (s : State) (n : Nat) (kind : OrderKind) : (s.askOrder n kind).clock = s.clock := by
  obtain ⟨_, _, _, _, e⟩ := askOrder_only s n kind
  rw [e]

/-- It stands at the terminal asked. -/
theorem askOrder_clockStands {s : State} {n : Nat} {c : Context} (hc : s.context n = some c) :
    (s.askOrder n .clock).clockStands n c.line s.clock.now := by
  obtain ⟨o, ho, stands⟩ := askOrder_stands (kind := .clock) (by simp) hc
  exact ⟨_, ho, rfl, stands⟩

/-- It still stands when an order is asked for at any terminal. -/
theorem askOrder_keeps_clockStands {s : State} {n : Nat} {l : LineNo} (h : s.clockStands n l s.clock.now) (m : Nat) :
    (s.askOrder m .clock).clockStands n l s.clock.now := by
  obtain ⟨d, hd, line, stands⟩ := h
  obtain ⟨o, ho, more⟩ := (askOrder_onlyOwes s m .clock).some hd
  refine ⟨_, ho, line, ?_⟩
  rcases stands with owed | bears
  · exact .inl (more .clock owed)
  · exact .inr (askOrder_bears hd (fun _ => id) bears m .clock)

theorem foldl_askOrder_clockStands (numbers : List Nat) {s : State} {n : Nat} {c : Context} (hc : s.context n = some c)
    (h : n ∈ numbers ∨ s.clockStands n c.line s.clock.now) :
    (numbers.foldl (fun s n => s.askOrder n .clock) s).clockStands n c.line s.clock.now := by
  induction numbers generalizing s c with
  | nil => simpa using h
  | cons m rest ih =>
    obtain ⟨o, ho, -⟩ := (askOrder_onlyOwes s m .clock).some hc
    rw [List.foldl_cons, ← askOrder_clock s m .clock]
    refine ih (c := { c with owed := o }) ho ?_
    rw [askOrder_clock]
    rcases h with listed | stands
    · rcases List.mem_cons.mp listed with rfl | later
      · exact .inr (askOrder_clockStands (c := c) hc :)
      · exact .inl later
    · exact .inr (askOrder_keeps_clockStands stands m)

/-- Settles O13. -/
theorem clockSetReachesEveryTerminal : Obligations.ClockSetReachesEveryTerminal := by
  intro s t tag day second ready hd hs _ e n c hc
  rw [exec_clockSet ready hd hs tag] at e
  obtain rfl := Host.Outcome.next.inj e
  generalize hu : (s.accepted tag 1).timeSet { day := day, second := second } = u
  have hcu : u.context n = some c := by rw [← hu]; exact hc
  obtain ⟨o, ho, -⟩ := (presentMinute_onlyOwes u).some hcu
  have time : u.presentMinute.clock.now = { day := day, second := second } := by
    obtain ⟨_, _, _, _, e⟩ := presentMinute_only u
    rw [e, ← hu]
    rfl
  have listed : n ∈ u.presentMinute.contexts.map (·.number) :=
    List.mem_map.mpr ⟨_, List.mem_of_find?_eq_some ho, State.context_number (s := u.presentMinute) ho⟩
  obtain ⟨d, hd, line, stands⟩ := foldl_askOrder_clockStands _ ho (.inl listed)
  rw [time, ← line] at stands
  refine ⟨d, hd, line, stands.imp_right fun bears => bears.imp_right fun begun => ?_⟩
  obtain ⟨-, e, exchange, terminal, frame⟩ := begun
  exact ⟨e, exchange, terminal, frame⟩

/-! ### The seconds event (R2, R3, R25) -/

theorem Clock.held_iff (c : Clock) : c.held = true ↔ c.day = 65535 ∧ c.second = 86399 := by
  simp [Clock.held]

theorem Clock.tick_eq (c : Clock) :
    c.tick = if c.day = 65535 ∧ c.second = 86399 then c
      else if c.second < 86399 then { c with second := c.second + 1 }
      else { c with day := c.day + 1, second := 0 } := by
  unfold Clock.tick
  simp only [Clock.held_iff]

theorem Clock.tick_valid (c : Clock) : c.tick.valid = c.valid := by
  unfold Clock.tick
  repeat' split
  all_goals rfl

theorem Clock.beginsMinute_iff (c : Clock) :
    c.beginsMinute = true ↔ c.valid = true ∧ ¬(c.day = 65535 ∧ c.second = 86399) ∧ c.tick.second % 60 = 0 := by
  simp [Clock.beginsMinute, ← Clock.held_iff, and_assoc]

theorem Line.pace_paceCounter (L : Line) :
    L.pace.paceCounter = if L.paceCounter + 1 = L.settings.interval then 0 else L.paceCounter + 1 := by
  unfold Line.pace
  split <;> rfl

/-- Settles O15. -/
theorem secondsEventCounts : Obligations.SecondsEventCounts := by
  intro s on
  have run : exec .secondsEvent s = .next ((if s.clock.beginsMinute then s.scanAlong.tick.presentMinute
      else s.scanAlong.tick).onLines Line.pace) := by
    simp [exec, execSecondsEvent, State.secondsEvent, on]
  generalize hv : (if s.clock.beginsMinute then s.scanAlong.tick.presentMinute else s.scanAlong.tick) = v at run
  have only : OnlyTerminals (s.scanAlong.tick.onTariffs fun t =>
      if s.clock.beginsMinute then t.presented s.clock.tick.current else t) v := by
    rw [← hv]
    split
    · exact presentMinute_only _
    · exact OnlyTerminals.refl _
  have pace : KeepsPace s v := by
    rw [← hv]
    split
    · exact presentMinute_keepsPace s.scanAlong.tick
    · exact KeepsPace.refl s
  refine ⟨_, run, ?_⟩
  obtain ⟨cs, ls, ns, a, rfl⟩ := only
  refine ⟨s.clock.tick_eq, fun l => ?_, ?_, rfl, rfl, rfl, rfl, rfl, rfl⟩
  · obtain ⟨settings, counter⟩ := Prod.ext_iff.mp (pace l)
    rw [State.line_onLines, Line.pace_paceCounter]
    simp only [Line.kept] at settings counter
    rw [settings, counter]
  · show (if s.clock.beginsMinute then s.tariffs.presented s.clock.tick.current else s.tariffs) = _
    simp only [Clock.beginsMinute_iff, Tariffs.presented, ite_and]
    rfl

end Sys2Proof.Machine
end

section
/-! The POWER and WARM starts (O60). Both make one change to every block at once, and then report CONDITION, terminal by
terminal, where the removal of SILENT has changed a condition. -/

namespace Sys2Proof.Machine

open Sys2Proof

/-! ### Reporting CONDITION at a list of terminals -/

/-- Only the contexts, the Notice Queue and ATTENTION may differ. -/
def OnlyReports (s t : State) : Prop :=
  ∃ cs ns a, t = { s with contexts := cs, notices := ns, attention := a }

theorem OnlyReports.refl (s : State) : OnlyReports s s := ⟨s.contexts, s.notices, s.attention, rfl⟩

theorem OnlyReports.trans {s t u : State} (h : OnlyReports s t) (k : OnlyReports t u) : OnlyReports s u := by
  obtain ⟨_, _, _, rfl⟩ := h
  obtain ⟨cs, ns, a, rfl⟩ := k
  exact ⟨cs, ns, a, rfl⟩

theorem report_onlyReports (s : State) (n : Nat) (add : ReportSet → ReportSet) : OnlyReports s (s.report n add) := by
  unfold State.report
  split
  · exact OnlyReports.refl s
  · simp only
    split
    · exact ⟨_, _, _, rfl⟩
    · exact ⟨_, s.notices, s.attention, rfl⟩

/-- CONDITION joins the pending report set of a terminal (R76). -/
def State.reportCondition (s : State) (n : Nat) : State := s.report n fun r => { r with condition := true }

/-- A configured terminal whose pending report set is empty. -/
def State.unreported (s : State) (n : Nat) : Bool := (s.context n).any fun c => c.reports.isEmpty

/-- The notice entry of a terminal (R76). -/
def terminalEntry (n : Nat) : Notice := { kind := .terminal n, count := 1 }

theorem reportCondition_notices (s : State) (n : Nat) :
    (s.reportCondition n).notices = s.notices ++ if s.unreported n then [terminalEntry n] else [] := by
  unfold State.reportCondition State.report State.unreported
  cases s.context n with
  | none => simp
  | some c =>
    have filled : ({ c.reports with condition := true } : ReportSet).isEmpty = false := rfl
    cases empty : c.reports.isEmpty <;> simp [empty, filled, terminalEntry]

theorem reportCondition_context_ne (s : State) {n m : Nat} (h : m ≠ n) : (s.reportCondition n).context m = s.context m :=
  (report_touches s n _ 0).contexts m h

theorem reportCondition_attentionFollows {s : State} (h : s.attentionFollows) (n : Nat) :
    (s.reportCondition n).attentionFollows := by
  unfold State.reportCondition State.report
  split
  · exact h
  · simp only
    split
    · rfl
    · exact h

/-- A context whose report set CONDITION has joined when its condition has changed (R76). -/
def Context.reporting (c : Context) (changed : Bool) : Context :=
  { c with reports := { c.reports with condition := c.reports.condition || changed } }

theorem foldl_reportCondition_only (numbers : List Nat) (s : State) :
    OnlyReports s (numbers.foldl State.reportCondition s) := by
  induction numbers generalizing s with
  | nil => exact OnlyReports.refl s
  | cons n rest ih => exact (report_onlyReports s n _).trans (ih _)

theorem foldl_reportCondition_attentionFollows (numbers : List Nat) {s : State} (h : s.attentionFollows) :
    (numbers.foldl State.reportCondition s).attentionFollows := by
  induction numbers generalizing s with
  | nil => exact h
  | cons n rest ih => exact ih (reportCondition_attentionFollows h n)

theorem foldl_reportCondition_context (numbers : List Nat) (s : State) (m : Nat) :
    (numbers.foldl State.reportCondition s).context m = (s.context m).map fun c => c.reporting (numbers.contains m) := by
  induction numbers generalizing s with
  | nil => cases h : s.context m <;> simp [h, Context.reporting]
  | cons n rest ih =>
    rw [List.foldl_cons, ih]
    by_cases own : m = n
    · subst own
      rw [State.reportCondition, report_context]
      cases s.context m <;> simp [Context.reporting]
    · rw [reportCondition_context_ne s own]
      simp [own]

/-- The entries of those that reported nothing before join the queue in the order of the list. -/
theorem foldl_reportCondition_notices {numbers : List Nat} (once : numbers.Nodup) (s : State) :
    (numbers.foldl State.reportCondition s).notices = s.notices ++ (numbers.filter s.unreported).map terminalEntry := by
  induction numbers generalizing s with
  | nil => simp
  | cons n rest ih =>
    obtain ⟨fresh, once⟩ := List.nodup_cons.mp once
    have later : rest.filter (s.reportCondition n).unreported = rest.filter s.unreported :=
      List.filter_congr fun m hm => by
        have other : m ≠ n := fun same => fresh (same ▸ hm)
        rw [State.unreported, State.unreported, reportCondition_context_ne s other]
    rw [List.foldl_cons, ih once, later, reportCondition_notices]
    cases h : s.unreported n <;> simp [h]

/-! ### The start of every block -/

/-- A context at a POWER or WARM start, before CONDITION is reported (R78): a POWER start empties reports and events. -/
def Context.atStart (c : Context) (L : Line) (kind : StartKind) : Context :=
  { c.restart L with
    reports := if kind = .power then .empty else c.reports, events := if kind = .power then [] else c.events }

/-- The part at a POWER or WARM start, before CONDITION is reported. -/
def State.atStart (s : State) (kind : StartKind) : State :=
  if kind = .power then (s.restarted kind).emptied else s.restarted kind

theorem Context.atStart_condition (c : Context) (L : Line) (kind : StartKind) :
    (c.atStart L kind).condition = c.heard.condition := rfl

/-- Of the blocks at a start, those that the two kinds of start leave alike. -/
theorem State.atStart_only (s : State) (kind : StartKind) : OnlyReports (s.restarted kind) (s.atStart kind) := by
  unfold State.atStart
  split
  · exact ⟨_, _, _, rfl⟩
  · exact OnlyReports.refl _

theorem State.atStart_contexts (s : State) (kind : StartKind) :
    (s.atStart kind).contexts = s.contexts.map fun c => c.atStart (s.line c.line) kind := by
  unfold State.atStart
  split
  · rename_i power
    subst power
    simp only [State.emptied, State.setNotices_contexts, State.restarted, List.map_map]
    rfl
  · rename_i other
    simp [State.restarted, Context.atStart, other, Context.restart]

theorem State.atStart_context (s : State) (kind : StartKind) (n : Nat) :
    (s.atStart kind).context n = (s.context n).map fun c => c.atStart (s.line c.line) kind := by
  rw [State.context, State.atStart_contexts, List.find?_map]
  rfl

theorem State.atStart_notices (s : State) (kind : StartKind) :
    (s.atStart kind).notices = if kind = .power then [] else s.notices := by
  unfold State.atStart
  split <;> rfl

theorem State.atStart_attentionFollows (s : State) {kind : StartKind} (h : kind = .power ∨ s.attentionFollows) :
    (s.atStart kind).attentionFollows := by
  unfold State.atStart
  split
  · rfl
  · exact h.resolve_left ‹_›

theorem State.restarted_line (s : State) (kind : StartKind) (l : LineNo) :
    (s.restarted kind).line l = (s.line l).restart := by
  fin_cases l <;> rfl

/-! ### The terminals whose condition the start changes (R136) -/

/-- Contexts in ascending number are found by their numbers (R57). -/
theorem State.context_of_mem {s : State} (kept : s.contextsKept) {c : Context} (h : c ∈ s.contexts) :
    s.context c.number = some c := by
  obtain ⟨d, hd⟩ : ∃ d, s.context c.number = some d :=
    Option.isSome_iff_exists.mp (List.find?_isSome.mpr ⟨c, h, by simp⟩)
  rw [hd, List.inj_on_of_nodup_map (List.Pairwise.nodup kept) (List.mem_of_find?_eq_some hd) h (State.context_number hd)]

/-- In ascending order, the terminals whose condition the removal of SILENT changes. -/
theorem changedBy_atStart {s : State} (kept : s.contextsKept) (kind : StartKind) :
    s.changedBy (s.atStart kind) = (s.contexts.filter fun c => c.condition != c.heard.condition).map (·.number) := by
  rw [State.changedBy, List.filter_map]
  refine congrArg _ (List.filter_congr fun c hc => ?_)
  simp only [Function.comp, State.condition, State.atStart_context, State.context_of_mem kept hc, Option.map_some,
    Context.atStart_condition]

theorem changedBy_contains {s : State} {n : Nat} {c : Context} (hc : s.context n = some c) (kind : StartKind) :
    (s.changedBy (s.atStart kind)).contains n = (c.condition != c.heard.condition) := by
  have listed : n ∈ s.contexts.map (·.number) :=
    List.mem_map.mpr ⟨c, List.mem_of_find?_eq_some hc, State.context_number hc⟩
  have changed : (s.condition n != (s.atStart kind).condition n) = (c.condition != c.heard.condition) := by
    simp only [State.condition, hc, State.atStart_context, Option.map_some, Context.atStart_condition]
  rw [Bool.eq_iff_iff, List.contains_iff_mem, State.changedBy, List.mem_filter, changed]
  exact and_iff_right listed

/-! ### What a start leaves -/

theorem start_context (s : State) (kind : StartKind) (n : Nat) :
    ((s.atStart kind).reportChanged s).context n = (s.context n).map fun c =>
      (c.atStart (s.line c.line) kind).reporting (c.condition != c.heard.condition) := by
  refine (foldl_reportCondition_context _ (s.atStart kind) n).trans ?_
  rw [State.atStart_context]
  cases hc : s.context n with
  | none => rfl
  | some c => rw [changedBy_contains hc]; rfl

theorem start_notices {s : State} (kept : s.contextsKept) (kind : StartKind) :
    ((s.atStart kind).reportChanged s).notices =
      (if kind = .power then [] else s.notices) ++
        (s.contexts.filter fun c => c.condition != c.heard.condition && (kind == .power || c.reports.isEmpty)).map
          fun c => { kind := .terminal c.number, count := 1 } := by
  have once : (s.changedBy (s.atStart kind)).Nodup := (List.Pairwise.nodup kept).filter _
  refine (foldl_reportCondition_notices once (s.atStart kind)).trans ?_
  rw [State.atStart_notices, changedBy_atStart kept, List.filter_map, List.filter_filter, List.map_map]
  refine congrArg (_ ++ ·) (congrArg (List.map _) (List.filter_congr fun c hc => ?_))
  have found : (s.atStart kind).unreported c.number = (kind == .power || c.reports.isEmpty) := by
    rw [State.unreported, State.atStart_context, State.context_of_mem kept hc]
    cases kind <;> rfl
  rw [Function.comp, found, Bool.and_comm]

/-- The orders of a terminal that had begun before a start are those of its line's exchange and chain (R78). -/
theorem Line.started_iff (L : Line) (n : Nat) {kind : OrderKind} (h : kind = .clock ∨ kind = .plate) :
    L.started n kind = true ↔
      (∃ e, L.exchange = some e ∧ e.terminal = n ∧ e.frame.orders kind = true) ∨
        kind = .plate ∧ ∃ chain, L.chain = some chain ∧ chain.terminal = n := by
  have begun : (match L.exchange with
      | none => false
      | some e => e.terminal == n && e.frame.orders kind) = true ↔
      ∃ e, L.exchange = some e ∧ e.terminal = n ∧ e.frame.orders kind = true := by
    cases L.exchange <;> simp
  have chained : (match L.chain with
      | none => false
      | some c => c.terminal == n && kind == .plate) = true ↔
      kind = .plate ∧ ∃ chain, L.chain = some chain ∧ chain.terminal = n := by
    cases L.chain <;> simp [and_comm]
  rw [← begun, ← chained, ← Bool.or_eq_true]
  unfold Line.started
  rcases L.exchange with _ | ⟨terminal, drop, frame, allowed, used, phase, taken, answer⟩
  · rfl
  · rcases h with rfl | rfl <;> rcases frame with _ | content <;> [skip; cases content; skip; cases content] <;> rfl

theorem start_only (s : State) (kind : StartKind) :
    OnlyReports (s.restarted kind) ((s.atStart kind).reportChanged s) :=
  (s.atStart_only kind).trans (foldl_reportCondition_only _ _)

/-- A minute for which no switchover is due changes nothing. -/
theorem presentMinute_quiet {s : State} (h : s.tariffs.due s.clock.current = false) : s.presentMinute = s := by
  rw [presentMinute_eq, h]
  rfl

theorem powerStart_quiet {s : State} (quiet : s.clock.valid = false ∨ s.tariffs.due s.clock.current = false) :
    s.powerStart = (s.atStart .power).reportChanged s := by
  have only := start_only s .power
  show (if ((s.atStart .power).reportChanged s).clock.valid then ((s.atStart .power).reportChanged s).presentMinute
    else (s.atStart .power).reportChanged s) = _
  generalize (s.atStart .power).reportChanged s = up at only
  obtain ⟨cs, ns, a, rfl⟩ := only
  rcases quiet with invalid | quiet
  · exact if_neg (Bool.eq_false_iff.mp invalid)
  · rw [presentMinute_quiet (by exact quiet), ite_self]

/-- Each of the two starts, where the POWER start makes no switchover. -/
theorem exec_start {s : State} {i : Instr} {kind : StartKind}
    (h : i = .powerStart ∧ kind = .power ∧ s.retentionHeld = true ∧
        (s.clock.valid = false ∨ s.tariffs.due s.clock.current = false) ∨
      i = .warmStart ∧ kind = .warm ∧ s.mainSupply = true) :
    exec i s = .next ((s.atStart kind).reportChanged s) := by
  rcases h with ⟨rfl, rfl, held, quiet⟩ | ⟨rfl, rfl, on⟩
  · simp [exec, execPowerStart, held, powerStart_quiet quiet]
  · simp [exec, execWarmStart, State.working, on, State.warmStart, State.atStart]

/-- Settles O60. -/
theorem powerAndWarmStartsKeepTheRetained : Obligations.PowerAndWarmStartsKeepTheRetained := by
  intro s i kind h
  refine ⟨_, exec_start h, ?_⟩
  have contexts := start_context s kind
  have notices (kept : s.contextsKept) := start_notices kept kind
  have attention (follows : kind = .power ∨ s.attentionFollows) :
      ((s.atStart kind).reportChanged s).attentionFollows :=
    foldl_reportCondition_attentionFollows _ (s.atStart_attentionFollows follows)
  have only : OnlyReports (s.restarted kind) ((s.atStart kind).reportChanged s) :=
    start_only s kind
  generalize (s.atStart kind).reportChanged s = t at contexts notices attention only
  have lines (l : LineNo) : t.line l = (s.line l).restart := by
    obtain ⟨_, _, _, rfl⟩ := only
    exact s.restarted_line kind l
  obtain ⟨cs, ns, a, rfl⟩ := only
  refine ⟨rfl, rfl, rfl, rfl, rfl, rfl, rfl, rfl, rfl, rfl, rfl, rfl, rfl, fun l => ?_, fun n absent => ?_,
    fun _ n c hc => ?_, notices, attention, rfl, rfl, rfl, rfl, rfl, rfl, rfl, rfl, rfl, rfl, rfl, rfl⟩
  · rw [lines]
    exact ⟨rfl, rfl, rfl, rfl, rfl, rfl, rfl, rfl⟩
  · rw [contexts, absent]
    rfl
  · refine ⟨_, by rw [contexts, hc]; rfl, ?_⟩
    have number : c.number = n := State.context_number hc
    refine ⟨rfl, rfl, rfl, ?_, ?_, ?_, ?_⟩
    · show (_ || _ || _) = true ↔ _
      simp [Line.started_iff _ _ (.inl rfl), number, or_assoc]
    · show (_ || _ || _) = true ↔ _
      simp [Line.started_iff _ _ (.inr rfl), number, or_assoc]
    · rintro rfl
      show ({ ReportSet.empty with condition := false || (c.condition != c.heard.condition) } : ReportSet) = _
      rw [Bool.false_or, bne_comm]
      rfl
    · rintro rfl
      show ({ c.reports with condition := c.reports.condition || (c.condition != c.heard.condition) } : ReportSet) = _
      rw [bne_comm]
      rfl

end Sys2Proof.Machine
end

section
/-! The sweep's taking of entries (R155 to R159, R163), entry by entry on a state of which one line is given, and O16. -/

namespace Sys2Proof.Machine

open Sys2Proof

/-! ### A state of which one line is given -/

/-- The state with one line put in the place of what it was. -/
def State.withLine (s : State) (l : LineNo) (L : Line) : State := s.onLine l fun _ => L

@[simp] theorem State.line_withLine (s : State) (l : LineNo) (L : Line) : (s.withLine l L).line l = L := by
  simp [State.withLine]

theorem State.onLine_eq_withLine (s : State) (l : LineNo) (f : Line → Line) : s.onLine l f = s.withLine l (f (s.line l)) := rfl

theorem State.withLine_onLine (s : State) (l : LineNo) (L : Line) (f : Line → Line) :
    (s.withLine l L).onLine l f = s.withLine l (f L) := by
  simp [State.withLine, State.onLine, State.line, Vector.get_eq_getElem]

theorem State.withLine_self (s : State) (l : LineNo) : s.withLine l (s.line l) = s := by
  show { s with lines := s.lines.set l.val (s.lines.get l) } = s
  simp [Vector.get_eq_getElem]

/-! ### Notices (R173) -/

theorem noticeList_ne_nil (kind : NoticeKind) (queue : List Notice) : (noticeList kind queue).isEmpty = false := by
  cases queue with
  | nil => rfl
  | cons n rest => unfold noticeList; split <;> rfl

theorem oneMore_noticeList (kind : NoticeKind) (queue : List Notice) : oneMore kind queue (noticeList kind queue) := by
  unfold oneMore
  induction queue with
  | nil => simp [noticeList]
  | cons n rest ih =>
    unfold noticeList
    by_cases own : n.kind = kind
    · simp only [own, if_true, List.find?_cons, beq_self_eq_true, countUp, Config.noticeHold, Option.map_some]
      rfl
    · have other : (n.kind == kind) = false := by simpa using own
      rw [if_neg own, List.find?_cons, List.find?_cons, other]
      exact ih

/-! ### Positions (R153, R155) -/

theorem Line.before_position {L : Line} {rest : List Nat} (h : L.before rest) : 1 ≤ L.position := by
  obtain ⟨taken, -, position⟩ := h
  omega

theorem Line.before_entry {L : Line} {drop : Nat} {rest : List Nat} (h : L.before (drop :: rest)) :
    L.pollList[L.position - 1]? = some drop := by
  obtain ⟨taken, list, position⟩ := h
  simp [list, position]

theorem Line.before_next {L : Line} {drop : Nat} {rest : List Nat} (h : L.before (drop :: rest)) (elapsed : Nat) :
    (L.taking 1 elapsed).before rest := by
  obtain ⟨taken, list, position⟩ := h
  exact ⟨taken ++ [drop], by rw [List.append_assoc]; exact list, by simp [Line.taking, position]⟩

/-- The position has passed the end of the list when no entry is left. -/
theorem Line.before_end {L : Line} {rest : List Nat} (h : L.before rest) : L.pollList.length < L.position ↔ rest = [] := by
  obtain ⟨taken, list, position⟩ := h
  rw [list, position, List.length_append, ← List.length_eq_zero_iff]
  omega

theorem Line.before_nil {L : Line} (h : L.before []) : L.pollList[L.position - 1]? = none := by
  obtain ⟨taken, list, position⟩ := h
  simp [list, position]

theorem Line.before_length {L : Line} {rest : List Nat} (h : L.before rest) : rest.length ≤ L.pollList.length := by
  obtain ⟨taken, list, -⟩ := h
  rw [list, List.length_append]
  omega

theorem Line.taking_taking {L : Line} (h : 1 ≤ L.position) (a b elapsed : Nat) :
    (L.taking a elapsed).taking b elapsed = L.taking (a + b) elapsed := by
  by_cases none : a = 0
  · rw [none, Line.taking_zero, Nat.zero_add]
  · exact Line.taking_add h a b elapsed none

theorem State.passesOver_cons {s : State} {l : LineNo} {record : List Nat} {drop : Nat} {rest : List Nat} :
    s.passesOver l record (drop :: rest) ↔ s.passesOver l record [drop] ∧ s.passesOver l record rest := by
  simp [State.passesOver]

/-- The line with another leg state. -/
def Line.withLeg (L : Line) (leg : Leg) : Line := { L with leg := leg }

theorem Line.taking_polling {L : Line} (h : 1 ≤ L.position) (entries elapsed : Nat) (leg : Leg) (c : Context) :
    ((L.taking entries elapsed).withLeg leg).polling 1 elapsed c = (L.polling (entries + 1) elapsed c).withLeg leg := by
  unfold Line.polling
  rw [← Line.taking_taking h]
  rfl

/-! ### One choice of a line with nothing queued (R163) -/

/-- No chain is in progress and nothing is queued, so that the sweep has the line's next choice. -/
def Line.free (L : Line) : Prop := L.chain = none ∧ L.directed = []

theorem chooseWith_rests {L : Line} (free : L.free) (idle : L.sweepReady = false) (fuel : Nat) (s : State) (l : LineNo) :
    (s.withLine l L).chooseWith (fuel + 1) l = s.withLine l { L with state := .idle } := by
  obtain ⟨chain, queue⟩ := free
  simp [State.chooseWith, chain, queue, idle, State.withLine_onLine]

theorem chooseWith_passes {s : State} {l : LineNo} {L : Line} {drop : Nat} {rest : List Nat} (free : L.free)
    (ready : L.sweepReady = true) (next : L.before (drop :: rest)) (passed : s.passesOver l L.passRecord [drop])
    (fuel : Nat) :
    (s.withLine l L).chooseWith (fuel + 1) l =
      ((s.withLine l (L.takeEntry s.elapsed)).entryEnded l).chooseWith fuel l := by
  obtain ⟨chain, queue⟩ := free
  have same : (s.withLine l (L.takeEntry s.elapsed)).atDrop l drop = s.atDrop l drop := rfl
  have elapsed : (s.withLine l L).elapsed = s.elapsed := rfl
  simp only [State.chooseWith, State.line_withLine, chain, queue, ready, Line.before_entry next, State.withLine_onLine,
    Option.filter_none, if_true, elapsed, same]
  cases found : s.atDrop l drop with
  | none => rfl
  | some c =>
    obtain ⟨silent, recorded⟩ := State.atDrop_of_passesOver passed (List.mem_singleton_self drop) found
    simp [silent, recorded]

theorem beginExchange_withLine (s : State) (l : LineNo) (L : Line) (c : Context) (frame : SentFrame) :
    (s.withLine l L).beginExchange l c frame =
      s.withLine l
        { L with state := .awaitReply, exchange := some (L.opening c frame), driving := L.driving || !L.turnaround } := by
  rw [State.beginExchange, State.withLine_onLine]
  refine congrArg (s.withLine l) ?_
  cases running : L.turnaround <;> simp [Line.transmit, Line.opening, running]

theorem chooseWith_polls {s : State} {l : LineNo} {L : Line} {drop : Nat} {rest : List Nat} {c : Context} (free : L.free)
    (ready : L.sweepReady = true) (next : L.before (drop :: rest)) (polled : s.pollable l L.passRecord drop c) (fuel : Nat) :
    (s.withLine l L).chooseWith (fuel + 1) l =
      s.withLine l ((L.polling 1 s.elapsed c).withLeg (L.takeEntry s.elapsed).leg) := by
  obtain ⟨chain, queue⟩ := free
  have found : (s.withLine l (L.takeEntry s.elapsed)).atDrop l drop = some c := State.atDrop_of_pollable polled
  have elapsed : (s.withLine l L).elapsed = s.elapsed := rfl
  obtain ⟨-, -, -, -, heard⟩ := polled
  have goes_on : ¬((c.faults.silent && L.passRecord.contains c.number) = true) := by simpa using heard
  simp only [State.chooseWith, State.line_withLine, chain, queue, ready, Line.before_entry next, State.withLine_onLine,
    Option.filter_none, if_true, elapsed, found, if_neg goes_on, beginExchange_withLine]
  rw [Line.takeEntry_eq]
  rfl

/-! ### The end of an entry (R156 to R158) -/

theorem entryEnded_withLine (s : State) (l : LineNo) (L : Line) :
    (s.withLine l L).entryEnded l =
      if L.entryEnded.2 then (s.notice (.sweepComplete l)).withLine l L.entryEnded.1 else s.withLine l L.entryEnded.1 := by
  unfold State.entryEnded
  simp only [State.line_withLine, State.withLine_onLine]
  split <;> rfl

/-- The line once it has taken an entry of a leg with so many still to take. -/
theorem Line.takeEntry_paced {L : Line} (paced : L.settings.mode = .paced) {left : Nat} (leg : L.legLeft left)
    (elapsed : Nat) : L.takeEntry elapsed = (L.taking 1 elapsed).withLeg (.running (left - 1)) := by
  rw [Line.takeEntry_eq]
  rcases leg with leg | ⟨leg, rfl⟩ <;> simp [Line.takeEntry, Line.withLeg, paced, leg]

theorem Line.sweepReady_paced {L : Line} (paced : L.settings.mode = .paced) {left : Nat} (leg : L.legLeft left) :
    L.sweepReady = true := by
  rcases leg with leg | ⟨leg, -⟩ <;> simp [Line.sweepReady, paced, leg]

theorem Line.sweepReady_leg_over {L : Line} (paced : L.settings.mode = .paced) (leg : L.leg = .none) :
    L.sweepReady = false := by
  simp [Line.sweepReady, paced, leg]

theorem Line.entryEnded_paced {L : Line} (paced : L.settings.mode = .paced) {left : Nat} (leg : L.leg = .running left) :
    L.entryEnded =
      if L.pollList.length < L.position then ((L.rewound .none).withLeg .none, true)
      else if left = 0 then (L.withLeg .none, false)
      else (L, false) := by
  simp only [Line.entryEnded, paced, leg, Line.rewound, Line.withLeg]

theorem Line.entryEnded_single {L : Line} (single : L.settings.mode = .single) : L.entryEnded = (L, false) := by
  simp only [Line.entryEnded, single]

/-! ### The entries of a PACED leg (R158) -/

/-- Entries of a leg passed over one after another, while the leg and the list have more. -/
theorem chooseWith_passes_leg {s : State} {l : LineNo} (skipped : List Nat) {rest : List Nat} {L : Line} {left : Nat}
    (free : L.free) (paced : L.settings.mode = .paced) (leg : L.legLeft left) (ahead : L.before (skipped ++ rest))
    (more : rest ≠ []) (short : skipped.length < left) (passed : s.passesOver l L.passRecord skipped) (fuel : Nat) :
    ∃ leg, ((L.taking skipped.length s.elapsed).withLeg leg).legLeft (left - skipped.length) ∧
      ((L.taking skipped.length s.elapsed).withLeg leg).before rest ∧
      (s.withLine l L).chooseWith (fuel + skipped.length) l =
        (s.withLine l ((L.taking skipped.length s.elapsed).withLeg leg)).chooseWith fuel l := by
  induction skipped generalizing L left with
  | nil =>
    refine ⟨L.leg, ?_, ?_, ?_⟩ <;> rw [List.length_nil, Line.taking_zero]
    · exact leg
    · exact ahead
    · rfl
  | cons drop skipped ih =>
    rw [List.length_cons] at short
    obtain ⟨first, later⟩ := State.passesOver_cons.mp passed
    have ahead' := Line.before_next (rest := skipped ++ rest) ahead s.elapsed
    let N : Line := (L.taking 1 s.elapsed).withLeg (.running (left - 1))
    have ended : N.entryEnded = (N, false) := by
      have not_end : ¬N.pollList.length < N.position := by
        rw [Line.before_end (L := N) ahead']
        simp [more]
      rw [Line.entryEnded_paced (L := N) paced rfl, if_neg not_end, if_neg (by omega)]
    obtain ⟨leg', legLeft, before, run⟩ := ih (L := N) (left := left - 1) free paced (.inl rfl) ahead' (by omega) later
    have step := chooseWith_passes free (Line.sweepReady_paced paced leg) (rest := skipped ++ rest) ahead first
      (fuel + skipped.length)
    rw [Line.takeEntry_paced paced leg, entryEnded_withLine, ended] at step
    have total : (N.taking skipped.length s.elapsed).withLeg leg' =
        (L.taking (skipped.length + 1) s.elapsed).withLeg leg' := by
      rw [Nat.add_comm, ← Line.taking_taking (Line.before_position ahead)]
      rfl
    rw [total] at legLeft before run
    refine ⟨leg', ?_, before, step.trans run⟩
    rw [List.length_cons, Nat.sub_add_eq, Nat.sub_right_comm]
    exact legLeft

/-- The last entry of a run of entries of a leg that are passed over, before its end is looked at. -/
theorem chooseWith_passes_last {s : State} {l : LineNo} {skipped rest : List Nat} {last left : Nat} {L : Line}
    (free : L.free) (paced : L.settings.mode = .paced) (leg : L.legLeft left)
    (ahead : L.before ((skipped ++ [last]) ++ rest)) (short : skipped.length < left)
    (passed : s.passesOver l L.passRecord (skipped ++ [last])) (fuel : Nat) :
    ∃ N : Line, N = (L.taking (skipped.length + 1) s.elapsed).withLeg (.running (left - skipped.length - 1)) ∧
      N.before rest ∧
      (s.withLine l L).chooseWith (fuel + 1 + skipped.length) l = ((s.withLine l N).entryEnded l).chooseWith fuel l := by
  rw [List.append_assoc] at ahead
  have before_last : s.passesOver l L.passRecord skipped := fun d hd => passed d (List.mem_append_left _ hd)
  have at_last : s.passesOver l L.passRecord [last] := fun d hd => passed d (List.mem_append_right _ hd)
  obtain ⟨g, legLeft, next, run⟩ :=
    chooseWith_passes_leg skipped free paced leg ahead (List.cons_ne_nil _ _) short before_last (fuel + 1)
  have step := chooseWith_passes (L := (L.taking skipped.length s.elapsed).withLeg g) free
    (Line.sweepReady_paced paced legLeft) next at_last fuel
  rw [Line.takeEntry_paced (by exact paced) legLeft] at step
  have total : (((L.taking skipped.length s.elapsed).withLeg g).taking 1 s.elapsed).withLeg
      (.running (left - skipped.length - 1)) =
      (L.taking (skipped.length + 1) s.elapsed).withLeg (.running (left - skipped.length - 1)) := by
    rw [← Line.taking_taking (Line.before_position ahead)]
    rfl
  have after := Line.before_next next s.elapsed
  rw [total] at step
  refine ⟨_, rfl, ?_, run.trans step⟩
  rw [← total]
  exact after

/-- What a line does that takes a leg's first entries in the act that made the leg PENDING (R158). -/
theorem pendingLeg_takesLeg {s : State} {l : LineNo} {L : Line} (free : L.free) (paced : L.settings.mode = .paced) :
    s.takesLeg ((s.withLine l (L.withLeg .pending)).choose l) l L L.settings.leg := by
  generalize M_eq : L.withLeg .pending = M
  have freeM : M.free := by rw [← M_eq]; exact free
  have pacedM : M.settings.mode = .paced := by rw [← M_eq]; exact paced
  have leg : M.legLeft L.settings.leg := by rw [← M_eq]; exact .inr ⟨rfl, rfl⟩
  have fuel (skipped : List Nat) (rest : List Nat) (h : M.before (skipped ++ rest)) :
      ∃ fuel, 2 * M.pollList.length + M.directed.length + 3 = fuel + 1 + 1 + skipped.length := by
    have := Line.before_length h
    rw [List.length_append] at this
    exact ⟨2 * M.pollList.length + M.directed.length + 1 - skipped.length, by omega⟩
  refine ⟨fun skipped drop after c ahead short passed polled => ?_, fun skipped after ahead full more some passed => ?_,
    fun skipped ahead fits some passed => ?_⟩
  · replace ahead : M.before (skipped ++ drop :: after) := by rw [← M_eq]; exact ahead
    replace passed : s.passesOver l M.passRecord skipped := by rw [← M_eq]; exact passed
    obtain ⟨F, hF⟩ := fuel _ _ ahead
    obtain ⟨g, legLeft, next, run⟩ :=
      chooseWith_passes_leg skipped freeM pacedM leg ahead (List.cons_ne_nil _ _) short passed (F + 1 + 1)
    have step := chooseWith_polls (L := (M.taking skipped.length s.elapsed).withLeg g) freeM
      (Line.sweepReady_paced pacedM legLeft) next (c := c) (by rw [← M_eq]; exact polled) (F + 1)
    rw [Line.takeEntry_paced (by exact pacedM) legLeft, Line.taking_polling (Line.before_position ahead)] at step
    rw [State.choose, State.line_withLine, hF, run, step, State.line_withLine, ← M_eq]
    exact ⟨rfl, rfl⟩
  · obtain ⟨init, last, rfl⟩ := (List.eq_nil_or_concat' skipped).resolve_left some
    rw [List.length_append, List.length_singleton] at full ⊢
    replace ahead : M.before ((init ++ [last]) ++ after) := by rw [← M_eq]; exact ahead
    obtain ⟨F, hF⟩ := fuel (init) ([last] ++ after) (by rw [← List.append_assoc]; exact ahead)
    obtain ⟨N, N_eq, next, run⟩ := chooseWith_passes_last freeM pacedM leg ahead (by omega) (by rw [← M_eq]; exact passed) (F + 1)
    have ended : N.entryEnded = (N.withLeg .none, false) := by
      have not_end : ¬N.pollList.length < N.position := by rw [Line.before_end next]; exact more
      rw [Line.entryEnded_paced (by rw [N_eq]; exact pacedM) (congrArg Line.leg N_eq), if_neg not_end, if_pos (by omega)]
    rw [State.choose, State.line_withLine, hF, run, entryEnded_withLine, ended, if_neg Bool.false_ne_true,
      chooseWith_rests (by rw [N_eq]; exact freeM) (Line.sweepReady_leg_over (by rw [N_eq]; exact pacedM) rfl),
      State.line_withLine, N_eq, ← M_eq]
    exact ⟨rfl, rfl⟩
  · obtain ⟨init, last, rfl⟩ := (List.eq_nil_or_concat' skipped).resolve_left some
    rw [List.length_append, List.length_singleton] at fits ⊢
    replace ahead : M.before ((init ++ [last]) ++ []) := by rw [← M_eq, List.append_nil]; exact ahead
    obtain ⟨F, hF⟩ := fuel (init) ([last] ++ []) (by rw [← List.append_assoc]; exact ahead)
    obtain ⟨N, N_eq, next, run⟩ := chooseWith_passes_last freeM pacedM leg ahead (by omega) (by rw [← M_eq]; exact passed) (F + 1)
    have ended : N.entryEnded = ((N.rewound .none).withLeg .none, true) := by
      rw [Line.entryEnded_paced (by rw [N_eq]; exact pacedM) (congrArg Line.leg N_eq), if_pos ((Line.before_end next).mpr rfl)]
    rw [State.choose, State.line_withLine, hF, run, entryEnded_withLine, ended, if_pos rfl,
      chooseWith_rests (by rw [N_eq]; exact freeM) (Line.sweepReady_leg_over (by rw [N_eq]; exact pacedM) rfl),
      State.line_withLine, N_eq, ← M_eq]
    exact ⟨rfl, oneMore_noticeList _ _, by
      show (!(noticeList _ _).isEmpty) = true
      rw [noticeList_ne_nil]
      rfl⟩

/-! ### The entries of a SINGLE pass (R156) -/

theorem Line.takeEntry_single {L : Line} (single : L.settings.mode = .single) (elapsed : Nat) :
    L.takeEntry elapsed = L.taking 1 elapsed := by
  rw [Line.takeEntry_eq, Line.takeEntry_leg (by rw [single]; decide)]
  rfl

theorem Line.sweepReady_single {L : Line} (single : L.settings.mode = .single) : L.sweepReady = (L.pass == .running) := by
  simp [Line.sweepReady, single]

theorem Line.taking_pass_single {L : Line} (single : L.settings.mode = .single) (entries elapsed : Nat) :
    (L.taking entries elapsed).pass = L.pass := by
  simp [Line.taking, single]

theorem chooseWith_passes_single {s : State} {l : LineNo} (skipped : List Nat) {rest : List Nat} {L : Line} (free : L.free)
    (single : L.settings.mode = .single) (running : L.pass = .running) (ahead : L.before (skipped ++ rest))
    (passed : s.passesOver l L.passRecord skipped) (fuel : Nat) :
    (L.taking skipped.length s.elapsed).before rest ∧
      (s.withLine l L).chooseWith (fuel + skipped.length) l =
        (s.withLine l (L.taking skipped.length s.elapsed)).chooseWith fuel l := by
  induction skipped generalizing L with
  | nil =>
    rw [List.length_nil, Line.taking_zero]
    exact ⟨ahead, rfl⟩
  | cons drop skipped ih =>
    obtain ⟨first, later⟩ := State.passesOver_cons.mp passed
    have ready : L.sweepReady = true := by rw [Line.sweepReady_single single, running]; rfl
    obtain ⟨before, run⟩ := ih (L := L.taking 1 s.elapsed) free single
      ((Line.taking_pass_single single _ _).trans running) (Line.before_next (rest := skipped ++ rest) ahead _) later
    have step := chooseWith_passes free ready (rest := skipped ++ rest) ahead first (fuel + skipped.length)
    rw [Line.takeEntry_single single, entryEnded_withLine, Line.entryEnded_single (by exact single)] at step
    rw [Line.taking_taking (Line.before_position ahead), Nat.add_comm 1] at before run
    exact ⟨before, step.trans run⟩

/-- The end of the list of a SINGLE pass: it is over (R156). -/
theorem chooseWith_pass_over {s : State} {l : LineNo} {L : Line} (free : L.free) (single : L.settings.mode = .single)
    (running : L.pass = .running) (none_left : L.before []) (fuel : Nat) :
    (s.withLine l L).chooseWith (fuel + 1 + 1) l =
      (s.notice (.sweepComplete l)).withLine l { L.rewound .none with state := .idle } := by
  have ready : L.sweepReady = true := by rw [Line.sweepReady_single single, running]; rfl
  have rests := chooseWith_rests (L := L.rewound .none) free (Line.sweepReady_single single) fuel
    (s.notice (.sweepComplete l)) l
  obtain ⟨chain, queue⟩ := free
  rw [← rests, State.chooseWith]
  simp only [State.line_withLine, chain, queue, ready, Line.before_nil none_left, State.withLine_onLine, Option.filter_none,
    if_true, single, Line.rewound]
  rfl

/-- What a line does that begins a SINGLE pass and takes its first entries in the same act (R156, R159). -/
theorem singlePass_takesPass {s : State} {l : LineNo} {L : Line} (free : L.free) (single : L.settings.mode = .single) :
    s.takesPass ((s.withLine l (L.rewound .running)).choose l) l L := by
  have ahead {entries : List Nat} (list : L.pollList = entries) : (L.rewound .running).before entries := ⟨[], list, rfl⟩
  refine ⟨fun skipped drop after c list passed polled => ?_, fun passed => ?_⟩
  · have short := Line.before_length (ahead list)
    rw [List.length_append, List.length_cons] at short
    obtain ⟨F, hF⟩ : ∃ F, 2 * (L.rewound .running).pollList.length + (L.rewound .running).directed.length + 3 =
        F + 1 + skipped.length := ⟨2 * (L.rewound .running).pollList.length + (L.rewound .running).directed.length + 2 -
          skipped.length, by omega⟩
    obtain ⟨next, run⟩ := chooseWith_passes_single skipped (L := L.rewound .running) free single rfl (ahead list) passed
      (F + 1)
    have ready : ((L.rewound .running).taking skipped.length s.elapsed).sweepReady = true := by
      rw [Line.sweepReady_single (by exact single), Line.taking_pass_single (by exact single)]
      rfl
    have step := chooseWith_polls (L := (L.rewound .running).taking skipped.length s.elapsed) free ready next polled F
    rw [Line.takeEntry_single (by exact single)] at step
    have polling := Line.taking_polling (L := L.rewound .running) (Nat.le_refl 1) skipped.length s.elapsed L.leg c
    rw [State.choose, State.line_withLine, hF, run, step, State.line_withLine]
    exact ⟨congrArg (fun M : Line => M.withLeg L.leg) polling, rfl⟩
  · obtain ⟨F, hF⟩ : ∃ F, 2 * (L.rewound .running).pollList.length + (L.rewound .running).directed.length + 3 =
        F + 1 + 1 + L.pollList.length := ⟨L.pollList.length + L.directed.length + 1, by
          show 2 * L.pollList.length + L.directed.length + 3 = _
          omega⟩
    obtain ⟨none_left, run⟩ := chooseWith_passes_single L.pollList (rest := []) (L := L.rewound .running) free single rfl
      (by rw [List.append_nil]; exact ahead rfl) passed (F + 1 + 1)
    rw [State.choose, State.line_withLine, hF, run,
      chooseWith_pass_over (by exact free) (by exact single) ((Line.taking_pass_single (by exact single) _ _).trans rfl) none_left,
      State.line_withLine]
    exact ⟨rfl, oneMore_noticeList _ _, by
      show (!(noticeList _ _).isEmpty) = true
      rw [noticeList_ne_nil]
      rfl⟩

/-! ### Pace ticks and SWEEP (R3, R158, R159) -/

theorem onlyLine_of {s t : State} {l : LineNo} (only : OnlyLines s t) (others : ∀ m, m ≠ l → t.line m = s.line m) :
    s.onlyLine t l := by
  obtain ⟨ls, ns, a, rfl⟩ := only
  exact ⟨others, rfl, rfl, rfl, rfl, rfl, rfl, rfl, rfl, rfl, rfl, rfl, rfl, rfl⟩

/-- A line put in the place of another, and its choice. -/
theorem withLine_choose_onlyLine (s : State) (l : LineNo) (L : Line) : s.onlyLine ((s.withLine l L).choose l) l := by
  have touched := (onLine_touches s l (fun _ => L) 0).trans (choose_touches (s.withLine l L) l 0)
  exact onlyLine_of ((onLine_only s l _).trans (choose_only _ l)) touched.lines

theorem paceEvent_pending {s : State} {l : LineNo} (h : (s.line l).leg = .none) :
    s.paceEvent l = (s.withLine l ((s.line l).withLeg .pending)).chooseIfIdle l := if_pos h

theorem paceEvent_overrun {s : State} {l : LineNo} (h : (s.line l).leg ≠ .none) :
    s.paceEvent l = s.notice (.paceOverrun l) := if_neg h

theorem chooseIfIdle_idle {s : State} {l : LineNo} (h : (s.line l).state = .idle) : s.chooseIfIdle l = s.choose l := if_pos h

/-- A pace event at an IDLE line with nothing queued and no leg in progress. -/
theorem paceEvent_takesLeg {s : State} {l : LineNo} (free : (s.line l).free) (paced : (s.line l).settings.mode = .paced)
    (none_yet : (s.line l).leg = .none) (idle : (s.line l).state = .idle) :
    s.onlyLine (s.paceEvent l) l ∧ s.takesLeg (s.paceEvent l) l (s.line l) (s.line l).settings.leg := by
  rw [paceEvent_pending none_yet, chooseIfIdle_idle (by rw [State.line_withLine]; exact idle)]
  exact ⟨withLine_choose_onlyLine _ _ _, pendingLeg_takesLeg free paced⟩

theorem Line.takeTick_eq (L : Line) :
    L.takeTick = { L with paceCounter := L.takeTick.paceCounter, ticksHanded := L.takeTick.ticksHanded } := by
  unfold Line.takeTick
  split <;> rfl

theorem Line.pacedByClock_mode {L : Line} (h : L.pacedByClock = true) : L.settings.mode = .paced := by
  simp only [Line.pacedByClock, Bool.and_eq_true, beq_iff_eq] at h
  exact h.1.2

theorem exec_paceTick {s : State} (on : s.mainSupply = true) (l : LineNo) :
    exec (.paceTick l) s =
      .next (if (s.line l).pacedByClock then (s.onLine l Line.takeTick).paceEvent l else s.onLine l Line.takeTick) := by
  simp [exec, execPaceTick, State.working, on, State.paceTick]

theorem paceTicks_taken (s : State) (l : LineNo) (on : s.mainSupply = true) :
    ((s.line l).pacedByClock = true → (s.line l).leg ≠ .none →
      exec (.paceTick l) s = .next ((s.onLine l Line.takeTick).notice (.paceOverrun l))) ∧
    ((s.line l).pacedByClock = true → (s.line l).leg = .none →
      ((s.line l).state ≠ .idle →
        exec (.paceTick l) s = .next (s.onLine l fun L => { L.takeTick with leg := .pending })) ∧
      ((s.line l).state = .idle → (s.line l).chain = none → (s.line l).directed = [] →
        ∃ t, exec (.paceTick l) s = .next t ∧ s.onlyLine t l ∧
          s.takesLeg t l (s.line l).takeTick (s.line l).settings.leg)) ∧
    ((s.line l).pacedByClock = false → exec (.paceTick l) s = .next (s.onLine l Line.takeTick)) := by
  have ticked : (s.onLine l Line.takeTick).line l = (s.line l).takeTick := by simp
  have tick := (s.line l).takeTick_eq
  have leg : (s.line l).takeTick.leg = (s.line l).leg := by rw [tick]
  have state : (s.line l).takeTick.state = (s.line l).state := by rw [tick]
  have settings : (s.line l).takeTick.settings = (s.line l).settings := by rw [tick]
  rw [exec_paceTick on]
  refine ⟨fun paced some => ?_, fun paced none_yet => ⟨fun busy => ?_, fun idle chain queue => ?_⟩, fun unpaced => ?_⟩
  · rw [if_pos paced, paceEvent_overrun (by rw [ticked, leg]; exact some)]
  · rw [if_pos paced, paceEvent_pending (by rw [ticked, leg]; exact none_yet), ticked,
      chooseIfIdle_busy (by rw [State.line_withLine]; exact state ▸ busy), State.onLine_eq_withLine, State.withLine,
      State.withLine_onLine]
    rfl
  · have free : ((s.onLine l Line.takeTick).line l).free := by
      rw [ticked, tick]
      exact ⟨chain, queue⟩
    obtain ⟨⟨others, alone⟩, takes⟩ := paceEvent_takesLeg free (by rw [ticked, settings]; exact Line.pacedByClock_mode paced)
      (by rw [ticked, leg]; exact none_yet) (by rw [ticked, state]; exact idle)
    rw [ticked, settings] at takes
    exact ⟨_, by rw [if_pos paced], ⟨fun m hm => (others m hm).trans (onLine_line_ne s l m _ hm), alone⟩, takes⟩
  · rw [if_neg (by rw [unpaced]; exact Bool.false_ne_true)]

theorem readLine_byte (l : LineNo) : readLine [byte l.val] = .ok l := by
  fin_cases l <;> rfl

theorem exec_sweep {s : State} (ready : s.ready = true) (tag : Byte) (l : LineNo) :
    exec (.sweep tag [byte l.val]) s =
      .next (((s.accepted tag 43).sweepEffect l (s.line l).disposition).done (.sweep (s.line l).disposition)) := by
  simp only [exec, execSweep, State.request_ready ready, readLine_byte, State.owned_ok]
  rfl

/-- The disposition of SWEEP by R159's table. -/
theorem Line.disposition_none {L : Line}
    (h : L.halted = true ∨ L.settings.mode = .continuous ∨ (L.settings.mode = .paced ∧ L.settings.source = .clock) ∨
      (L.settings.mode = .single ∧ L.pass ≠ .none)) : L.disposition = .none := by
  unfold Line.disposition
  split
  · rfl
  · rename_i used
    rcases h with halted | mode | ⟨mode, source⟩ | ⟨mode, pass⟩
    · exact absurd halted used
    · simp only [mode]
    · simp only [mode, source]
    · simp only [mode, if_neg pass]

theorem Line.disposition_started {L : Line} (used : L.halted = false) (mode : L.settings.mode = .single)
    (pass : L.pass = .none) : L.disposition = .started := by
  simp [Line.disposition, used, mode, pass]

theorem Line.disposition_paced {L : Line} (used : L.halted = false) (mode : L.settings.mode = .paced)
    (source : L.settings.source = .host) : L.disposition = if L.leg = .none then .leg else .overrun := by
  simp [Line.disposition, used, mode, source]

/-- What an act on one line leaves once a request has been accepted is left as well by a state whose link is as before; the
reply to the request is handed over to that link. -/
theorem swept_of_accepted {s v : State} {tag : Byte} {l : LineNo} {fields : DoneFields} {takes : State → Prop}
    (only : (s.accepted tag 43).onlyLine v l) (taken : takes { v with link := s.link }) :
    ∃ u, (.next (v.done fields) : Host.Outcome State Fault Refusal) = .next (u.replied tag 43 (.done fields)) ∧
      s.onlyLine u l ∧ takes u := by
  obtain ⟨others, contexts, permits, cash, fare, link, store⟩ := only
  refine ⟨{ v with link := s.link }, ?_, ⟨others, contexts, permits, cash, fare, rfl, store⟩, taken⟩
  rw [State.done, State.reply_of_accept (s := s) (tag := tag) (kind := 43) link]
  rfl

theorem sweeps_taken (s : State) (tag : Byte) (l : LineNo) (ready : s.ready = true) (used : (s.line l).halted = false) :
    ((s.line l).settings.mode = .single → (s.line l).pass = .none →
      ((s.line l).state ≠ .idle →
        exec (.sweep tag [byte l.val]) s =
          .next ((s.onLine l fun L => L.rewound .running).replied tag 43 (.done (.sweep .started)))) ∧
      ((s.line l).state = .idle → (s.line l).chain = none → (s.line l).directed = [] →
        ∃ u, exec (.sweep tag [byte l.val]) s = .next (u.replied tag 43 (.done (.sweep .started))) ∧
          s.onlyLine u l ∧ s.takesPass u l (s.line l))) ∧
    ((s.line l).settings.mode = .paced → (s.line l).settings.source = .host →
      ((s.line l).leg = .none →
        ((s.line l).state ≠ .idle →
          exec (.sweep tag [byte l.val]) s =
            .next ((s.onLine l fun L => { L with leg := .pending }).replied tag 43 (.done (.sweep .leg)))) ∧
        ((s.line l).state = .idle → (s.line l).chain = none → (s.line l).directed = [] →
          ∃ u, exec (.sweep tag [byte l.val]) s = .next (u.replied tag 43 (.done (.sweep .leg))) ∧
            s.onlyLine u l ∧ s.takesLeg u l (s.line l) (s.line l).settings.leg)) ∧
      ((s.line l).leg ≠ .none →
        exec (.sweep tag [byte l.val]) s =
          .next ((s.notice (.paceOverrun l)).replied tag 43 (.done (.sweep .overrun))))) := by
  rw [exec_sweep ready]
  refine ⟨fun mode pass => ?_, fun mode source => ⟨fun none_yet => ?_, fun some => ?_⟩⟩
  · have effect : (s.accepted tag 43).sweepEffect l .started =
        ((s.accepted tag 43).withLine l ((s.line l).rewound .running)).chooseIfIdle l := rfl
    rw [Line.disposition_started used mode pass, effect]
    refine ⟨fun busy => ?_, fun idle chain queue => ?_⟩
    · rw [chooseIfIdle_busy (by rw [State.line_withLine]; exact busy)]
      rfl
    · rw [chooseIfIdle_idle (by rw [State.line_withLine]; exact idle)]
      exact swept_of_accepted (withLine_choose_onlyLine _ _ _)
        (singlePass_takesPass (s := s.accepted tag 43) ⟨chain, queue⟩ mode)
  · have effect : (s.accepted tag 43).sweepEffect l .leg = (s.accepted tag 43).paceEvent l := rfl
    rw [Line.disposition_paced used mode source, if_pos none_yet, effect]
    refine ⟨fun busy => ?_, fun idle chain queue => ?_⟩
    · rw [paceEvent_pending (s := s.accepted tag 43) none_yet,
        chooseIfIdle_busy (by rw [State.line_withLine]; exact busy)]
      rfl
    · obtain ⟨only, takes⟩ := paceEvent_takesLeg (s := s.accepted tag 43) (l := l) ⟨chain, queue⟩ mode none_yet idle
      exact swept_of_accepted only takes
  · have effect : (s.accepted tag 43).sweepEffect l .overrun = (s.accepted tag 43).paceEvent l := rfl
    rw [Line.disposition_paced used mode source, if_neg some, effect, paceEvent_overrun (by exact some)]
    rfl

/-- Settles O16. -/
theorem sweepsAndPaceTicks : Obligations.SweepsAndPaceTicks := by
  refine ⟨paceTicks_taken, fun s tag l ready => ⟨fun quiet => ?_, sweeps_taken s tag l ready⟩⟩
  rw [exec_sweep ready, Line.disposition_none quiet]
  rfl

end Sys2Proof.Machine
end

section
/-! SESSION and REFERRAL results (O25): what the checks decide, what a commit changes and leaves, and how the claim and the
referral go, each said once and then put together for the two kinds of result. -/

namespace Sys2Proof.Machine

open Sys2Proof

/-! ### The checks (R71) -/

/-- A walk that bought something starts where the computation latched its start (R37, R49). -/
theorem Computation.walk_start {k : Computation} {f : Figures} (h : k.walk = .computed f) : f.start = k.start := by
  have under (t : ZoneTariff) (minutes : Nat) (h : k.minutesUnder t minutes = .computed f) : f.start = k.start := by
    unfold Computation.minutesUnder at h
    split at h
    · nomatch h
    · split at h
      · nomatch h
      · obtain rfl := Walk.computed.inj h
        rfl
  unfold Computation.walk at h
  split at h
  · unfold Computation.money at h
    split at h
    · nomatch h
    · split at h
      · nomatch h
      · split at h
        · nomatch h
        · split at h
          · nomatch h
          · simp only at h
            split at h
            · nomatch h
            · obtain rfl := Walk.computed.inj h
              rfl
  · unfold Computation.minutes at h
    split at h
    · split at h <;> nomatch h
    · split at h
      · exact under _ _ h
      · split at h
        · nomatch h
        · exact under _ _ h

/-- The model's checks on a COMPUTED result are those of the statement. -/
theorem sessionRefusal_eq (s : State) (c : Context) {k : Computation} {f : Figures} (h : k.walk = .computed f) (once : Bool) :
    s.sessionRefusal c k.result f once = s.sessionFails c k once := by
  unfold State.sessionRefusal State.sessionFails
  simp only [h, Computation.walk_start h, Computation.result_permit, Computation.result_zone, zoneIn, Bool.not_eq_true'] <;>
    rfl

theorem sessionChecked_ok {s : State} {c : Context} {k : Computation} {f : Figures} {once : Bool}
    (h : k.walk = .computed f) (passes : s.sessionFails c k once = none) :
    s.sessionChecked c k.result k.walk once = .ok f := by
  rw [← sessionRefusal_eq s c h] at passes
  simp [State.sessionChecked, h, passes]

theorem sessionChecked_error {s : State} {c : Context} {k : Computation} {once : Bool} {reason : Reason}
    (fails : s.sessionFails c k once = some reason) :
    s.sessionChecked c k.result k.walk once = .error reason := by
  cases h : k.walk with
  | computed f =>
    rw [← sessionRefusal_eq s c h] at fails
    simp [State.sessionChecked, fails]
  | zoneNotTariffed | belowMinimum | zoneNotPermitted | freeParking start | insufficient start =>
    simp_all [State.sessionFails, State.sessionChecked, Walk.reason]

/-! ### Records and claims (R89, R91) -/

/-- A change to records that keeps their numbers, read at one number. -/
theorem permit_map (s : State) (f : Permit → Permit) (keeps : ∀ p, (f p).number = p.number) (m : Nat) :
    (s.onPermits fun t => { t with records := t.records.map f }).permit m = (s.permit m).map f := by
  show (s.permits.records.map f).find? _ = _
  rw [List.find?_map]
  exact congrArg (Option.map f) (congrArg (s.permits.records.find? ·) (funext fun p => by simp [keeps]))

theorem permit_clearClaim (s : State) (claim : Claim) (m : Nat) :
    (s.clearClaim claim).permit m = (s.permit m).map fun p => p.without claim := by
  refine (permit_map s (fun p => if p.claim = some claim then { p with claim := none } else p)
    (fun p => by split <;> rfl) m).trans (congrArg (Option.map · (s.permit m)) (funext fun p => ?_))
  unfold Permit.without
  split <;> rfl

theorem permit_number {s : State} {m : Nat} {p : Permit} (h : s.permit m = some p) : p.number = m := by
  simpa using List.find?_some h

/-- The record charged with a session (R91). -/
def Permit.charged (p : Permit) (day minutes : Nat) (session : LastSession) : Permit :=
  { p with usedDay := some day, usedMinutes := p.effectiveUsed day + minutes, lastSession := some session }

theorem permit_charge_self {s : State} {number : Nat} {p : Permit} (h : s.permit number = some p) (day minutes : Nat)
    (session : LastSession) :
    (s.charge number day minutes session).permit number = some (p.charged day minutes session) := by
  refine (permit_map s (fun p => if p.number = number then p.charged day minutes session else p)
    (fun p => by split <;> rfl) number).trans ?_
  rw [h, Option.map_some, if_pos (permit_number h)]

theorem permit_charge_ne (s : State) {number m : Nat} (h : m ≠ number) (day minutes : Nat) (session : LastSession) :
    (s.charge number day minutes session).permit m = s.permit m := by
  refine (permit_map s (fun p => if p.number = number then p.charged day minutes session else p)
    (fun p => by split <;> rfl) m).trans ?_
  cases hp : s.permit m with
  | none => rfl
  | some p => rw [Option.map_some, if_neg (by rw [permit_number hp]; exact h)]

/-! ### What a commit, an answer and a held result leave alone -/

/-- Of the permits only the records may differ, beside the contexts, the lines, the notice queue and ATTENTION. -/
def OnlyRecords (s t : State) : Prop :=
  ∃ cs ls ns a rs, t = { s with contexts := cs, lines := ls, notices := ns, attention := a,
                                permits := { s.permits with records := rs } }

theorem OnlyTerminals.onlyRecords {s t : State} (h : OnlyTerminals s t) : OnlyRecords s t := by
  obtain ⟨cs, ls, ns, a, rfl⟩ := h
  exact ⟨cs, ls, ns, a, s.permits.records, rfl⟩

theorem OnlyRecords.refl (s : State) : OnlyRecords s s := (OnlyTerminals.refl s).onlyRecords

theorem OnlyRecords.trans {s t u : State} (h : OnlyRecords s t) (k : OnlyRecords t u) : OnlyRecords s u := by
  obtain ⟨_, _, _, _, _, rfl⟩ := h
  obtain ⟨cs, ls, ns, a, rs, rfl⟩ := k
  exact ⟨cs, ls, ns, a, rs, rfl⟩

theorem charge_onlyRecords (s : State) (number day minutes : Nat) (session : LastSession) :
    OnlyRecords s (s.charge number day minutes session) := ⟨s.contexts, s.lines, s.notices, s.attention, _, rfl⟩

theorem clearClaim_onlyRecords (s : State) (claim : Claim) : OnlyRecords s (s.clearClaim claim) :=
  ⟨s.contexts, s.lines, s.notices, s.attention, _, rfl⟩

/-- An exchange in progress on a line is left as it is by every order asked for (R163). -/
def KeepsExchange (s t : State) (l : LineNo) : Prop :=
  (s.line l).state ≠ .idle → (t.line l).state = (s.line l).state ∧ (t.line l).exchange = (s.line l).exchange

theorem KeepsExchange.of_line {s t : State} {l : LineNo} (h : t.line l = s.line l) : KeepsExchange s t l :=
  fun _ => by rw [h]; exact ⟨rfl, rfl⟩

theorem KeepsExchange.trans {s t u : State} {l : LineNo} (h : KeepsExchange s t l) (k : KeepsExchange t u l) :
    KeepsExchange s u l := by
  intro busy
  obtain ⟨state, exchange⟩ := h busy
  obtain ⟨state', exchange'⟩ := k (by rw [state]; exact busy)
  exact ⟨state'.trans state, exchange'.trans exchange⟩

theorem askOrder_keepsExchange (s : State) (n : Nat) (kind : OrderKind) (l : LineNo) :
    KeepsExchange s (s.askOrder n kind) l := by
  intro busy
  unfold State.askOrder
  split
  · exact ⟨rfl, rfl⟩
  · rename_i c _
    simp only
    repeat' split
    all_goals first
      | exact ⟨rfl, rfl⟩
      | skip
    by_cases same : c.line = l
    · subst same
      rw [chooseIfIdle_busy (by rw [State.line_onLine, if_pos rfl]; exact busy), State.line_onLine, if_pos rfl]
      exact ⟨rfl, rfl⟩
    · rw [(chooseIfIdle_touches _ c.line n).lines l (Ne.symm same), onLine_line_ne _ _ _ _ (Ne.symm same)]
      exact ⟨rfl, rfl⟩

theorem report_line (s : State) (n : Nat) (add : ReportSet → ReportSet) (l : LineNo) :
    (s.report n add).line l = s.line l := by
  obtain ⟨_, _, _, e⟩ := report_onlyReports s n add
  rw [e]
  rfl

theorem act_keepsExchange (s : State) (n : Nat) (f : Context → Context) (l : LineNo) : KeepsExchange s (s.act n f) l := by
  unfold State.act
  simp only
  split
  · exact .of_line rfl
  · have reported : KeepsExchange s ((s.onContext n f).report n fun r => { r with condition := true }) l :=
      .of_line (report_line _ n _ l)
    exact reported.trans (askOrder_keepsExchange _ _ _ _)

/-! ### Answers (R148) -/

/-- The answer reaches the exchange that waits for it. -/
theorem finish_answers {s : State} {n : Nat} {d : Context} (hd : s.context n = some d) (request : Nat) (answer : Answer) :
    s.answers (s.finish n request answer) d.line n request answer := by
  intro e r _ exchange terminal phase taken
  have hn : (s.onContext n fun c => { c with inFlight := none }).context n = some { d with inFlight := none } := by
    rw [State.context_onContext_self s n _ (by intro _; rfl), hd]
    rfl
  have asked : FromTerminal.isRequest e.taken request = true := by simp [taken, FromTerminal.isRequest]
  simp only [State.finish, State.handAnswer, hn, State.line_onContext, exchange, terminal, phase, asked, and_self, if_true,
    State.line_onLine, Line.answer]
  unfold Line.transmit
  simp only
  split <;> simp

theorem answers_of_kept {s u t : State} {l : LineNo} {n request : Nat} {answer : Answer} (kept : KeepsExchange s u l)
    (h : u.answers t l n request answer) : s.answers t l n request answer := by
  intro e r busy exchange
  obtain ⟨state, same⟩ := kept busy
  exact h e r (by rw [state]; exact busy) (same.trans exchange)

theorem finish_notices (s : State) (n request : Nat) (answer : Answer) : (s.finish n request answer).notices = s.notices := by
  unfold State.finish State.handAnswer
  repeat' split
  all_goals rfl

/-! ### The commit of a session (R72, R91) -/

/-- A context whose serial and paper a session's ticket has used (R72, R73, R124). -/
def Context.spent (c : Context) (defaults : Thresholds) : Context :=
  ({ c with serial := nextSerial c.serial } : Context).usePaper defaults

/-- The state whose record is charged; a GRANT ONCE charges none (R91, R99). -/
def State.charged (s : State) (c : Context) (r : FareResult) (f : Figures) (once : Bool) : State :=
  match once, r.permit with
  | false, some number =>
    s.charge number f.start.day f.minutes
      { terminal := c.number, zone := r.zone, start := f.start, expiry := f.expiry, minutes := f.minutes }
  | _, _ => s

theorem commitSession_eq (s : State) (c : Context) (r : FareResult) (f : Figures) (once : Bool) :
    s.commitSession c r f once = (s.charged c r f once).act c.number fun c => c.spent s.defaults := rfl

theorem charged_onlyRecords (s : State) (c : Context) (r : FareResult) (f : Figures) (once : Bool) :
    OnlyRecords s (s.charged c r f once) := by
  unfold State.charged
  split
  · exact charge_onlyRecords _ _ _ _ _
  · exact OnlyRecords.refl s

theorem charged_context (s : State) (c : Context) (r : FareResult) (f : Figures) (once : Bool) (m : Nat) :
    (s.charged c r f once).context m = s.context m := by
  unfold State.charged
  split <;> rfl

theorem charged_line (s : State) (c : Context) (r : FareResult) (f : Figures) (once : Bool) (l : LineNo) :
    (s.charged c r f once).line l = s.line l := by
  unfold State.charged
  split <;> rfl

/-- The record named is charged from the walk's start day on (R91). -/
theorem charged_named (s : State) (c : Context) {k : Computation} {f : Figures} {number : Nat}
    (named : k.entry.permit = some number) (start : f.start = k.start) :
    s.charged c k.result f false = s.charge number k.start.day f.minutes
      { terminal := c.number, zone := k.entry.zone, start := k.start, expiry := f.expiry, minutes := f.minutes } := by
  simp only [State.charged, Computation.result_permit, Computation.result_zone, named, start]

/-- What a commit leaves of the terminal. -/
theorem commitSession_context {s : State} {n : Nat} {c : Context} (hc : s.context n = some c) (r : FareResult) (f : Figures)
    (once : Bool) :
    ∃ reports owed, (s.commitSession c r f once).context n =
      some { c.spent s.defaults with reports := reports, owed := owed } := by
  obtain rfl := State.context_number hc
  obtain ⟨o, ho⟩ := act_context (s := s.charged c r f once) ((charged_context s c r f once _).trans hc)
    (fun c => c.spent s.defaults) fun _ => rfl
  exact ⟨_, o, ho⟩

theorem commitSession_touches {s : State} {n : Nat} {c : Context} (hc : s.context n = some c) (r : FareResult) (f : Figures)
    (once : Bool) : Touches (s.charged c r f once) (s.commitSession c r f once) n c.line := by
  obtain rfl := State.context_number hc
  exact act_touches ((charged_context s c r f once _).trans hc) (fun c => c.spent s.defaults) fun _ => rfl

theorem commitSession_keepsExchange (s : State) (c : Context) (r : FareResult) (f : Figures) (once : Bool) (l : LineNo) :
    KeepsExchange s (s.commitSession c r f once) l :=
  (KeepsExchange.of_line (charged_line s c r f once l)).trans (act_keepsExchange _ _ _ _)

/-! ### The service of the fare queue (R34) -/

theorem serveFare_eq (s : State) : ∃ fare, s.serveFare = { s with fare := fare } := by
  unfold State.serveFare
  split <;> exact ⟨_, rfl⟩

/-- A completion hands the result over and serves the queue; the latter changes the Fare Engine alone. -/
theorem exec_computationComplete {s : State} {k : Computation} (on : s.mainSupply = true)
    (computing : s.fare.computing = some k) :
    ∃ fare, exec .computationComplete s = .next { s.deliver k.result with fare := fare } := by
  obtain ⟨fare, served⟩ := serveFare_eq (s.deliver k.result)
  exact ⟨fare, by simp [exec, execComputationComplete, State.working, on, State.computationComplete, computing, served]⟩

/-! ### SESSION results (R71, R72) -/

theorem OnlyTerminals.permit {s t : State} (h : OnlyTerminals s t) (m : Nat) : t.permit m = s.permit m := by
  obtain ⟨_, _, _, _, rfl⟩ := h
  rfl

/-- What is left alone by a result whose taking leaves all but the records, the contexts and the lines alone. -/
theorem OnlyRecords.store {s t : State} (h : OnlyRecords s.scanAlong t) :
    t.cash = s.cash ∧ t.link = s.link ∧ s.sameStore t := by
  obtain ⟨cs, ls, ns, a, rs, rfl⟩ := h
  exact ⟨rfl, rfl, rfl, rfl, rfl, rfl, rfl, rfl, rfl, rfl⟩

theorem Touches.onlyAt {s t : State} {n : Nat} {l : LineNo} (h : Touches s t n l) : s.onlyAt t n l := ⟨h.contexts, h.lines⟩

theorem deliver_session {k : Computation} {n request : Nat} (returns : k.entry.returnTo = .terminal n request)
    (session : k.entry.kind = .session) (s : State) :
    s.deliver k.result = (s.scanAlong.takeTerminal n request k.result).clearClaim (.session n request) := by
  simp [State.deliver, returns, session, State.takeClaimed]

theorem takeTerminal_session {s : State} {n request : Nat} {c : Context} (hc : s.context n = some c)
    (flight : c.inFlight = some { kind := .session, number := request, withdrawn := false }) (k : Computation) :
    s.takeTerminal n request k.result =
      s.takeSession c { kind := .session, number := request, withdrawn := false } k.result k.copy.version k.walk := by
  simp [State.takeTerminal, hc, flight]

/-- The ticket of a session charges nothing (R72). -/
theorem sessionTicket_eq (c : Context) {k : Computation} {f : Figures} (start : f.start = k.start) (version : Nat) :
    sessionTicket c k.result version f =
      { terminal := c.number, serial := nextSerial c.serial, zone := k.entry.zone, start := k.start, expiry := f.expiry,
        charged := 0, unused := 0, minutes := f.minutes, version := version, freeStart := f.freeStart,
        maxStay := f.ending == .maxStay, horizon := f.ending == .horizon, tariffChanged := false, resident := true,
        permit := k.entry.permit } := by
  rw [← start]
  rfl

/-- A SESSION result that passes every check: the commit, the last ticket and the answer (R72). -/
theorem takeSession_ok {s : State} {c : Context} {k : Computation} {f : Figures} (walk : k.walk = .computed f)
    (passes : s.sessionFails c k false = none) (request : Nat) :
    s.takeSession c { kind := .session, number := request, withdrawn := false } k.result k.copy.version k.walk =
      ((s.commitSession c k.result f false).onContext c.number fun d =>
        { d with last := some (request, sessionTicket c k.result k.copy.version f) }).finish c.number request
          (.ticket (sessionTicket c k.result k.copy.version f)) := by
  simp only [State.takeSession, sessionChecked_ok walk passes]

theorem takeSession_error {s : State} {c : Context} {k : Computation} {reason : Reason}
    (fails : s.sessionFails c k false = some reason) (request : Nat) :
    s.takeSession c { kind := .session, number := request, withdrawn := false } k.result k.copy.version k.walk =
      s.finish c.number request (.refused reason) := by
  rw [State.takeSession, sessionChecked_error fails]

/-- A SESSION result is delivered; its claim is cleared once the Terminal Table has taken it. -/
theorem exec_session {s : State} {k : Computation} {n request : Nat} (on : s.mainSupply = true)
    (computing : s.fare.computing = some k) (returns : k.entry.returnTo = .terminal n request)
    (session : k.entry.kind = .session) :
    ∃ fare, exec .computationComplete s =
      .next { (s.scanAlong.takeTerminal n request k.result).clearClaim (.session n request) with fare := fare } := by
  obtain ⟨fare, run⟩ := exec_computationComplete on computing
  exact ⟨fare, by rw [run, deliver_session returns session]⟩

theorem session_committed {s : State} {k : Computation} {n request : Nat} {c : Context} {f : Figures} {p : Permit}
    (on : s.mainSupply = true) (computing : s.fare.computing = some k)
    (returns : k.entry.returnTo = .terminal n request) (session : k.entry.kind = .session) (hc : s.context n = some c)
    (flight : c.inFlight = some { kind := .session, number := request, withdrawn := false })
    (walk : k.walk = .computed f) (named : k.entry.permit = some p.number) (record : s.permit p.number = some p)
    (passes : s.sessionFails c k false = none) :
    ∃ t d ticket, exec .computationComplete s = .next t ∧ t.context n = some d ∧
      d.serial = (if c.serial < 999999 then c.serial + 1 else 1) ∧ d.inFlight = none ∧ d.tally = c.tally ∧
      d.paperRemaining = c.paperRemaining - 1 ∧
      ticket =
        { terminal := n, serial := d.serial, zone := k.entry.zone, start := k.start, expiry := f.expiry, charged := 0,
          unused := 0, minutes := f.minutes, version := k.copy.version, freeStart := f.freeStart,
          maxStay := f.ending == .maxStay, horizon := f.ending == .horizon, tariffChanged := false, resident := true,
          permit := some p.number } ∧
      d.last = some (request, ticket) ∧ s.answers t c.line n request (.ticket ticket) ∧
      t.permit p.number = some
        { p with
          usedDay := some k.start.day
          usedMinutes := p.effectiveUsed k.start.day + f.minutes
          lastSession := some
            { terminal := n, zone := k.entry.zone, start := k.start, expiry := f.expiry, minutes := f.minutes }
          claim := if p.claim = some (.session n request) then none else p.claim } ∧
      (∀ m, m ≠ p.number → t.permit m = (s.permit m).map fun q => q.without (.session n request)) ∧
      s.onlyAt t n c.line ∧ t.cash = s.cash ∧ t.link = s.link ∧ s.sameStore t := by
  obtain rfl := State.context_number hc
  obtain ⟨fare, run⟩ := exec_session on computing returns session
  have start := Computation.walk_start walk
  generalize hu : s.scanAlong = u at run
  have hcu : u.context c.number = some c := by rw [← hu]; exact hc
  generalize hx : u.charged c k.result f false = x
  have charged : x = u.charge p.number k.start.day f.minutes
      { terminal := c.number, zone := k.entry.zone, start := k.start, expiry := f.expiry, minutes := f.minutes } := by
    rw [← hx]
    exact charged_named u c named start
  let ticket := sessionTicket c k.result k.copy.version f
  obtain ⟨reports, owed, committed⟩ := commitSession_context hcu k.result f false
  let d : Context := { c.spent u.defaults with reports := reports, owed := owed, last := some (request, ticket) }
  let noted := (u.commitSession c k.result f false).onContext c.number fun c => { c with last := some (request, ticket) }
  have hd : noted.context c.number = some d :=
    (State.context_onContext_self _ _ _ (by intro _; rfl)).trans (congrArg (Option.map _) committed)
  have taken : u.takeTerminal c.number request k.result = noted.finish c.number request (.ticket ticket) :=
    (takeTerminal_session hcu flight k).trans (takeSession_ok walk (s := u) (by rw [← hu]; exact passes) request)
  have touches : Touches x (noted.finish c.number request (.ticket ticket)) c.number c.line := by
    have commit := commitSession_touches hcu k.result f false
    rw [hx] at commit
    exact (commit.trans (onContext_touches _ _ _ (by intro _; rfl) _)).trans (finish_touches hd request _)
  have answered : u.answers (noted.finish c.number request (.ticket ticket)) c.line c.number request (.ticket ticket) :=
    answers_of_kept (commitSession_keepsExchange u c k.result f false c.line) (finish_answers hd request _)
  have hdt : (noted.finish c.number request (.ticket ticket)).context c.number = some { d with inFlight := none } :=
    (finish_context noted c.number request _).trans (congrArg (Option.map _) hd)
  rw [taken] at run
  generalize noted.finish c.number request (.ticket ticket) = v at run touches answered hdt
  have permits (m : Nat) : (v.clearClaim (.session c.number request)).permit m =
      (x.permit m).map fun q => q.without (.session c.number request) := by
    rw [permit_clearClaim, touches.only.permit]
  have store : OnlyRecords u (v.clearClaim (.session c.number request)) := by
    refine (OnlyRecords.trans ?_ touches.only.onlyRecords).trans (clearClaim_onlyRecords v _)
    rw [charged]
    exact charge_onlyRecords _ _ _ _ _
  refine ⟨_, { d with inFlight := none }, ticket, run, hdt, rfl, rfl, rfl, rfl, ?_, rfl, ?_, ?_, fun m other => ?_, ?_, ?_⟩
  · rw [← named]
    exact sessionTicket_eq c start _
  · rw [← hu] at answered
    exact answered
  · refine (permits p.number).trans ?_
    rw [charged, permit_charge_self (by rw [← hu]; exact record)]
    rfl
  · refine (permits m).trans ?_
    rw [charged, permit_charge_ne _ other, ← hu]
    rfl
  · rw [charged, ← hu] at touches
    exact touches.onlyAt
  · rw [← hu] at store
    exact store.store

/-- One that fails a check is refused, and nothing is committed (R71). -/
theorem session_refused {s : State} {k : Computation} {n request : Nat} {c : Context} {reason : Reason}
    (on : s.mainSupply = true) (computing : s.fare.computing = some k)
    (returns : k.entry.returnTo = .terminal n request) (session : k.entry.kind = .session) (hc : s.context n = some c)
    (flight : c.inFlight = some { kind := .session, number := request, withdrawn := false })
    (fails : s.sessionFails c k false = some reason) :
    ∃ t, exec .computationComplete s = .next t ∧ t.context n = some { c with inFlight := none } ∧
      s.answers t c.line n request (.refused reason) ∧
      (∀ m, t.permit m = (s.permit m).map fun q => q.without (.session n request)) ∧
      s.onlyAt t n c.line ∧ t.notices = s.notices ∧ t.cash = s.cash ∧ t.link = s.link ∧ s.sameStore t := by
  obtain rfl := State.context_number hc
  obtain ⟨fare, run⟩ := exec_session on computing returns session
  have hcu : s.scanAlong.context c.number = some c := hc
  have taken : s.scanAlong.takeTerminal c.number request k.result =
      s.scanAlong.finish c.number request (.refused reason) :=
    (takeTerminal_session hcu flight k).trans (takeSession_error (s := s.scanAlong) fails request)
  rw [taken] at run
  have touches := finish_touches hcu request (.refused reason)
  refine ⟨_, run, ?_, finish_answers hcu request _, fun m => ?_, touches.onlyAt,
    finish_notices s.scanAlong c.number request _,
    (touches.only.onlyRecords.trans (clearClaim_onlyRecords _ (.session c.number request))).store⟩
  · exact (finish_context s.scanAlong c.number request _).trans (congrArg (Option.map _) hcu)
  · exact (permit_clearClaim _ _ m).trans (congrArg (Option.map _) (touches.only.permit m))

/-- The result of a withdrawn request removes the request and is not answered (R68, R90). -/
theorem session_withdrawn {s : State} {k : Computation} {n request : Nat} {c : Context} {kind : FlightKind}
    (on : s.mainSupply = true) (computing : s.fare.computing = some k)
    (returns : k.entry.returnTo = .terminal n request) (session : k.entry.kind = .session) (hc : s.context n = some c)
    (flight : c.inFlight = some { kind := kind, number := request, withdrawn := true }) :
    ∃ t, exec .computationComplete s = .next t ∧ t.context n = some { c with inFlight := none } ∧
      (∀ m, t.permit m = (s.permit m).map fun q => q.without (.session n request)) ∧
      (∀ m, m ≠ n → t.context m = s.context m) ∧ t.lines = s.lines ∧ t.notices = s.notices ∧ t.cash = s.cash ∧
      t.link = s.link ∧ s.sameStore t := by
  obtain ⟨fare, run⟩ := exec_session on computing returns session
  rw [takeTerminal_marked (s := s.scanAlong) hc flight rfl rfl] at run
  have touches := onContext_touches s.scanAlong n (fun c => { c with inFlight := none }) (by intro _; rfl) c.line
  refine ⟨_, run, ?_, fun m => permit_clearClaim _ _ m, touches.contexts, rfl, rfl,
    (touches.only.onlyRecords.trans (clearClaim_onlyRecords _ (.session n request))).store⟩
  exact (State.context_onContext_self s.scanAlong n _ (by intro _; rfl)).trans (congrArg (Option.map _) hc)

/-! ### REFERRAL results (R98, R99) -/

/-- What the taking of a REFERRAL result commits and holds before its claim and its entry go: nothing for a detached entry. -/
def State.referralTaken (s : State) (k : Computation) (r : Referral) (once : Bool) : State :=
  match (if r.detached then none else s.context r.terminal) with
  | none => s
  | some c =>
    match s.sessionChecked c k.result k.walk once with
    | .error reason => s.hold r.terminal { referral := r.number, request := r.request, outcome := .refusal reason }
    | .ok f =>
      (s.commitSession c k.result f once).hold r.terminal
        { referral := r.number, request := r.request, outcome := .ticket (sessionTicket c k.result k.copy.version f) }

theorem referralTaken_detached (s : State) (k : Computation) {r : Referral} (detached : r.detached = true) (once : Bool) :
    s.referralTaken k r once = s := by
  simp [State.referralTaken, detached]

theorem referralTaken_ok {s : State} {k : Computation} {r : Referral} {once : Bool} {c : Context} {f : Figures}
    (attached : r.detached = false) (hc : s.context r.terminal = some c) (walk : k.walk = .computed f)
    (passes : s.sessionFails c k once = none) :
    s.referralTaken k r once = (s.commitSession c k.result f once).hold r.terminal
      { referral := r.number, request := r.request, outcome := .ticket (sessionTicket c k.result k.copy.version f) } := by
  simp [State.referralTaken, attached, hc, sessionChecked_ok walk passes]

theorem referralTaken_error {s : State} {k : Computation} {r : Referral} {once : Bool} {c : Context} {reason : Reason}
    (attached : r.detached = false) (hc : s.context r.terminal = some c) (fails : s.sessionFails c k once = some reason) :
    s.referralTaken k r once =
      s.hold r.terminal { referral := r.number, request := r.request, outcome := .refusal reason } := by
  simp [State.referralTaken, attached, hc, sessionChecked_error fails]

theorem referralTaken_onlyRecords (s : State) (k : Computation) (r : Referral) (once : Bool) :
    OnlyRecords s (s.referralTaken k r once) := by
  unfold State.referralTaken
  split
  · exact .refl s
  · split
    · exact (hold_only _ _ _).onlyRecords
    · exact ((charged_onlyRecords _ _ _ _ _).trans (act_only _ _ _).onlyRecords).trans (hold_only _ _ _).onlyRecords

theorem referralOf_number {s : State} {number : Nat} {r : Referral} (h : s.referralOf number = some r) :
    r.number = number := by
  simpa using List.find?_some h

/-- The state in which a taken REFERRAL result's claim is cleared and its entry has left the list. -/
def State.referralGone (s : State) (r : Referral) : State := (s.clearClaim (.referral r.number)).dropReferral r

theorem takeReferral_eq {s : State} {r : Referral} (hr : s.referralOf r.number = some r) {once : Bool}
    (grant : once = true ↔ ∃ minutes, r.decision = some (.grantOnce minutes)) (k : Computation) :
    s.takeReferral r.number k.result k.copy.version k.walk =
      (s.referralTaken k r once).referralGone r := by
  have same : (match r.decision with
      | some (.grantOnce _) => true
      | _ => false) = once := by
    split
    · exact (grant.mpr ⟨_, ‹_›⟩).symm
    · rename_i other
      cases once with
      | false => rfl
      | true =>
        obtain ⟨minutes, h⟩ := grant.mp rfl
        exact absurd h (other minutes)
  rw [State.takeReferral, hr, ← same]
  rfl

/-- A REFERRAL result is taken, then its claim is cleared, then its entry leaves. -/
theorem exec_referral {s : State} {k : Computation} {terminal : Nat} {r : Referral} {once : Bool} (on : s.mainSupply = true)
    (computing : s.fare.computing = some k) (returns : k.entry.returnTo = .referral r.number terminal)
    (hr : s.referralOf r.number = some r)
    (grant : once = true ↔ ∃ minutes, r.decision = some (.grantOnce minutes)) :
    ∃ fare, exec .computationComplete s =
      .next { (s.scanAlong.referralTaken k r once).referralGone r with fare := fare } := by
  obtain ⟨fare, run⟩ := exec_computationComplete on computing
  refine ⟨fare, ?_⟩
  have delivered : s.deliver k.result = s.scanAlong.takeReferral r.number k.result k.copy.version k.walk := by
    simp [State.deliver, Computation.result, returns]
  rw [run, delivered, takeReferral_eq (s := s.scanAlong) hr grant]

/-- The context without its reference to a referral. -/
def Context.unreferred (c : Context) (number : Nat) : Context :=
  { c with referral := if c.referral.map (·.referral) = some number then none else c.referral }

theorem Context.unreferred_eq (c : Context) (number : Nat) :
    c.unreferred number = if c.referral.map (·.referral) = some number then { c with referral := none } else c := by
  unfold Context.unreferred
  split <;> rfl

theorem dropReferral_context (s : State) (r : Referral) (m : Nat) :
    (s.dropReferral r).context m = (s.context m).map fun c => if c.number = r.terminal then c.unreferred r.number else c := by
  unfold State.dropReferral
  simp only [← Context.unreferred_eq]
  exact State.context_onContext _ r.terminal m _ fun _ => rfl

theorem dropReferral_context_self {s : State} {r : Referral} {c : Context} (hc : s.context r.terminal = some c) :
    (s.dropReferral r).context r.terminal = some (c.unreferred r.number) := by
  rw [dropReferral_context, hc, Option.map_some, if_pos (State.context_number hc)]

theorem dropReferral_onlyAt {s t : State} {r : Referral} {l : LineNo} (h : s.onlyAt t r.terminal l) :
    s.onlyAt (t.dropReferral r) r.terminal l := by
  refine ⟨fun m other => ?_, h.2⟩
  rw [dropReferral_context, h.1 m other]
  cases hm : s.context m with
  | none => rfl
  | some c => rw [Option.map_some, if_neg (by rw [State.context_number hm]; exact other)]

/-- A result held is ordered to its terminal: the RESULT order is owed, queued or in exchange (R97, R161). -/
theorem hold_stands {s : State} {n : Nat} {c : Context} (hc : s.context n = some c) (held : HeldResult) :
    ∃ o, (s.hold n held).context n = some { c with held := some held, owed := o } ∧
      (s.hold n held).ordered { c with held := some held, owed := o } .result := by
  have hn : (s.onContext n fun c => { c with held := some held }).context n = some { c with held := some held } :=
    (State.context_onContext_self s n _ (by intro _; rfl)).trans (congrArg (Option.map _) hc)
  obtain ⟨o, context, stands⟩ := askOrder_stands (kind := .result) (fun _ => nofun) hn
  refine ⟨o, context, ?_⟩
  obtain rfl := State.context_number hc
  rcases stands with owed | queued | ⟨_, e, exchange, terminal, frame⟩
  · exact .inl owed
  · exact .inr (.inl queued)
  · refine .inr (.inr ⟨e, exchange, terminal, ?_⟩)
    rw [frame]
    rfl

theorem hold_touches {s : State} {n : Nat} {c : Context} (hc : s.context n = some c) (held : HeldResult) :
    Touches s (s.hold n held) n c.line := by
  have hn : (s.onContext n fun c => { c with held := some held }).context n = some { c with held := some held } :=
    (State.context_onContext_self s n _ (by intro _; rfl)).trans (congrArg (Option.map _) hc)
  exact (onContext_touches s n _ (by intro _; rfl) c.line).trans (askOrder_touches hn .result)

/-- The claim and the entry go, and the held result and its order stand. -/
theorem referralGone_keeps {s t : State} {r : Referral} {d : Context} {l : LineNo} (context : t.context r.terminal = some d)
    (ordered : t.ordered d .result) (only : s.onlyAt t r.terminal l) :
    (t.referralGone r).context r.terminal = some (d.unreferred r.number) ∧
      (t.referralGone r).ordered (d.unreferred r.number) .result ∧ s.onlyAt (t.referralGone r) r.terminal l :=
  ⟨dropReferral_context_self (s := t.clearClaim _) context, ordered, dropReferral_onlyAt (t := t.clearClaim _) only⟩

theorem referralGone_permit (s : State) (r : Referral) (m : Nat) :
    (s.referralGone r).permit m = (s.permit m).map fun q => q.without (.referral r.number) := permit_clearClaim s _ m

/-- A REFERRAL result that passes becomes the held ticket; the claim is cleared and the entry leaves. -/
theorem referral_held {s : State} {k : Computation} {r : Referral} {once : Bool} {c : Context} {f : Figures}
    (attached : r.detached = false) (hc : s.context r.terminal = some c) (walk : k.walk = .computed f)
    (passes : s.sessionFails c k once = none) :
    let t := (s.referralTaken k r once).referralGone r
    ∃ d ticket, t.context r.terminal = some d ∧ d.serial = nextSerial c.serial ∧
      ticket =
        { terminal := r.terminal, serial := d.serial, zone := k.entry.zone, start := k.start, expiry := f.expiry,
          charged := 0, unused := 0, minutes := f.minutes, version := k.copy.version, freeStart := f.freeStart,
          maxStay := f.ending == .maxStay, horizon := f.ending == .horizon, tariffChanged := false,
          resident := true, permit := k.entry.permit } ∧
      d.held = some { referral := r.number, request := r.request, outcome := .ticket ticket } ∧
      d.referral = (c.unreferred r.number).referral ∧
      d.last = c.last ∧ d.tally = c.tally ∧ d.inFlight = c.inFlight ∧ d.paperRemaining = c.paperRemaining - 1 ∧
      t.ordered d .result ∧ s.onlyAt t r.terminal c.line ∧
      ∀ m, t.permit m = ((s.charged c k.result f once).permit m).map fun q => q.without (.referral r.number) := by
  let ticket := sessionTicket c k.result k.copy.version f
  let held : HeldResult := { referral := r.number, request := r.request, outcome := .ticket ticket }
  obtain ⟨reports, owed, committed⟩ := commitSession_context hc k.result f once
  obtain ⟨o, holding, ordered⟩ := hold_stands committed held
  have touches := (commitSession_touches hc k.result f once).trans (hold_touches committed held)
  have only : s.onlyAt ((s.commitSession c k.result f once).hold r.terminal held) r.terminal c.line :=
    ⟨fun m other => (touches.contexts m other).trans (charged_context s c k.result f once m),
      fun m other => (touches.lines m other).trans (charged_line s c k.result f once m)⟩
  rw [referralTaken_ok attached hc walk passes]
  generalize (s.commitSession c k.result f once).hold r.terminal held = t at holding ordered touches only
  obtain ⟨context, stands, at_most⟩ := referralGone_keeps holding ordered only
  refine ⟨_, ticket, context, rfl, ?_, rfl, rfl, rfl, rfl, rfl, rfl, stands, at_most, fun m => ?_⟩
  · rw [← State.context_number hc]
    exact sessionTicket_eq c (Computation.walk_start walk) _
  · exact (referralGone_permit t r m).trans (congrArg (Option.map _) (touches.only.permit m))

/-- One that fails becomes the held refusal, and nothing is committed. -/
theorem referral_refused {s : State} {k : Computation} {r : Referral} {once : Bool} {c : Context} {reason : Reason}
    (attached : r.detached = false) (hc : s.context r.terminal = some c) (fails : s.sessionFails c k once = some reason) :
    let t := (s.referralTaken k r once).referralGone r
    ∃ d, t.context r.terminal = some d ∧
      d = { c with
        held := some { referral := r.number, request := r.request, outcome := .refusal reason }
        referral := if c.referral.map (·.referral) = some r.number then none else c.referral
        owed := d.owed } ∧
      t.ordered d .result ∧ s.onlyAt t r.terminal c.line ∧
      ∀ m, t.permit m = (s.permit m).map fun q => q.without (.referral r.number) := by
  let held : HeldResult := { referral := r.number, request := r.request, outcome := .refusal reason }
  obtain ⟨o, holding, ordered⟩ := hold_stands hc held
  have touches := hold_touches hc held
  rw [referralTaken_error attached hc fails]
  generalize s.hold r.terminal held = t at holding ordered touches
  obtain ⟨context, stands, only⟩ := referralGone_keeps holding ordered touches.onlyAt
  exact ⟨_, context, rfl, stands, only,
    fun m => (referralGone_permit t r m).trans (congrArg (Option.map _) (touches.only.permit m))⟩

/-- Of a detached entry nothing is committed or held. -/
theorem referral_detached {s : State} {k : Computation} {r : Referral} {once : Bool} (detached : r.detached = true) :
    let t := (s.referralTaken k r once).referralGone r
    (∀ m, t.context m = (s.context m).map fun c =>
      if m = r.terminal ∧ c.referral.map (·.referral) = some r.number then { c with referral := none } else c) ∧
    t.lines = s.lines ∧ t.notices = s.notices ∧
    ∀ m, t.permit m = (s.permit m).map fun q => q.without (.referral r.number) := by
  rw [referralTaken_detached s k detached once]
  refine ⟨fun m => ?_, rfl, rfl, referralGone_permit s r⟩
  refine (dropReferral_context _ r m).trans ?_
  show (s.context m).map _ = _
  cases hm : s.context m with
  | none => rfl
  | some c =>
    obtain rfl := State.context_number hm
    simp only [Option.map_some, Context.unreferred_eq, ite_and]

/-- Whatever the result, the entry leaves the list, and of the rest of the store only the records may have changed. -/
theorem referral_leaves {s t : State} (h : OnlyRecords s.scanAlong t) (r : Referral) (fare : FareEngine) :
    let v : State := { t.referralGone r with fare := fare }
    v.permits.referrals = s.permits.referrals.filter (fun q => q.number != r.number) ∧
      v.permits.queue = s.permits.queue ∧ v.permits.working = s.permits.working ∧
      v.cash = s.cash ∧ v.link = s.link ∧ s.sameStore v := by
  obtain ⟨cs, ls, ns, a, rs, rfl⟩ := h
  exact ⟨rfl, rfl, rfl, rfl, rfl, rfl, rfl, rfl, rfl, rfl, rfl, rfl, rfl⟩

/-- Settles O25: a result's taking is read through the checks, then the commit or the refusal, then the claim and the entry
that go. -/
theorem sessionIsCharged : Obligations.SessionIsCharged := by
  refine ⟨fun s k n request c on computing returns session hc =>
    ⟨fun f p flight walk named record passes =>
        session_committed on computing returns session hc flight walk named record passes,
      fun reason flight fails => session_refused on computing returns session hc flight fails,
      fun kind flight => session_withdrawn on computing returns session hc flight⟩, ?_⟩
  intro s k number terminal r once on computing returns hr grant
  obtain rfl := referralOf_number hr
  obtain ⟨fare, run⟩ := exec_referral on computing returns hr grant
  obtain ⟨referrals, queue, working, cash, link, store⟩ := referral_leaves
    (referralTaken_onlyRecords s.scanAlong k r once) r fare
  refine ⟨_, run, referrals, queue, working, cash, link, store, fun c f attached hc walk passes => ?_,
    fun c reason attached hc fails => referral_refused (s := s.scanAlong) attached hc fails,
    fun detached => referral_detached (s := s.scanAlong) detached⟩
  obtain ⟨d, ticket, context, serial, figures, held, referral, last, tally, flight, paper, ordered, only, permits⟩ :=
    referral_held (s := s.scanAlong) attached hc walk passes
  refine ⟨d, ticket, context, serial, figures, held, referral, last, tally, flight, paper, ordered, only, ?_, ?_⟩
  · rintro rfl m
    exact permits m
  · rintro p rfl named record
    have start := Computation.walk_start walk
    rw [charged_named s.scanAlong c named start, State.context_number hc] at permits
    refine ⟨(permits p.number).trans ?_, fun m other => (permits m).trans ?_⟩
    · rw [permit_charge_self (s := s.scanAlong) record]
      rfl
    · rw [permit_charge_ne _ other]
      rfl

end Sys2Proof.Machine
end

section
/-! The Tariff Store through every command (O7). Only the five requests that write it, the presentation of a minute and a COLD
start change it: every other operation leaves it as it is, one equation for each, and none of those that change it touches
the bank that was active. -/

namespace Sys2Proof.Machine

open Sys2Proof

/-! ### The shared operations -/

theorem OnlyTerminals.tariffs {s t : State} (h : OnlyTerminals s t) : t.tariffs = s.tariffs := by
  obtain ⟨_, _, _, _, rfl⟩ := h
  rfl

theorem OnlyLines.tariffs {s t : State} (h : OnlyLines s t) : t.tariffs = s.tariffs := h.terminals.tariffs

@[simp] theorem reply_tariffs (s : State) (body : ReplyBody) : (s.reply body).tariffs = s.tariffs := rfl

@[simp] theorem done_tariffs (s : State) (fields : DoneFields) : (s.done fields).tariffs = s.tariffs := rfl

@[simp] theorem notice_tariffs (s : State) (kind : NoticeKind) : (s.notice kind).tariffs = s.tariffs := rfl

@[simp] theorem dropNotices_tariffs (s : State) (gone : NoticeKind → Bool) : (s.dropNotices gone).tariffs = s.tariffs := rfl

@[simp] theorem choose_tariffs (s : State) (l : LineNo) : (s.choose l).tariffs = s.tariffs := (choose_only s l).tariffs

@[simp] theorem chooseIfIdle_tariffs (s : State) (l : LineNo) : (s.chooseIfIdle l).tariffs = s.tariffs :=
  (chooseIfIdle_only s l).tariffs

@[simp] theorem paceEvent_tariffs (s : State) (l : LineNo) : (s.paceEvent l).tariffs = s.tariffs := (paceEvent_only s l).tariffs

@[simp] theorem report_tariffs (s : State) (n : Nat) (add : ReportSet → ReportSet) : (s.report n add).tariffs = s.tariffs :=
  (report_only s n add).tariffs

@[simp] theorem askOrder_tariffs (s : State) (n : Nat) (kind : OrderKind) : (s.askOrder n kind).tariffs = s.tariffs :=
  (askOrder_only s n kind).tariffs

@[simp] theorem askAll_tariffs (s : State) (kind : OrderKind) : (s.askAll kind).tariffs = s.tariffs := (askAll_only s kind).tariffs

@[simp] theorem act_tariffs (s : State) (n : Nat) (f : Context → Context) : (s.act n f).tariffs = s.tariffs :=
  (act_only s n f).tariffs

@[simp] theorem endExchange_tariffs (s : State) (l : LineNo) (goodPoll : Option Nat) :
    (s.endExchange l goodPoll).tariffs = s.tariffs := (endExchange_only s l goodPoll).tariffs

@[simp] theorem noReply_tariffs (s : State) (l : LineNo) (e : Exchange) (again : Line → Line) :
    (s.noReply l e again).tariffs = s.tariffs := (noReply_only s l e again).tariffs

@[simp] theorem rejectFrame_tariffs (s : State) (l : LineNo) (e : Exchange) (count : ErrorCounters → ErrorCounters) :
    (s.rejectFrame l e count).tariffs = s.tariffs := (rejectFrame_only s l e count).tariffs

@[simp] theorem goodFrame_tariffs (s : State) (l : LineNo) (n : Nat) : (s.goodFrame l n).tariffs = s.tariffs :=
  (goodFrame_only s l n).tariffs

@[simp] theorem handAnswer_tariffs (s : State) (n request : Nat) (answer : Answer) :
    (s.handAnswer n request answer).tariffs = s.tariffs := (handAnswer_only s n request answer).tariffs

@[simp] theorem finish_tariffs (s : State) (n request : Nat) (answer : Answer) :
    (s.finish n request answer).tariffs = s.tariffs := (finish_only s n request answer).tariffs

@[simp] theorem hold_tariffs (s : State) (n : Nat) (held : HeldResult) : (s.hold n held).tariffs = s.tariffs :=
  (hold_only s n held).tariffs

@[simp] theorem reevaluateAll_tariffs (s : State) : s.reevaluateAll.tariffs = s.tariffs := (reevaluateAll_only s).tariffs

@[simp] theorem placeFare_tariffs (s : State) (e : FareEntry) : (s.placeFare e).tariffs = s.tariffs := by
  rw [placeFare_eq]

/-! ### The Permit Table -/

@[simp] theorem onPermit_tariffs (s : State) (number : Nat) (f : Permit → Permit) :
    (s.onPermit number f).tariffs = s.tariffs := rfl

@[simp] theorem clearClaim_tariffs (s : State) (claim : Claim) : (s.clearClaim claim).tariffs = s.tariffs := rfl

@[simp] theorem settle_tariffs (s : State) (body : ReplyBody) : (s.settle body).tariffs = s.tariffs := rfl

@[simp] theorem dropReferral_tariffs (s : State) (r : Referral) : (s.dropReferral r).tariffs = s.tariffs := rfl

@[simp] theorem withdrawn_tariffs (s : State) (n request : Nat) : (s.withdrawn n request).tariffs = s.tariffs := rfl

@[simp] theorem recordDecision_tariffs (s : State) (number : Nat) (decision : Decision) :
    (s.recordDecision number decision).tariffs = s.tariffs := rfl

@[simp] theorem completeScan_tariffs (s : State) (first count : Nat) : (s.completeScan first count).tariffs = s.tariffs := rfl

@[simp] theorem refuseReferral_tariffs (s : State) (r : Referral) (reason : Reason) :
    (s.refuseReferral r reason).tariffs = s.tariffs := by
  simp [State.refuseReferral]

@[simp] theorem placeReferral_tariffs (s : State) (r : Referral) (zone : Zone) (minutes : Nat) :
    (s.placeReferral r zone minutes).tariffs = s.tariffs := placeFare_tariffs _ _

@[simp] theorem claimSession_tariffs (s : State) (l : Lookup) (p : Permit) (cap : Nat) :
    (s.claimSession l p cap).tariffs = s.tariffs := placeFare_tariffs _ _

@[simp] theorem loadRecord_tariffs (s : State) (f : PermitFields) : (s.loadRecord f).tariffs = s.tariffs := by
  unfold State.loadRecord
  split <;> rfl

@[simp] theorem loadAll_tariffs (s : State) (records : List PermitFields) (inserted replaced : Nat) :
    (s.loadAll records inserted replaced).1.tariffs = s.tariffs := by
  induction records generalizing s inserted replaced with
  | nil => rfl
  | cons f rest ih =>
    unfold State.loadAll
    split <;> rw [ih, loadRecord_tariffs]

@[simp] theorem refer_tariffs (s : State) (l : Lookup) : (s.refer l).tariffs = s.tariffs := by
  unfold State.refer
  split <;> simp

@[simp] theorem lookupChecks_tariffs (s : State) (l : Lookup) : (s.lookupChecks l).tariffs = s.tariffs := by
  unfold State.lookupChecks
  simp only
  repeat' split
  all_goals simp

@[simp] theorem grantOnce_tariffs (s : State) (r : Referral) (minutes : Nat) : (s.grantOnce r minutes).tariffs = s.tariffs := by
  unfold State.grantOnce
  split <;> simp

@[simp] theorem beginAnswer_tariffs (s : State) (number : Nat) (decision : Decision) :
    (s.beginAnswer number decision).tariffs = s.tariffs := by
  unfold State.beginAnswer
  repeat' split
  all_goals simp

@[simp] theorem beginChange_tariffs (s : State) (c : PermitChange) : (s.beginChange c).tariffs = s.tariffs := by
  unfold State.beginChange
  repeat' split
  all_goals rfl

@[simp] theorem beginOp_tariffs (s : State) (op : PermitOp) : (s.beginOp op).tariffs = s.tariffs := by
  unfold State.beginOp
  repeat' split
  all_goals simp

@[simp] theorem placeOp_tariffs (s : State) (op : PermitOp) : (s.placeOp op).tariffs = s.tariffs := by
  unfold State.placeOp
  split <;> simp

@[simp] theorem nextOp_tariffs (s : State) : s.nextOp.tariffs = s.tariffs := by
  unfold State.nextOp
  split <;> simp

@[simp] theorem grantChecks_tariffs (s : State) (number : Nat) (record : PermitFields) :
    (s.grantChecks number record).tariffs = s.tariffs := by
  unfold State.grantChecks
  repeat' split
  all_goals simp

@[simp] theorem completeOp_tariffs (s : State) : s.completeOp.tariffs = s.tariffs := by
  unfold State.completeOp
  repeat' split
  all_goals simp

@[simp] theorem insertStep_tariffs (s : State) : s.insertStep.tariffs = s.tariffs := by
  unfold State.insertStep
  repeat' split
  all_goals simp

@[simp] theorem completeLookup_tariffs (s : State) : s.completeLookup.tariffs = s.tariffs := by
  unfold State.completeLookup
  repeat' split
  all_goals simp

@[simp] theorem expireReferral_tariffs (s : State) (number : Nat) : (s.expireReferral number).tariffs = s.tariffs := by
  unfold State.expireReferral
  repeat' split
  all_goals simp

/-! ### Results and withdrawals -/

@[simp] theorem commitSale_tariffs (s : State) (c : Context) (flight : InFlight) (coins : Coins) (quoteVersion : Option Nat)
    (r : FareResult) (version : Nat) (f : Figures) :
    (s.commitSale c flight coins quoteVersion r version f).tariffs = s.tariffs := by
  simp [State.commitSale]

@[simp] theorem takeSale_tariffs (s : State) (c : Context) (flight : InFlight) (coins : Coins) (quoteVersion : Option Nat)
    (r : FareResult) (version : Nat) (walk : Walk) :
    (s.takeSale c flight coins quoteVersion r version walk).tariffs = s.tariffs := by
  unfold State.takeSale
  repeat' split
  all_goals simp

@[simp] theorem commitSession_tariffs (s : State) (c : Context) (r : FareResult) (f : Figures) (once : Bool) :
    (s.commitSession c r f once).tariffs = s.tariffs := by
  rw [commitSession_eq, act_tariffs]
  obtain ⟨_, _, _, _, _, e⟩ := charged_onlyRecords s c r f once
  rw [e]

@[simp] theorem takeSession_tariffs (s : State) (c : Context) (flight : InFlight) (r : FareResult) (version : Nat)
    (walk : Walk) : (s.takeSession c flight r version walk).tariffs = s.tariffs := by
  unfold State.takeSession
  split <;> simp

@[simp] theorem takeTerminal_tariffs (s : State) (n request : Nat) (r : FareResult) :
    (s.takeTerminal n request r).tariffs = s.tariffs := by
  unfold State.takeTerminal
  repeat' split
  all_goals simp

@[simp] theorem takeClaimed_tariffs (s : State) (n request : Nat) (r : FareResult) :
    (s.takeClaimed n request r).tariffs = s.tariffs := by
  simp [State.takeClaimed]

@[simp] theorem takeReferral_tariffs (s : State) (number : Nat) (r : FareResult) (version : Nat) (walk : Walk) :
    (s.takeReferral number r version walk).tariffs = s.tariffs := by
  unfold State.takeReferral
  split
  · simp
  · simp only [dropReferral_tariffs, clearClaim_tariffs]
    repeat' split
    all_goals simp

@[simp] theorem deliver_tariffs (s : State) (r : FareResult) : (s.deliver r).tariffs = s.tariffs := by
  unfold State.deliver
  repeat' split
  all_goals simp

@[simp] theorem computationComplete_tariffs (s : State) : s.computationComplete.tariffs = s.tariffs := by
  unfold State.computationComplete
  split
  · rfl
  · obtain ⟨fare, e⟩ := serveFare_eq (s.deliver ‹Computation›.result)
    rw [e]
    exact deliver_tariffs s _

@[simp] theorem withdrawFare_tariffs (s : State) (n request : Nat) : (s.withdrawFare n request).tariffs = s.tariffs := by
  unfold State.withdrawFare
  split <;> simp [State.unqueueFare]

@[simp] theorem withdrawWalk_tariffs (s : State) (n request : Nat) : (s.withdrawWalk n request).tariffs = s.tariffs := by
  unfold State.withdrawWalk
  split <;> simp [State.unqueueFare]

@[simp] theorem withdrawSession_tariffs (s : State) (n request : Nat) : (s.withdrawSession n request).tariffs = s.tariffs := by
  unfold State.withdrawSession
  repeat' split
  all_goals simp

@[simp] theorem withdraw_tariffs (s : State) (n request : Nat) : (s.withdraw n request).tariffs = s.tariffs := by
  unfold State.withdraw
  repeat' split
  all_goals simp

/-! ### What a terminal sends -/

@[simp] theorem cancelRequest_tariffs (s : State) (n request : Nat) : (s.cancelRequest n request).tariffs = s.tariffs := by
  unfold State.cancelRequest
  split <;> simp

@[simp] theorem implicitCancel_tariffs (s : State) (n : Nat) : (s.implicitCancel n).tariffs = s.tariffs := by
  unfold State.implicitCancel
  split <;> simp

@[simp] theorem serveRequest_tariffs (s : State) (c : Context) (number : Nat) (request : TermRequest) :
    (s.serveRequest c number request).tariffs = s.tariffs := by
  unfold State.serveRequest
  repeat' split
  all_goals simp [State.placeRequest, State.setInFlight]

@[simp] theorem takeRequest_tariffs (s : State) (n number : Nat) (request : Option TermRequest) :
    (s.takeRequest n number request).tariffs = s.tariffs := by
  unfold State.takeRequest
  repeat' split
  all_goals simp

@[simp] theorem doorOpened_tariffs (s : State) (n : Nat) (code : Option Nat) : (s.doorOpened n code).tariffs = s.tariffs := by
  unfold State.doorOpened
  simp only
  repeat' split
  all_goals simp

@[simp] theorem boxLifted_tariffs (s : State) (n : Nat) : (s.boxLifted n).tariffs = s.tariffs := by
  unfold State.boxLifted
  split
  · rfl
  · simp only [act_tariffs]
    split <;> rfl

@[simp] theorem lookAtRound_tariffs (s : State) (number : Nat) : (s.lookAtRound number).tariffs = s.tariffs := by
  unfold State.lookAtRound
  repeat' split
  all_goals rfl

@[simp] theorem collectionEnded_tariffs (s : State) (n : Nat) : (s.collectionEnded n).tariffs = s.tariffs := by
  unfold State.collectionEnded
  repeat' split
  all_goals simp

@[simp] theorem handEvent_tariffs (s : State) (n : Nat) (event : Event) : (s.handEvent n event).tariffs = s.tariffs := by
  cases event <;> simp [State.handEvent]

@[simp] theorem takeEvent_tariffs (s : State) (n number : Nat) (event : Event) :
    (s.takeEvent n number event).1.tariffs = s.tariffs := by
  unfold State.takeEvent
  repeat' split
  all_goals simp [State.bufferEvent]

@[simp] theorem ackOrder_tariffs (s : State) (l : LineNo) (n : Nat) (content : OrderContent) :
    (s.ackOrder l n content).tariffs = s.tariffs := by
  unfold State.ackOrder
  repeat' split
  all_goals simp

@[simp] theorem handFrame_tariffs (s : State) (l : LineNo) (e : Exchange) (frame : TermFrame) :
    (s.handFrame l e frame).tariffs = s.tariffs := by
  unfold State.handFrame
  repeat' split
  all_goals simp

@[simp] theorem discardFrame_tariffs (s : State) (l : LineNo) : (s.discardFrame l).tariffs = s.tariffs := by
  unfold State.discardFrame
  split <;> rfl

@[simp] theorem received_tariffs (s : State) (l : LineNo) (drop : Nat) (frame : TermFrame) :
    (s.received l drop frame).tariffs = s.tariffs := by
  unfold State.received
  repeat' split
  all_goals simp

@[simp] theorem receivedRaw_tariffs (s : State) (l : LineNo) (received : List RxChar) :
    (s.receivedRaw l received).tariffs = s.tariffs := by
  unfold State.receivedRaw
  simp only
  repeat' split
  all_goals simp

@[simp] theorem frameDiscarded_tariffs (s : State) (l : LineNo) : (s.frameDiscarded l).tariffs = s.tariffs := by
  unfold State.frameDiscarded
  split <;> simp

/-! ### The lines -/

@[simp] theorem sweep_tariffs (s : State) (l : LineNo) : (s.sweep l).tariffs = s.tariffs := by
  have effect (d : Disposition) : (s.sweepEffect l d).tariffs = s.tariffs := by cases d <;> simp [State.sweepEffect]
  exact effect _

@[simp] theorem lineStart_tariffs (s : State) (l : LineNo) : (s.lineStart l).tariffs = s.tariffs := by
  unfold State.lineStart
  split <;> simp

@[simp] theorem paceTick_tariffs (s : State) (l : LineNo) : (s.paceTick l).tariffs = s.tariffs := by
  unfold State.paceTick
  simp only
  split <;> simp

@[simp] theorem sent_tariffs (s : State) (l : LineNo) : (s.sent l).tariffs = s.tariffs := by
  unfold State.sent
  repeat' split
  all_goals simp

@[simp] theorem turnaroundOver_tariffs (s : State) (l : LineNo) : (s.turnaroundOver l).tariffs = s.tariffs := by
  unfold State.turnaroundOver
  split <;> rfl

@[simp] theorem windowOver_tariffs (s : State) (l : LineNo) : (s.windowOver l).tariffs = s.tariffs := by
  unfold State.windowOver
  repeat' split
  all_goals simp

@[simp] theorem characterBegins_tariffs (s : State) (l : LineNo) : (s.characterBegins l).tariffs = s.tariffs := by
  unfold State.characterBegins
  repeat' split
  all_goals rfl

@[simp] theorem serviceLimitOver_tariffs (s : State) (l : LineNo) : (s.serviceLimitOver l).tariffs = s.tariffs := by
  unfold State.serviceLimitOver
  repeat' split
  all_goals simp

@[simp] theorem earliestStart_tariffs (s : State) (l : LineNo) : (s.earliestStart l).tariffs = s.tariffs := by
  unfold State.earliestStart
  repeat' split
  all_goals simp

/-! ### The host's requests that write nothing in the Tariff Store -/

@[simp] theorem createTerminal_tariffs (s : State) (f : TerminalSet) : (s.createTerminal f).tariffs = s.tariffs := by
  simp [State.createTerminal]

@[simp] theorem changeTerminal_tariffs (s : State) (c : Context) (f : TerminalSet) :
    (s.changeTerminal c f).tariffs = s.tariffs := by
  unfold State.changeTerminal
  simp only
  repeat' split
  all_goals simp [State.moveTerminal]

@[simp] theorem terminalSet_tariffs (s : State) (f : TerminalSet) : (s.terminalSet f).tariffs = s.tariffs := by
  unfold State.terminalSet
  repeat' split
  all_goals simp

@[simp] theorem terminalRemove_tariffs (s : State) (n : Nat) : (s.terminalRemove n).tariffs = s.tariffs := by
  unfold State.terminalRemove
  repeat' split
  all_goals rfl

@[simp] theorem terminalGet_tariffs (s : State) (n : Nat) (clear : Bool) : (s.terminalGet n clear).tariffs = s.tariffs := by
  unfold State.terminalGet
  repeat' split
  all_goals rfl

@[simp] theorem terminalOrder_tariffs (s : State) (n : Nat) (order : Order) : (s.terminalOrder n order).tariffs = s.tariffs := by
  unfold State.terminalOrder State.endCollection State.setSuspended State.sendMessage
  simp only
  repeat' split
  all_goals simp

@[simp] theorem calendarPut_tariffs (s : State) (e : CalendarEntry) : (s.calendarPut e).tariffs = s.tariffs := by
  unfold State.calendarPut
  split <;> rfl

@[simp] theorem calendarDrop_tariffs (s : State) (day : Nat) : (s.calendarDrop day).tariffs = s.tariffs := by
  unfold State.calendarDrop
  split <;> rfl

@[simp] theorem countEnter_tariffs (s : State) (number amount : Nat) : (s.countEnter number amount).tariffs = s.tariffs := by
  unfold State.countEnter
  split <;> rfl

@[simp] theorem roundOpen_tariffs (s : State) (code : Nat) (terminals : List Nat) :
    (s.roundOpen code terminals).tariffs = s.tariffs := by
  unfold State.roundOpen
  repeat' split
  all_goals rfl

@[simp] theorem roundBuild_tariffs (s : State) (zones : ZoneSet) (code : Nat) :
    (s.roundBuild zones code).tariffs = s.tariffs := by
  unfold State.roundBuild
  repeat' split
  all_goals rfl

@[simp] theorem roundClose_tariffs (s : State) (number : Nat) : (s.roundClose number).tariffs = s.tariffs := by
  unfold State.roundClose
  repeat' split
  all_goals rfl

@[simp] theorem roundGet_tariffs (s : State) (number : Nat) : (s.roundGet number).tariffs = s.tariffs := by
  unfold State.roundGet
  split <;> rfl

@[simp] theorem faultClear_tariffs (s : State) (n : Nat) (named : FaultSet) : (s.faultClear n named).tariffs = s.tariffs := by
  unfold State.faultClear
  split <;> simp

@[simp] theorem override_tariffs (s : State) (c : Context) (o : Option Thresholds) : (s.override c o).tariffs = s.tariffs := by
  simp [State.override]

@[simp] theorem overrideSet_tariffs (s : State) (n : Nat) (t : Thresholds) : (s.overrideSet n t).tariffs = s.tariffs := by
  unfold State.overrideSet State.owned
  repeat' split
  all_goals simp

@[simp] theorem overrideDrop_tariffs (s : State) (n : Nat) : (s.overrideDrop n).tariffs = s.tariffs := by
  unfold State.overrideDrop
  repeat' split
  all_goals simp

@[simp] theorem setDefaults_tariffs (s : State) (t : Thresholds) : (s.setDefaults t).tariffs = s.tariffs :=
  reevaluateAll_tariffs { s with defaults := t }

@[simp] theorem lineSet_tariffs (s : State) (l : LineNo) (settings : LineSettings) :
    (s.lineSet l settings).tariffs = s.tariffs := by
  unfold State.lineSet
  split <;> rfl

@[simp] theorem lineStop_tariffs (s : State) (l : LineNo) : (s.lineStop l).tariffs = s.tariffs := by
  unfold State.lineStop
  split <;> rfl

@[simp] theorem pollListPut_tariffs (s : State) (l : LineNo) (drops : List Nat) :
    (s.pollListPut l drops).tariffs = s.tariffs := by
  unfold State.pollListPut
  split <;> rfl

@[simp] theorem noticeTake_tariffs (s : State) : s.noticeTake.tariffs = s.tariffs := by
  unfold State.noticeTake State.emptyReports
  repeat' split
  all_goals rfl

@[simp] theorem ifOpen_tariffs (s : State) (f : Link → Link) : (s.ifOpen f).tariffs = s.tariffs := by
  unfold State.ifOpen
  split <;> rfl

@[simp] theorem startComplete_tariffs (s : State) (strap : LinkRate) : (s.startComplete strap).tariffs = s.tariffs := by
  unfold State.startComplete
  split <;> rfl

/-! ### Banks and switchovers (R14, R26) -/

theorem Tariffs.bank_setBank (t : Tariffs) (letter other : BankLetter) (bank : Bank) :
    (t.setBank letter bank).bank other = if other = letter then bank else t.bank other := by
  cases letter <;> cases other <;> rfl

@[simp] theorem Tariffs.setBank_active (t : Tariffs) (letter : BankLetter) (bank : Bank) :
    (t.setBank letter bank).active = t.active := by
  cases letter <;> rfl

@[simp] theorem Tariffs.setBank_schedule (t : Tariffs) (letter : BankLetter) (bank : Bank) :
    (t.setBank letter bank).schedule = t.schedule := by
  cases letter <;> rfl

theorem Tariffs.active_ne_staged (t : Tariffs) : t.active ≠ t.staged := by
  unfold Tariffs.staged
  cases t.active <;> simp [BankLetter.other]

@[simp] theorem Tariffs.switch_active (t : Tariffs) : t.switch.active = t.staged := rfl

@[simp] theorem Tariffs.switch_schedule (t : Tariffs) : t.switch.schedule = none := rfl

theorem Tariffs.switch_bank (t : Tariffs) (letter : BankLetter) :
    t.switch.bank letter =
      if letter = t.staged then { t.bank t.staged with version := ((t.bank t.active).version + 1) % 65536 }
      else t.bank letter :=
  t.bank_setBank t.staged letter _

@[simp] theorem switchover_tariffs (s : State) : s.switchover.tariffs = s.tariffs.switch := by
  simp [State.switchover]

theorem presentMinute_tariffs (s : State) : s.presentMinute.tariffs = s.tariffs.presented s.clock.current := by
  rw [presentMinute_eq, Tariffs.presented]
  split <;> simp

/-! ### The bank that was active (R14) -/

/-- The bank that was active holds what it held, its version included. -/
def Tariffs.KeepsActive (before after : Tariffs) : Prop := after.bank before.active = before.bank before.active

theorem Tariffs.KeepsActive.of_eq {before after : Tariffs} (h : after = before) : before.KeepsActive after := by
  rw [h]
  exact rfl

/-- A write to another bank than the active one. -/
theorem Tariffs.KeepsActive.setBank (t : Tariffs) {letter : BankLetter} (h : letter ≠ t.active) (bank : Bank) :
    t.KeepsActive (t.setBank letter bank) := by
  rw [Tariffs.KeepsActive, Tariffs.bank_setBank, if_neg (Ne.symm h)]

theorem Tariffs.switch_keepsActive (t : Tariffs) : t.KeepsActive t.switch := by
  rw [Tariffs.KeepsActive, Tariffs.switch_bank, if_neg t.active_ne_staged]

theorem Tariffs.presented_keepsActive (t : Tariffs) (now : Moment) : t.KeepsActive (t.presented now) := by
  unfold Tariffs.presented
  split
  · exact t.switch_keepsActive
  · exact .of_eq rfl

theorem tariffPut_keepsActive (s : State) (p : TariffPut) : s.tariffs.KeepsActive (s.tariffPut p).tariffs := by
  unfold State.tariffPut
  split
  · exact .of_eq rfl
  · exact .setBank _ ‹_› _

theorem tariffDrop_keepsActive (s : State) (bank : BankLetter) (zone : Zone) :
    s.tariffs.KeepsActive (s.tariffDrop bank zone).tariffs := by
  unfold State.tariffDrop
  split
  · exact .of_eq rfl
  · split
    · exact .of_eq rfl
    · exact .setBank _ ‹_› _

theorem Tariffs.copyBank_keepsActive (t : Tariffs) : t.KeepsActive t.copyBank := .setBank t t.active_ne_staged.symm _

/-- Another schedule leaves both banks as they are. -/
theorem Tariffs.KeepsActive.schedule (t : Tariffs) (schedule : Option Moment) : t.KeepsActive { t with schedule := schedule } := by
  unfold Tariffs.KeepsActive
  cases t.active <;> rfl

theorem switchAt_keepsActive (s : State) (m : Moment) : s.tariffs.KeepsActive (s.switchAt m).tariffs := by
  unfold State.switchAt
  split
  · exact .of_eq rfl
  · split
    · exact .of_eq rfl
    · exact .schedule _ _

theorem switchNow_keepsActive (s : State) : s.tariffs.KeepsActive s.switchNow.tariffs := by
  unfold State.switchNow
  split
  · rw [done_tariffs, switchover_tariffs]
    exact s.tariffs.switch_keepsActive
  · exact .of_eq rfl

theorem switchCancel_keepsActive (s : State) : s.tariffs.KeepsActive s.switchCancel.tariffs := by
  unfold State.switchCancel
  split
  · exact .of_eq rfl
  · exact .schedule _ _

theorem clockSet_keepsActive (s : State) (t : Instant) : s.tariffs.KeepsActive (s.clockSet t).tariffs := by
  unfold State.clockSet
  simp only [done_tariffs, askAll_tariffs, presentMinute_tariffs, State.onLines_tariffs]
  exact s.tariffs.presented_keepsActive _

theorem secondsEvent_keepsActive (s : State) : s.tariffs.KeepsActive s.secondsEvent.tariffs := by
  unfold State.secondsEvent
  split
  · rw [State.onLines_tariffs]
    split
    · rw [presentMinute_tariffs]
      exact s.tariffs.presented_keepsActive _
    · exact .of_eq rfl
  · split <;> exact .of_eq rfl

theorem start_tariffs (s : State) (kind : StartKind) : ((s.atStart kind).reportChanged s).tariffs = s.tariffs := by
  obtain ⟨_, _, _, e⟩ := start_only s kind
  rw [e]
  rfl

theorem powerStart_keepsActive (s : State) : s.tariffs.KeepsActive s.powerStart.tariffs := by
  have up : ((s.restarted .power).emptied.reportChanged s).tariffs = s.tariffs := start_tariffs s .power
  unfold State.powerStart
  simp only
  split
  · rw [presentMinute_tariffs, up]
    exact s.tariffs.presented_keepsActive _
  · exact .of_eq up

/-! ### Every command -/

/-- A request keeps what its act keeps: a frame that is not taken, or whose body is bad, changes the Link Port alone. -/
theorem request_keepsActive {α : Type} {tag : Byte} {kind : Nat} {read : State → Except Nat α} {act : α → State → State}
    (s : State) (acts : ∀ a (u : State), u.tariffs.KeepsActive (act a u).tariffs) :
    s.tariffs.KeepsActive (s.request tag kind read act).tariffs := by
  unfold State.request State.acceptFrame State.owned
  split
  · simp only
    split
    · exact .of_eq rfl
    · split
      · exact .of_eq rfl
      · exact acts _ (s.accepted tag (BitVec.ofNat 8 kind))
  · exact .of_eq rfl

theorem acceptFrame_tariffs (s : State) (tag kind : Byte) {take : State → State}
    (takes : ∀ u : State, (take u).tariffs = u.tariffs) : (s.acceptFrame tag kind take).tariffs = s.tariffs := by
  unfold State.acceptFrame
  split
  · simp only
    split
    · rfl
    · exact takes _
  · rfl

theorem working_tariffs (s : State) {act : State → State} (acts : ∀ u : State, (act u).tariffs = u.tariffs) :
    (s.working act).tariffs = s.tariffs := by
  unfold State.working
  split
  · exact acts s
  · rfl

/-- A command keeps the bank that was active when its next state does. -/
theorem keepsActive_next {s u t : State} (e : Host.Outcome.next u = (.next t : Host.Outcome State Fault Refusal))
    (h : s.tariffs.KeepsActive u.tariffs) : s.tariffs.KeepsActive t.tariffs := by
  cases e
  exact h

/-- A request whose act writes nothing in the Tariff Store. -/
theorem keepsActive_request {α : Type} {tag : Byte} {kind : Nat} {read : State → Except Nat α} {act : α → State → State}
    {s t : State} (e : Host.Outcome.next (s.request tag kind read act) = (.next t : Host.Outcome State Fault Refusal))
    (acts : ∀ a (u : State), (act a u).tariffs = u.tariffs) : s.tariffs.KeepsActive t.tariffs :=
  keepsActive_next e (request_keepsActive s fun a u => .of_eq (acts a u))

/-- An event that writes nothing in the Tariff Store. -/
theorem keepsActive_working {act : State → State} {s t : State}
    (e : Host.Outcome.next (s.working act) = (.next t : Host.Outcome State Fault Refusal))
    (acts : ∀ u : State, (act u).tariffs = u.tariffs) : s.tariffs.KeepsActive t.tariffs :=
  keepsActive_next e (.of_eq (working_tariffs s acts))

/-- Settles O7: a case for each command. -/
theorem theActiveBankIsNeverWritten : Obligations.TheActiveBankIsNeverWritten := by
  intro c s t not_cold held e
  show s.tariffs.KeepsActive t.tariffs
  cases c
  case coldStart => exact absurd rfl not_cold
  case powerStart =>
    refine keepsActive_next e ?_
    rw [if_pos (held rfl)]
    exact powerStart_keepsActive s
  case warmStart => exact keepsActive_working e fun u => start_tariffs u .warm
  case secondsEvent => exact keepsActive_next e (secondsEvent_keepsActive s)
  case clockSet => exact keepsActive_next e (request_keepsActive s fun t u => clockSet_keepsActive u t)
  case tariffPut => exact keepsActive_next e (request_keepsActive s fun p u => tariffPut_keepsActive u p)
  case tariffDrop => exact keepsActive_next e (request_keepsActive s fun a u => tariffDrop_keepsActive u a.1 a.2)
  case bankCopy => exact keepsActive_next e (request_keepsActive s fun _ u => u.tariffs.copyBank_keepsActive)
  case switchAt => exact keepsActive_next e (request_keepsActive s fun m u => switchAt_keepsActive u m)
  case switchNow => exact keepsActive_next e (request_keepsActive s fun _ u => switchNow_keepsActive u)
  case switchCancel => exact keepsActive_next e (request_keepsActive s fun _ u => switchCancel_keepsActive u)
  case clockGet | calendarList | tariffGet | referralSet | referralList | liftList | thresholdDefaultGet | lineGet
      | pollListGet | partStatus | restart =>
    exact keepsActive_request e fun _ _ => rfl
  case fareTrial => exact keepsActive_request e fun _ _ => placeFare_tariffs _ _
  case calendarPut | calendarDrop | terminalSet | terminalRemove | terminalGet | endCollection | suspend | resume
      | message | permitLoad | permitChange | permitDrop | permitGet | permitScan | referralAnswer | countEnter
      | roundOpen | roundBuild | roundClose | roundGet | faultClear | thresholdDefaultSet | thresholdOverrideSet
      | thresholdOverrideDrop | lineSet | lineStart | lineStop | pollListPut | sweep | noticeTake =>
    exact keepsActive_request e fun _ _ => by simp
  case replyTransmissionComplete => exact keepsActive_working e fun _ => rfl
  case quote | sale | session | cancel | doorOpen | doorClosed | boxReplaced | paperOut | paperLoaded | printerFault
      | printFailed | printerOk | coinPathFault | coinPathOk | idle | ack | rejectedFrame | lineFrameDiscarded
      | paceTick | computationComplete | lookupComplete | recordInsertion | permitOperationComplete
      | referralDeadlineExpiry | frameTransmissionComplete | turnaroundExpiry | responseWindowExpiry | serviceLimitExpiry
      | earliestStartReached | characterBeginsToArrive | startComplete =>
    exact keepsActive_working e fun _ => by simp
  case linkFrameDiscarded | frameLimitExpiry | frameMarkerReceived =>
    exact keepsActive_next e (.of_eq (ifOpen_tariffs _ _))
  case unknownKind tag kind =>
    refine keepsActive_next e (.of_eq ?_)
    split
    · rfl
    · exact acceptFrame_tariffs s tag kind fun _ => rfl
  case overlap tag kind =>
    refine keepsActive_next e (.of_eq ?_)
    unfold State.overlapped
    split
    · rfl
    · exact acceptFrame_tariffs s tag kind fun _ => rfl
  case mainSupplyLoss => exact keepsActive_next e (.of_eq rfl)
  case retentionSupplyLoss => exact keepsActive_next e (.of_eq (by split <;> rfl))

end Sys2Proof.Machine
end

section
/-! The body of a TARIFF PUT read back (R15, R16, R181, R184; O10). -/

namespace Sys2Proof.Machine

open Sys2Proof

/-! ### Bands (R184) -/

/-- A band of R15, after one that ends at `after`. -/
theorem bandsValid_cons {after : Nat} {b : Band} {rest : List Band} (h : bandsValid after (b :: rest)) :
    after ≤ b.start ∧ b.start < b.stop ∧ b.stop ≤ 1440 ∧ 1 ≤ b.rate ∧ b.rate ≤ 9999 ∧ 1 ≤ b.step ∧ b.step ≤ 60 ∧
      bandsValid b.stop rest := h

/-- A band as its 9 bytes give it back. -/
def Band.raw (b : Band) : RawBand := { start := b.start, stop := b.stop, rate := some b.rate, step := b.step }

@[simp] theorem Band.band_raw (b : Band) : b.raw.band = b := rfl

theorem number_append (before l : List Byte) (at_ width : Nat) :
    number (before ++ l) (before.length + at_) width = number l at_ width := by
  rw [number, bytesAt, List.drop_length_add_append]
  rfl

theorem digits_append (before l : List Byte) (at_ width : Nat) :
    digits (before ++ l) (before.length + at_) width = digits l at_ width := by
  rw [digits, bytesAt, List.drop_length_add_append]
  rfl

@[simp] theorem Band.length_bytes (b : Band) : b.bytes.length = 9 := by
  simp [Band.bytes]

theorem length_flatMap_bytes (bands : List Band) : (bands.flatMap Band.bytes).length = 9 * bands.length := by
  induction bands with
  | nil => rfl
  | cons b rest ih =>
    rw [List.flatMap_cons, List.length_append, ih, Band.length_bytes, List.length_cons]
    omega

/-- The bands laid out after `before` are read back. -/
theorem rawBands_bytes {bands : List Band} {last : Nat} (valid : bandsValid last bands) (before after : List Byte) :
    rawBands (before ++ (bands.flatMap Band.bytes ++ after)) before.length bands.length = bands.map Band.raw := by
  induction bands generalizing last before with
  | nil => rfl
  | cons b rest ih =>
    obtain ⟨-, ordered, stop, -, rate, -, step, valid⟩ := bandsValid_cons valid
    have later := ih valid (before ++ b.bytes)
    rw [List.length_append, Band.length_bytes, List.append_assoc] at later
    generalize tail : rest.flatMap Band.bytes ++ after = l at later
    have e0 : number (b.bytes ++ l) 0 2 = b.start :=
      number_field [] (toBinary 2 b.stop ++ toMoney b.rate ++ [byte b.step] ++ l) 2 b.start (by omega)
    have e1 : number (b.bytes ++ l) 2 2 = b.stop :=
      number_field (toBinary 2 b.start) (toMoney b.rate ++ [byte b.step] ++ l) 2 b.stop (by omega)
    have e2 : digits (b.bytes ++ l) 4 4 = some b.rate :=
      digits_field (toBinary 2 b.start ++ toBinary 2 b.stop) ([byte b.step] ++ l) 4 b.rate (by omega)
    have e3 : number (b.bytes ++ l) 8 1 = b.step :=
      (number_byte (toBinary 2 b.start ++ toBinary 2 b.stop ++ toMoney b.rate) l (byte b.step)).trans
        (Nat.mod_eq_of_lt (by omega))
    have laid : (b :: rest).flatMap Band.bytes ++ after = b.bytes ++ l := by
      rw [← tail, List.flatMap_cons, List.append_assoc]
    rw [laid, List.length_cons, rawBands, later, number_append, digits_append, number_append]
    have first := number_append before (b.bytes ++ l) 0 2
    rw [Nat.add_zero] at first
    rw [first, e0, e1, e2, e3]
    rfl

/-- Every check of R16 passes on the bands of a list within R15. -/
theorem firstBad_bandChecks {bands : List Band} {last : Nat} (valid : bandsValid last bands) (index : Nat)
    (checks : List (Nat × Bool)) :
    firstBad (bandChecks index last (bands.map Band.raw) ++ checks) = firstBad checks := by
  induction bands generalizing last index with
  | nil => rfl
  | cons b rest ih =>
    obtain ⟨after, ordered, stop, rate, rate_le, step, step_le, valid⟩ := bandsValid_cons valid
    have start : b.start ≤ 1439 := by omega
    have next : b.start + 1 ≤ b.stop := ordered
    simp [bandChecks, firstBad, Band.raw, within, packedWithin, *]

theorem map_band_raw (bands : List Band) : (bands.map Band.raw).map RawBand.band = bands := by
  rw [List.map_map]
  exact List.map_id bands

/-! ### The whole body (R15, R184) -/

/-- The 15 bytes before the bands. -/
def ZoneTariff.header (bank : BankLetter) (zone : Zone) (t : ZoneTariff) : List Byte :=
  [bank.byte, byte zone.val] ++ (toMoney t.minimumCharge ++ (toBinary 2 t.maximumStay ++
    ([flagByte t.residentCap.isSome] ++ (toBinary 2 (t.residentCap.getD 0) ++
      [byte t.weekday.length, byte t.saturday.length, byte t.sunday.length, byte t.special.length]))))

theorem ZoneTariff.length_header (bank : BankLetter) (zone : Zone) (t : ZoneTariff) : (t.header bank zone).length = 15 := rfl

theorem ZoneTariff.body_eq (bank : BankLetter) (zone : Zone) (t : ZoneTariff) :
    bank.byte :: byte zone.val :: t.bytes =
      t.header bank zone ++ (t.weekday ++ t.saturday ++ t.sunday ++ t.special).flatMap Band.bytes := by
  simp [ZoneTariff.bytes, ZoneTariff.header]

/-- The fields before the bands are read back, whatever follows them. -/
theorem ZoneTariff.header_fields (bank : BankLetter) (zone : Zone) {t : ZoneTariff} (valid : t.valid) (l : List Byte) :
    number (t.header bank zone ++ l) 0 1 = bank.byte.toNat ∧ number (t.header bank zone ++ l) 1 1 = zone.val ∧
      digits (t.header bank zone ++ l) 2 4 = some t.minimumCharge ∧
      number (t.header bank zone ++ l) 6 2 = t.maximumStay ∧
      number (t.header bank zone ++ l) 8 1 = (flagByte t.residentCap.isSome).toNat ∧
      number (t.header bank zone ++ l) 9 2 = t.residentCap.getD 0 ∧
      number (t.header bank zone ++ l) 11 1 = t.weekday.length ∧ number (t.header bank zone ++ l) 12 1 = t.saturday.length ∧
      number (t.header bank zone ++ l) 13 1 = t.sunday.length ∧ number (t.header bank zone ++ l) 14 1 = t.special.length := by
  obtain ⟨-, -, -, -, weekday, saturday, sunday, special, charge, -, stay, caps⟩ := valid
  have cap : t.residentCap.getD 0 ≤ 1440 := by
    cases h : t.residentCap with
    | none => simp
    | some cap => exact (caps cap h).2
  have zones := zone.isLt
  have byte_toNat {n : Nat} (h : n < 256) : (byte n).toNat = n := Nat.mod_eq_of_lt h
  let charged := [bank.byte, byte zone.val] ++ toMoney t.minimumCharge
  let stayed := charged ++ toBinary 2 t.maximumStay
  let capped := stayed ++ [flagByte t.residentCap.isSome] ++ toBinary 2 (t.residentCap.getD 0)
  refine ⟨number_byte [] _ _, (number_byte [bank.byte] _ _).trans (byte_toNat (by omega)),
    digits_field [bank.byte, byte zone.val] _ 4 _ (by omega), number_field charged _ 2 _ (by omega),
    number_byte stayed _ _, number_field (stayed ++ [flagByte t.residentCap.isSome]) _ 2 _ (by omega),
    (number_byte capped _ _).trans (byte_toNat (by omega)),
    (number_byte (capped ++ [byte t.weekday.length]) _ _).trans (byte_toNat (by omega)),
    (number_byte (capped ++ [byte t.weekday.length, byte t.saturday.length]) _ _).trans (byte_toNat (by omega)),
    (number_byte (capped ++ [byte t.weekday.length, byte t.saturday.length, byte t.sunday.length]) _ _).trans
      (byte_toNat (by omega))⟩

/-- A run of bands that stands among others behind `head`. -/
theorem rawBands_part {bands : List Band} {last : Nat} (valid : bandsValid last bands) (head : List Byte)
    (before after : List Band) :
    rawBands (head ++ (before ++ (bands ++ after)).flatMap Band.bytes) (head.length + 9 * before.length) bands.length =
      bands.map Band.raw := by
  have read := rawBands_bytes valid (head ++ before.flatMap Band.bytes) (after.flatMap Band.bytes)
  rw [List.length_append, length_flatMap_bytes, List.append_assoc] at read
  rw [List.flatMap_append, List.flatMap_append]
  exact read

/-- The four band lists are read back, each at the place R184 gives it. -/
theorem ZoneTariff.bands_read (bank : BankLetter) (zone : Zone) {t : ZoneTariff} (valid : t.valid) :
    let body := t.header bank zone ++ (t.weekday ++ t.saturday ++ t.sunday ++ t.special).flatMap Band.bytes
    rawBands body 15 t.weekday.length = t.weekday.map Band.raw ∧
      rawBands body (15 + 9 * t.weekday.length) t.saturday.length = t.saturday.map Band.raw ∧
      rawBands body (15 + 9 * (t.weekday.length + t.saturday.length)) t.sunday.length = t.sunday.map Band.raw ∧
      rawBands body (15 + 9 * (t.weekday.length + t.saturday.length + t.sunday.length)) t.special.length =
        t.special.map Band.raw := by
  obtain ⟨weekday, saturday, sunday, special, -⟩ := valid
  have a := rawBands_part weekday (t.header bank zone) [] (t.saturday ++ t.sunday ++ t.special)
  have b := rawBands_part saturday (t.header bank zone) t.weekday (t.sunday ++ t.special)
  have c := rawBands_part sunday (t.header bank zone) (t.weekday ++ t.saturday) t.special
  have d := rawBands_part special (t.header bank zone) (t.weekday ++ t.saturday ++ t.sunday) []
  simp only [ZoneTariff.length_header, List.append_assoc, List.nil_append, List.append_nil, List.length_append,
    List.length_nil, Nat.mul_zero, Nat.add_zero, Nat.add_assoc] at a b c d ⊢
  exact ⟨a, b, c, d⟩

/-- Settles O10: every field is read back, and every check of R16 passes. -/
theorem tariffPutBodyIsRead : Obligations.TariffPutBodyIsRead := by
  intro bank zone t valid
  rw [ZoneTariff.body_eq]
  obtain ⟨f0, f1, f2, f6, f8, f9, f11, f12, f13, f14⟩ := ZoneTariff.header_fields bank zone valid
    ((t.weekday ++ t.saturday ++ t.sunday ++ t.special).flatMap Band.bytes)
  obtain ⟨a, b, c, d⟩ := ZoneTariff.bands_read bank zone valid
  have length : (t.header bank zone ++ (t.weekday ++ t.saturday ++ t.sunday ++ t.special).flatMap Band.bytes).length =
      15 + 9 * (t.weekday.length + t.saturday.length + t.sunday.length + t.special.length) := by
    rw [List.length_append, length_flatMap_bytes, ZoneTariff.length_header]
    simp only [List.length_append]
  generalize t.header bank zone ++ (t.weekday ++ t.saturday ++ t.sunday ++ t.special).flatMap Band.bytes = body at *
  obtain ⟨weekday, saturday, sunday, special, n0, n1, n2, n3, charge, stay_pos, stay, caps⟩ := valid
  have letter : bankOfCode bank.byte.toNat = some bank := by cases bank <;> rfl
  have zones : zone.val ≤ 15 := by omega
  have place : Fin.ofNat 16 zone.val = zone := Fin.ext (Nat.mod_eq_of_lt zone.isLt)
  have few : t.weekday.length ≤ 6 ∧ t.saturday.length ≤ 6 ∧ t.sunday.length ≤ 6 ∧ t.special.length ≤ 6 := ⟨n0, n1, n2, n3⟩
  have long : ¬15 + 9 * (t.weekday.length + t.saturday.length + t.sunday.length + t.special.length) < 15 := by omega
  have eligible : (flagByte t.residentCap.isSome).toNat ≤ 1 ∧
      (if (flagByte t.residentCap.isSome).toNat = 1 then within 1 (t.residentCap.getD 0) 1440
        else t.residentCap.getD 0 == 0) = true ∧
      (if (flagByte t.residentCap.isSome).toNat = 1 then some (t.residentCap.getD 0) else none) = t.residentCap := by
    cases h : t.residentCap with
    | none => simp [flagByte]
    | some cap => simp [flagByte, within, caps cap h]
  obtain ⟨flag, cap_ok, cap⟩ := eligible
  have bands : firstBad (bandChecks 11 0 (t.weekday.map Band.raw) ++ (bandChecks 35 0 (t.saturday.map Band.raw) ++
      (bandChecks 59 0 (t.sunday.map Band.raw) ++ (bandChecks 83 0 (t.special.map Band.raw) ++ [])))) = none := by
    rw [firstBad_bandChecks weekday, firstBad_bandChecks saturday, firstBad_bandChecks sunday, firstBad_bandChecks special]
    rfl
  rw [List.append_nil] at bands
  simp only [readTariffPut, length, if_neg long, f0, f1, f2, f6, f8, f9, f11, f12, f13, f14, if_pos few, a, b, c, d, cap,
    cap_ok, map_band_raw, letter, place]
  simp [checked, firstBad, within, packedWithin, bands, zones, charge, stay_pos, stay, flag, n0, n1, n2, n3]

end Sys2Proof.Machine
end

section
/-! The host's requests on the Tariff Store (O10, O17 to O21): one slot written, banks copied, the schedule set and emptied. -/

namespace Sys2Proof.Machine

open Sys2Proof

/-! ### Slots (R17) -/

theorem Bank.get_set (slots : Vector (Option ZoneTariff) 16) (zone z : Zone) (tariff : Option ZoneTariff) :
    (slots.set zone tariff).get z = if z = zone then tariff else slots.get z := by
  simp only [Vector.get_eq_getElem, Vector.getElem_set, Fin.ext_iff, eq_comm]

/-- What a copy gives once one slot of one bank has been written. -/
theorem Tariffs.copy_write (t : Tariffs) (letter : BankLetter) (zone : Zone) (tariff : Option ZoneTariff)
    (other : BankLetter) (z : Zone) :
    (t.write letter zone tariff).copy other z =
      if other = letter ∧ z = zone then { t.copy other z with tariff := tariff } else t.copy other z := by
  unfold Tariffs.copy Tariffs.write
  rw [Tariffs.bank_setBank]
  by_cases bank : other = letter
  · subst bank
    rw [if_pos rfl, Bank.get_set]
    by_cases slot : z = zone <;> simp [slot]
  · simp [bank]

@[simp] theorem Tariffs.write_active (t : Tariffs) (letter : BankLetter) (zone : Zone) (tariff : Option ZoneTariff) :
    (t.write letter zone tariff).active = t.active := t.setBank_active _ _

@[simp] theorem Tariffs.write_schedule (t : Tariffs) (letter : BankLetter) (zone : Zone) (tariff : Option ZoneTariff) :
    (t.write letter zone tariff).schedule = t.schedule := t.setBank_schedule _ _

/-! ### TARIFF PUT, TARIFF DROP, TARIFF GET and BANK COPY (R18 to R21) -/

theorem tariffPut_accepted (s : State) (tag : Byte) (p : TariffPut) :
    (s.accepted tag 6).tariffPut p =
      if p.bank = s.tariffs.active then s.replied tag 6 .state
      else ({ s with tariffs := s.tariffs.write p.bank p.zone (some p.tariff) } : State).replied tag 6 (.done .plain) := rfl

theorem tariffDrop_accepted (s : State) (tag : Byte) (bank : BankLetter) (zone : Zone) :
    (s.accepted tag 7).tariffDrop bank zone =
      if bank = s.tariffs.active then s.replied tag 7 .state
      else if (s.tariffs.copy bank zone).tariff.isNone then s.replied tag 7 .noSuch
      else ({ s with tariffs := s.tariffs.write bank zone none } : State).replied tag 7 (.done .plain) := rfl

/-- Settles O17. -/
theorem tariffPutWritesOneSlot : Obligations.TariffPutWritesOneSlot := by
  intro s tag body p ready read
  have run : exec (.tariffPut tag body) s = .next ((s.accepted tag 6).tariffPut p) := by
    simp only [exec, execTariffPut, State.request_ready ready, read, State.owned_ok]
    rfl
  rw [run, tariffPut_accepted]
  refine ⟨fun active => by rw [if_pos active], fun staged => ⟨_, by rw [if_neg staged], ?_, ?_, ?_⟩⟩
  · exact Tariffs.write_active _ _ _ _
  · exact Tariffs.write_schedule _ _ _ _
  · exact Tariffs.copy_write _ _ _ _

theorem readSlot_bad_bank {code zone : Byte} (h : bankOfCode code.toNat = none) : readSlot [code, zone] = .error 1 := by
  have e : number [code, zone] 0 1 = code.toNat := number_byte [] [zone] code
  simp [readSlot, sized, checked, firstBad, e, h]

theorem readSlot_bad_zone (bank : BankLetter) {zone : Byte} (h : 15 < zone.toNat) :
    readSlot [bank.byte, zone] = .error 2 := by
  have e1 : number [bank.byte, zone] 0 1 = bank.byte.toNat := number_byte [] [zone] bank.byte
  have e2 : number [bank.byte, zone] 1 1 = zone.toNat := number_byte [bank.byte] [] zone
  have known : (bankOfCode bank.byte.toNat).isSome = true := by cases bank <;> rfl
  have above : within 0 zone.toNat 15 = false := by simp [within, h]
  simp [readSlot, sized, checked, firstBad, e1, e2, known, above]

/-- Settles O18. -/
theorem tariffDropMakesASlotAbsent : Obligations.TariffDropMakesASlotAbsent := by
  intro s tag ready
  refine ⟨fun body index bad => ?_, fun _ _ => readSlot_bad_bank, fun bank _ => readSlot_bad_zone bank, fun bank zone => ?_⟩
  · simp only [exec, execTariffDrop, State.request_ready ready, bad, State.owned_error]
    rfl
  · have run : exec (.tariffDrop tag [bank.byte, byte zone.val]) s = .next ((s.accepted tag 7).tariffDrop bank zone) := by
      simp only [exec, execTariffDrop, State.request_ready ready, readSlot_bytes, State.owned_ok]
      rfl
    rw [run, tariffDrop_accepted]
    refine ⟨fun active => by rw [if_pos active], fun staged absent => ?_, fun staged present => ?_⟩
    · rw [if_neg staged, if_pos (by rw [absent]; rfl)]
    · refine ⟨_, by rw [if_neg staged, if_neg (by simpa using present)], ?_, ?_, ?_⟩
      · exact Tariffs.write_active _ _ _ _
      · exact Tariffs.write_schedule _ _ _ _
      · exact Tariffs.copy_write _ _ _ _

theorem Tariffs.copyBank_bank (t : Tariffs) (letter : BankLetter) :
    t.copyBank.bank letter =
      if letter = t.staged then { t.bank t.staged with slots := (t.bank t.active).slots } else t.bank letter :=
  t.bank_setBank t.staged letter _

/-- Settles O19. -/
theorem tariffGetAndBankCopy : Obligations.TariffGetAndBankCopy := by
  intro s tag ready
  refine ⟨fun bank zone => ?_, s.tariffs.copyBank, ?_, Tariffs.setBank_active _ _ _, Tariffs.setBank_schedule _ _ _, ?_, ?_⟩
  · simp only [exec, execTariffGet, State.request_ready ready, readSlot_bytes, State.owned_ok]
    rfl
  · exact congrArg Host.Outcome.next (State.request_ready ready tag 9 (fun _ => readNothing []) _)
  · exact s.tariffs.copyBank_keepsActive
  · rw [Tariffs.copyBank_bank, if_pos rfl]

/-! ### The schedule (R22, R24) -/

/-- Settles O21. -/
theorem switchCancelEmptiesTheSchedule : Obligations.SwitchCancelEmptiesTheSchedule := by
  intro s tag ready
  have run : exec (.switchCancel tag []) s = .next (s.accepted tag 12).switchCancel :=
    congrArg Host.Outcome.next (State.request_ready ready tag 12 (fun _ => readNothing []) _)
  rw [run, State.switchCancel, State.accepted_tariffs]
  cases s.tariffs.schedule with
  | none => rfl
  | some m => rfl

end Sys2Proof.Machine
end

section
/-! The choice of the next exchange when a directed entry waits (R160, R163), on a state of which one line is given. -/

namespace Sys2Proof.Machine

open Sys2Proof

/-- The line once an exchange has begun on it (R145). -/
def Line.beginning (L : Line) (c : Context) (frame : SentFrame) : Line :=
  { L with state := .awaitReply, exchange := some (L.opening c frame), driving := L.driving || !L.turnaround }

theorem Line.beginning_begins (L : Line) (c : Context) (frame : SentFrame) : (L.beginning c frame).begins c frame := by
  refine ⟨rfl, rfl, fun quiet => ?_⟩
  have : L.turnaround = false := quiet
  simp [Line.beginning, this]

/-- The line once the entry at the head of its directed queue has begun (R28, R160). -/
def Line.directing (L : Line) (rest : List Directed) (chain : Option Chain) (c : Context) (frame : SentFrame) : Line :=
  ({ L with directed := rest, chain := chain } : Line).beginning c frame

theorem Line.directing_begins (L : Line) (rest : List Directed) (chain : Option Chain) (c : Context) (frame : SentFrame) :
    (L.directing rest chain c frame).begins c frame := Line.beginning_begins _ c frame

theorem beginDirected_withLine (s : State) (l : LineNo) (L : Line) (c : Context) (kind : OrderKind) :
    ∃ frame, s.carries c kind frame ∧
      (s.withLine l L).beginDirected l c kind =
        s.withLine l (L.directing L.directed ((s.chainOf c kind).or L.chain) c frame) := by
  obtain ⟨frame, carries, e⟩ := beginDirected_eq (s.withLine l L) l c kind
  rw [State.withLine, carries_onLine] at carries
  have chain : (s.withLine l L).chainOf c kind = s.chainOf c kind := by cases kind <;> rfl
  exact ⟨frame, carries, by rw [e, chain, State.withLine_onLine, beginExchange_withLine]; rfl⟩

/-- No block of a chain is to follow. -/
def Line.unchained (L : Line) : Prop := L.chain.filter (fun c => decide (1 ≤ c.acked ∧ c.acked ≤ 3)) = none

theorem Line.unchained_of_none {L : Line} (h : L.chain = none) : L.unchained := by
  rw [Line.unchained, h]
  rfl

/-- The oldest directed entry goes first, and leaves the sweep as it is (R163). -/
theorem chooseWith_directs {s : State} {l : LineNo} {L : Line} {entry : Directed} {rest : List Directed} {c : Context}
    (unchained : L.unchained) (queue : L.directed = entry :: rest) (hc : s.context entry.terminal = some c) (fuel : Nat) :
    ∃ frame, s.carries c entry.kind frame ∧
      (s.withLine l L).chooseWith (fuel + 1) l =
        s.withLine l (L.directing rest ((s.chainOf c entry.kind).or L.chain) c frame) := by
  obtain ⟨frame, carries, begun⟩ := beginDirected_withLine s l { L with directed := rest } c entry.kind
  refine ⟨frame, carries, ?_⟩
  have found : (s.withLine l { L with directed := rest }).context entry.terminal = some c := hc
  have same : (s.withLine l L).context entry.terminal = some c := hc
  rw [Line.unchained] at unchained
  simp only [State.chooseWith, State.line_withLine, unchained, queue, State.withLine_onLine, same]
  exact begun

theorem choose_directs {s : State} {l : LineNo} {L : Line} {entry : Directed} {rest : List Directed} {c : Context}
    (unchained : L.unchained) (queue : L.directed = entry :: rest) (hc : s.context entry.terminal = some c) :
    ∃ frame, s.carries c entry.kind frame ∧
      (s.withLine l L).choose l = s.withLine l (L.directing rest ((s.chainOf c entry.kind).or L.chain) c frame) := by
  unfold State.choose
  exact chooseWith_directs unchained queue hc _

theorem choose_rests {s : State} {l : LineNo} {L : Line} (free : L.free) (idle : L.sweepReady = false) :
    (s.withLine l L).choose l = s.withLine l { L with state := .idle } := by
  unfold State.choose
  exact chooseWith_rests free idle _ s l

end Sys2Proof.Machine
end

section
/-! SWITCH AT and SWITCH NOW (O20). A PLATE order asked for at a terminal stands for it from then on: owed, queued, or begun as
the chain of its line with the copy of its zone in the bank then active (R28, R29). -/

namespace Sys2Proof.Machine

open Sys2Proof

/-! ### SWITCH AT (R22) -/

theorem Moment.later_iff (a b : Moment) : a.later b = true ↔ b.day < a.day ∨ (a.day = b.day ∧ b.minute < a.minute) := by
  unfold Moment.later
  rw [Bool.or_eq_true, Bool.and_eq_true, beq_iff_eq]
  exact or_congr decide_eq_true_iff (and_congr Iff.rfl decide_eq_true_iff)

theorem Moment.later_eq_false {m : Moment} {c : Clock} (h : ¬m.day < c.day) :
    m.later c.current = false ↔ m.day = c.day ∧ m.minute ≤ c.second / 60 := by
  rw [← Bool.not_eq_true, Moment.later_iff]
  show ¬(c.day < m.day ∨ (m.day = c.day ∧ c.second / 60 < m.minute)) ↔ _
  omega

theorem switchAt_accepted (s : State) (tag : Byte) (m : Moment) :
    (s.accepted tag 10).switchAt m =
      if s.clock.valid = true ∧ m.day < s.clock.day then s.replied tag 10 (.field 1)
      else if s.clock.valid = true ∧ m.day = s.clock.day ∧ m.minute ≤ s.clock.second / 60 then s.replied tag 10 (.field 2)
      else ({ s with tariffs := { s.tariffs with schedule := some m } } : State).replied tag 10 (.done .plain) := by
  unfold State.switchAt
  by_cases past : s.clock.valid = true ∧ m.day < s.clock.day
  · rw [if_pos past]
    exact if_pos past
  · have last : (s.clock.valid = true ∧ m.later s.clock.current = false) ↔
        (s.clock.valid = true ∧ m.day = s.clock.day ∧ m.minute ≤ s.clock.second / 60) :=
      and_congr_right fun valid => Moment.later_eq_false fun day => past ⟨valid, day⟩
    rw [if_neg past]
    simp only [← last]
    exact if_neg past

theorem exec_switchAt {s : State} {day minute : Nat} (ready : s.ready = true) (hd : day ≤ 65535) (hm : minute ≤ 1439)
    (tag : Byte) :
    exec (.switchAt tag (toBinary 2 day ++ toBinary 2 minute)) s =
      .next ((s.accepted tag 10).switchAt { day := day, minute := minute }) := by
  simp only [exec, execSwitchAt, State.request_ready ready, readSwitchAt_bytes hd hm, State.owned_ok]
  rfl

/-! ### A PLATE order that stands (R29, R161) -/

/-- A PLATE entry waits in the line's directed queue for the terminal, or the line's chain in progress is this one. -/
def Line.bearsPlate (L : Line) (n : Nat) (chain : Option Chain) : Prop :=
  L.holds n .plate = true ∨ L.state = .awaitReply ∧ L.chain = chain

theorem beginExchange_chain (s : State) (l : LineNo) (c : Context) (frame : SentFrame) :
    ((s.beginExchange l c frame).line l).chain = (s.line l).chain := by
  have e := beginExchange_withLine s l (s.line l) c frame
  rw [State.withLine_self] at e
  rw [e, State.line_withLine]

/-- The line whose chain a PLATE entry has begun. -/
theorem beginDirected_plate (s : State) (l : LineNo) (c : Context) :
    ((s.beginDirected l c .plate).line l).state = .awaitReply ∧
      ((s.beginDirected l c .plate).line l).chain = s.chainOf c .plate := by
  refine ⟨(beginDirected_line s l c .plate).1, ?_⟩
  rw [State.beginDirected, State.beginBlock, beginExchange_chain, State.line_onLine, if_pos rfl]
  rfl

/-- A PLATE entry that waits is still waiting after a choice, or it is the one that was chosen. -/
theorem chooseWith_bearsPlate (fuel : Nat) {s : State} {l : LineNo} {n : Nat} {c : Context} (hc : s.context n = some c)
    (waits : (s.line l).holds n .plate = true) : ((s.chooseWith fuel l).line l).bearsPlate n (s.chainOf c .plate) := by
  induction fuel generalizing s with
  | zero => exact .inl waits
  | succ fuel ih =>
    unfold State.chooseWith
    simp only
    split
    · split
      · rename_i d _
        obtain ⟨-, directed, -⟩ := beginExchange_line s l d (.order (.plate _ (plateBlock _ _ _)))
        refine .inl ?_
        rw [State.beginBlock, Line.holds, directed]
        exact waits
      · exact ih (s := s.onLine l fun L => { L with chain := none }) hc (by simpa [Line.holds] using waits)
    · split
      · rename_i entry rest queue
        have popped : (s.onLine l fun L => { L with directed := rest }).line l = { s.line l with directed := rest } := by simp
        rcases Line.holds_cons waits queue with ⟨rfl, plate⟩ | later
        · have found : (s.onLine l fun L => { L with directed := rest }).context entry.terminal = some c := hc
          rw [hc, plate]
          exact .inr (beginDirected_plate (s.onLine l fun L => { L with directed := rest }) l c)
        · split
          · rename_i d _
            obtain ⟨-, directed, -⟩ := beginDirected_line (s.onLine l fun L => { L with directed := rest }) l d entry.kind
            refine .inl ?_
            rw [Line.holds, directed, popped]
            exact later
          · exact ih (s := s.onLine l fun L => { L with directed := rest }) hc (by rw [popped]; exact later)
      · rename_i queue
        simp [Line.holds, queue] at waits

theorem chooseIfIdle_bearsPlate {s : State} {l : LineNo} {n : Nat} {c : Context} (hc : s.context n = some c)
    (h : (s.line l).bearsPlate n (s.chainOf c .plate)) :
    ((s.chooseIfIdle l).line l).bearsPlate n (s.chainOf c .plate) := by
  unfold State.chooseIfIdle
  split
  · rename_i idle
    rcases h with waits | ⟨busy, -⟩
    · exact chooseWith_bearsPlate _ hc waits
    · rw [idle] at busy
      nomatch busy
  · exact h

/-- An order appended to a line's queue leaves the PLATE order that the line bears, and stands itself when it is that one. -/
theorem appended_bearsPlate {s : State} {l : LineNo} {n : Nat} {c : Context} (hc : s.context n = some c) (k : LineNo) (m : Nat)
    (kind : OrderKind)
    (h : (s.line l).bearsPlate n (s.chainOf c .plate) ∨ (k = l ∧ m = n ∧ kind = .plate)) :
    (((s.onLine k fun L => { L with directed := L.directed ++ [{ terminal := m, kind := kind }] }).chooseIfIdle k).line
      l).bearsPlate n (s.chainOf c .plate) := by
  by_cases same : k = l
  · subst same
    refine chooseIfIdle_bearsPlate (s := s.onLine k _) hc ?_
    rw [State.line_onLine, if_pos rfl]
    rcases h with (waits | begun) | ⟨-, rfl, rfl⟩
    · exact .inl (by simp_all [Line.holds])
    · exact .inr begun
    · exact .inl (by simp [Line.holds])
  · rw [(chooseIfIdle_touches _ k n).lines l (Ne.symm same), onLine_line_ne _ _ _ _ (Ne.symm same)]
    exact h.resolve_right fun own => same own.1

/-- A PLATE order stands for a terminal of a line, and one that has begun is this chain. -/
def State.plateStands (s : State) (n : Nat) (c : Context) (chain : Option Chain) : Prop :=
  ∃ o : OwedOrders, s.context n = some { c with owed := o } ∧
    (o.plate = true ∨ (s.line c.line).bearsPlate n chain)

theorem chainOf_owed (s : State) (c : Context) (o : OwedOrders) (kind : OrderKind) :
    s.chainOf { c with owed := o } kind = s.chainOf c kind := by
  cases kind <;> rfl

/-- The Tariff Store decides which chain a PLATE entry begins. -/
theorem chainOf_congr {s t : State} (h : t.tariffs = s.tariffs) (c : Context) (kind : OrderKind) :
    t.chainOf c kind = s.chainOf c kind := by
  cases kind <;> simp [State.chainOf, h]

/-- It stands at the terminal asked. -/
theorem askOrder_plateStands {s : State} {n : Nat} {c : Context} (hc : s.context n = some c) :
    (s.askOrder n .plate).plateStands n c (s.chainOf c .plate) := by
  have owed : (s.owe n .plate).plateStands n c (s.chainOf c .plate) :=
    ⟨c.owed.set .plate true, by rw [State.owe, State.context_onContext_self s n _ (by intro _; rfl), hc]; rfl, .inl rfl⟩
  unfold State.askOrder
  rw [hc]
  simp only
  split
  · exact ⟨c.owed, hc, .inr (.inl ‹_›)⟩
  · split
    · exact ⟨c.owed, hc, .inl ‹_›⟩
    · split
      · exact owed
      · split
        · exact owed
        · split
          · exact owed
          · exact ⟨c.owed, by rw [(chooseIfIdle_only _ _).context]; exact hc,
              .inr (appended_bearsPlate hc c.line n .plate (.inr ⟨rfl, rfl, rfl⟩))⟩

/-- It still stands when an order is asked for at any terminal. -/
theorem askOrder_keeps_plateStands {s : State} {n : Nat} {c : Context} (h : s.plateStands n c (s.chainOf c .plate))
    (m : Nat) (kind : OrderKind) : (s.askOrder m kind).plateStands n c (s.chainOf c .plate) := by
  obtain ⟨o, ho, stands⟩ := h
  obtain ⟨o', ho', more⟩ := (askOrder_onlyOwes s m kind).some ho
  refine ⟨o', ho', stands.imp (more .plate) fun bears => ?_⟩
  rw [← chainOf_owed s c o] at bears ⊢
  unfold State.askOrder
  split
  · exact bears
  · simp only
    repeat' split
    all_goals first
      | exact bears
      | exact appended_bearsPlate ho _ _ _ (.inl bears)

theorem foldl_askOrder_plateStands (numbers : List Nat) {s : State} {n : Nat} {c : Context}
    (h : (n ∈ numbers ∧ ∃ o : OwedOrders, s.context n = some { c with owed := o }) ∨ s.plateStands n c (s.chainOf c .plate)) :
    (numbers.foldl (fun s n => s.askOrder n .plate) s).plateStands n c (s.chainOf c .plate) := by
  induction numbers generalizing s with
  | nil => simpa using h
  | cons m rest ih =>
    have chain : (s.askOrder m .plate).chainOf c .plate = s.chainOf c .plate := chainOf_congr (askOrder_tariffs s m _) c _
    rw [List.foldl_cons, ← chain]
    refine ih ?_
    rw [chain]
    rcases h with ⟨listed, o, ho⟩ | stands
    · rcases List.mem_cons.mp listed with rfl | later
      · obtain ⟨o', ho', stands⟩ := askOrder_plateStands ho
        rw [chainOf_owed] at stands
        exact .inr ⟨o', ho', stands⟩
      · obtain ⟨o', ho', -⟩ := (askOrder_onlyOwes s m .plate).some ho
        exact .inl ⟨later, o', ho'⟩
    · exact .inr (askOrder_keeps_plateStands stands m .plate)

/-- Once every terminal has been asked for a PLATE order, one stands for each (R29). -/
theorem askAll_plateStands {s : State} {n : Nat} {c : Context} (hc : s.context n = some c) :
    (s.askAll .plate).plateStands n c (s.chainOf c .plate) :=
  foldl_askOrder_plateStands _ (.inl ⟨List.mem_map.mpr ⟨c, List.mem_of_find?_eq_some hc, State.context_number hc⟩, c.owed, hc⟩)

/-! ### SWITCH NOW (R23, R26) -/

theorem exec_switchNow {s : State} (ready : s.ready = true) (tag : Byte) :
    exec (.switchNow tag []) s = .next (s.accepted tag 11).switchNow :=
  congrArg Host.Outcome.next (State.request_ready ready tag 11 (fun _ => readNothing []) _)

/-- What a switchover changes beside the Tariff Store: the contexts, the lines and the Notice Queue. -/
theorem switchover_only (s : State) : OnlyTerminals (s.onTariffs Tariffs.switch) s.switchover :=
  (askAll_only _ _).trans (notice_only _ _).terminals

/-- A choice of a line in whose queue an order of a configured terminal waits takes no entry of the sweep. -/
theorem chooseWith_notices (fuel : Nat) {s : State} {l : LineNo} {n : Nat} {c : Context} {kind : OrderKind}
    (hc : s.context n = some c) (waits : (s.line l).holds n kind = true) : (s.chooseWith fuel l).notices = s.notices := by
  induction fuel generalizing s with
  | zero => rfl
  | succ fuel ih =>
    unfold State.chooseWith
    simp only
    split
    · split
      · rfl
      · exact ih (s := s.onLine l fun L => { L with chain := none }) hc (by simpa [Line.holds] using waits)
    · split
      · rename_i entry rest queue
        split
        · rename_i d _
          obtain ⟨frame, -, e⟩ := beginDirected_eq (s.onLine l fun L => { L with directed := rest }) l d entry.kind
          rw [e]
          rfl
        · rename_i gone
          rcases Line.holds_cons waits queue with ⟨rfl, -⟩ | later
          · rw [hc] at gone
            nomatch gone
          · exact ih (s := s.onLine l fun L => { L with directed := rest }) hc (by simpa using later)
      · rename_i queue
        simp [Line.holds, queue] at waits

theorem askOrder_notices (s : State) (n : Nat) (kind : OrderKind) : (s.askOrder n kind).notices = s.notices := by
  unfold State.askOrder
  split
  · rfl
  · rename_i c hc
    simp only
    repeat' split
    all_goals first
      | rfl
      | (unfold State.chooseIfIdle
         split
         · exact chooseWith_notices _ (s := s.onLine c.line _) (kind := kind) hc (by simp [Line.holds])
         · rfl)

theorem askAll_notices (s : State) (kind : OrderKind) : (s.askAll kind).notices = s.notices := by
  unfold State.askAll
  generalize s.contexts.map (·.number) = numbers
  induction numbers generalizing s with
  | nil => rfl
  | cons n rest ih => exact (ih _).trans (askOrder_notices s n kind)

theorem switchover_notices (s : State) : s.switchover.notices = noticeList .switchover s.notices :=
  congrArg (noticeList .switchover) (askAll_notices (s.onTariffs Tariffs.switch) .plate)

/-- One more SWITCHOVER is noted, and ATTENTION is high (R26, R174). -/
theorem switchover_noted (s : State) :
    oneMore .switchover s.notices s.switchover.notices ∧ s.switchover.attention = true := by
  refine ⟨?_, ?_⟩
  · rw [switchover_notices]
    exact oneMore_noticeList _ _
  · show (!(noticeList _ _).isEmpty) = true
    rw [noticeList_ne_nil]
    rfl

/-- The PLATE orders of a switchover stand, and those that have begun carry the new active bank's copy (R29). -/
theorem switchover_plateStands {s : State} {n : Nat} {c : Context} (hc : s.context n = some c) :
    s.switchover.plateStands n c ((s.onTariffs Tariffs.switch).chainOf c .plate) :=
  askAll_plateStands (s := s.onTariffs Tariffs.switch) hc

/-- Settles O20. -/
theorem switchoversAreSetAndMade : Obligations.SwitchoversAreSetAndMade := by
  refine ⟨fun s tag day minute ready hd hm => ?_, fun s tag ready => ⟨fun invalid => ?_, fun valid => ?_⟩⟩
  · rw [exec_switchAt ready hd hm tag, switchAt_accepted]
  · rw [exec_switchNow ready tag, State.switchNow, if_neg (by simp [invalid])]
    rfl
  · refine ⟨_, by rw [exec_switchNow ready tag, State.switchNow, if_pos (by exact valid)], ?_⟩
    generalize hu : s.accepted tag 11 = u
    have only := switchover_only u
    obtain ⟨noted, attention⟩ := switchover_noted u
    have stands {n : Nat} {c : Context} (hc : u.context n = some c) := switchover_plateStands hc
    generalize u.switchover = v at only noted attention stands
    obtain ⟨cs, ls, ns, a, rfl⟩ := only
    subst hu
    refine ⟨rfl, rfl, s.tariffs.switch_keepsActive, ?_, noted, attention, ?_, rfl, rfl, rfl, rfl, rfl, fun _ n c hc => ?_⟩
    · exact (s.tariffs.switch_bank s.tariffs.staged).trans (if_pos rfl)
    · rw [State.done, State.reply_of_accept (s := s) (tag := tag) (kind := 11) rfl]
    · obtain ⟨o, ho, plate⟩ := stands (n := n) (c := c) hc
      refine ⟨_, ho, rfl, plate.imp_right fun bears => bears.imp_right fun begun => ⟨_, begun.2, ?_, rfl, rfl⟩⟩
      exact State.context_number hc

end Sys2Proof.Machine
end

section
/-! What the band walks are worth (R40 to R49, R55; O22). The bands ahead of a start lie in order before the horizon, each
purchase lies inside its band, and the segment list adds up to what was bought. -/

namespace Sys2Proof.Machine

open Sys2Proof

/-! ### The bands of a walk (R15, R41, R45) -/

/-- A band that a walk can buy in: it lasts, ends at the horizon at the latest, and has a rate and a step. -/
def WalkBand.sound (b : WalkBand) (horizon : Nat) : Prop :=
  b.start < b.stop ∧ b.stop ≤ horizon ∧ 1 ≤ b.rate ∧ 1 ≤ b.step

/-- Bands that a walk can buy in, one after another. -/
def walkable (horizon : Nat) (bands : List WalkBand) : Prop :=
  (∀ b ∈ bands, b.sound horizon) ∧ bands.Pairwise fun a b => a.stop ≤ b.start

theorem bandsValid_iff {after : Nat} {bands : List Band} (valid : bandsValid after bands) :
    (∀ b ∈ bands, after ≤ b.start ∧ b.start < b.stop ∧ b.stop ≤ 1440 ∧ 1 ≤ b.rate ∧ 1 ≤ b.step) ∧
      bands.Pairwise fun a b => a.stop ≤ b.start := by
  induction bands generalizing after with
  | nil => exact ⟨by simp, .nil⟩
  | cons b rest ih =>
    obtain ⟨from_, ordered, stop, rate, -, step, -, valid⟩ := bandsValid_cons valid
    obtain ⟨each, order⟩ := ih valid
    refine ⟨fun d hd => ?_, List.pairwise_cons.mpr ⟨fun d hd => (each d hd).1, order⟩⟩
    rcases List.mem_cons.mp hd with rfl | hd
    · exact ⟨from_, ordered, stop, rate, step⟩
    · obtain ⟨later, rest⟩ := each d hd
      exact ⟨by omega, rest⟩

theorem dayBands_walkable {bands : List Band} (valid : bandsValid 0 bands) (offset horizon : Nat) :
    walkable horizon (dayBands offset horizon bands) := by
  obtain ⟨each, order⟩ := bandsValid_iff valid
  refine ⟨fun b hb => ?_, ?_⟩
  · obtain ⟨d, hd, rfl⟩ := List.mem_map.mp hb
    obtain ⟨hd, early⟩ := List.mem_filter.mp hd
    obtain ⟨-, ordered, -, rate, step⟩ := each d hd
    have early : offset + d.start < horizon := of_decide_eq_true early
    refine ⟨?_, ?_, rate, step⟩ <;> simp only <;> omega
  · refine List.pairwise_map.mpr ((order.filter _).imp fun {a b} h => ?_)
    simp only
    omega

theorem mem_dayBands_stop {bands : List Band} (valid : bandsValid 0 bands) {offset horizon : Nat} {b : WalkBand}
    (hb : b ∈ dayBands offset horizon bands) : offset ≤ b.start ∧ b.stop ≤ offset + 1440 := by
  obtain ⟨each, -⟩ := bandsValid_iff valid
  obtain ⟨d, hd, rfl⟩ := List.mem_map.mp hb
  obtain ⟨-, -, stop, -⟩ := each d (List.mem_filter.mp hd).1
  simp only
  omega

theorem ZoneTariff.bands_valid {t : ZoneTariff} (valid : t.valid) (type : DayType) : bandsValid 0 (t.bands type) := by
  obtain ⟨weekday, saturday, sunday, special, -⟩ := valid
  cases type
  · exact weekday
  · exact saturday
  · exact sunday
  · exact special

theorem Computation.bands_walkable (c : Computation) {t : ZoneTariff} (valid : t.valid) :
    walkable c.horizonAt (c.bands t) := by
  have today := ZoneTariff.bands_valid valid c.dayType
  obtain ⟨each, order⟩ := dayBands_walkable today 0 c.horizonAt
  unfold Computation.bands
  split
  · rename_i type _
    have tomorrow := ZoneTariff.bands_valid valid type
    obtain ⟨each', order'⟩ := dayBands_walkable tomorrow 1440 c.horizonAt
    refine ⟨fun b hb => (List.mem_append.mp hb).elim (each b) (each' b), List.pairwise_append.mpr ⟨order, order', ?_⟩⟩
    intro a ha b hb
    have := (mem_dayBands_stop today ha).2
    have := (mem_dayBands_stop tomorrow hb).1
    omega
  · rw [List.append_nil]
    exact ⟨each, order⟩

/-- A walk from `from_` can buy in the band, no earlier than `lower` and no later than the horizon. -/
def WalkBand.reaches (b : WalkBand) (from_ lower horizon : Nat) : Prop :=
  max b.start from_ < b.stop ∧ lower ≤ max b.start from_ ∧ b.stop ≤ horizon ∧ 1 ≤ b.rate ∧ 1 ≤ b.step

/-- Every band ahead can be bought in, from the chargeable start on (R41). -/
theorem Computation.ahead_reaches (c : Computation) {t : ZoneTariff} (valid : t.valid) {first : WalkBand}
    {rest : List WalkBand} (h : c.ahead t = first :: rest) :
    ∀ b ∈ first :: rest, b.reaches c.start.minute (max first.start c.start.minute) c.horizonAt := by
  obtain ⟨each, order⟩ := c.bands_walkable valid
  intro b hb
  have order := order.filter fun b => decide (c.start.minute < b.stop)
  change (c.ahead t).Pairwise _ at order
  rw [h] at order
  have mem : b ∈ c.ahead t := by rw [h]; exact hb
  obtain ⟨listed, later⟩ := List.mem_filter.mp mem
  have later : c.start.minute < b.stop := of_decide_eq_true later
  obtain ⟨lasts, stop, rate, step⟩ := each b listed
  have first_mem : first ∈ c.ahead t := by rw [h]; exact List.mem_cons_self
  have first_lasts := (each first (List.mem_filter.mp first_mem).1).1
  have after : first.start ≤ b.start := by
    rcases List.mem_cons.mp hb with rfl | hb
    · exact Nat.le_refl _
    · have := (List.pairwise_cons.mp order).1 b hb
      omega
  exact ⟨by omega, by omega, stop, rate, step⟩

/-! ### What is bought (R42 to R47, R55) -/

/-- What has been bought adds up to its segment list, and ends after `lower` and by the horizon. -/
structure Bought.Adds (b : Bought) (lower horizon : Nat) : Prop where
  minutes : (b.segments.map fun g => g.2.1).sum = b.minutes
  cost : (b.segments.map fun g => g.2.2).sum = b.cost
  expiry : b.minutes = 0 ∨ (lower < b.expiry ∧ b.expiry ≤ horizon)

theorem Bought.nothing_adds (lower horizon : Nat) : Bought.nothing.Adds lower horizon := ⟨rfl, rfl, .inl rfl⟩

theorem Bought.buy_minutes (b : Bought) (entry minutes cost : Nat) : (b.buy entry minutes cost).minutes = b.minutes + minutes := by
  unfold Bought.buy
  split
  · simp [*]
  · rfl

theorem Bought.buy_cost_le (b : Bought) (entry minutes cost : Nat) : (b.buy entry minutes cost).cost ≤ b.cost + cost := by
  unfold Bought.buy
  split
  · exact Nat.le_add_right _ _
  · exact Nat.le_refl _

theorem Bought.Adds.buy {b : Bought} {lower horizon : Nat} (h : b.Adds lower horizon) {entry minutes : Nat}
    (after : lower ≤ entry) (fits : entry + minutes ≤ horizon) (cost : Nat) :
    (b.buy entry minutes cost).Adds lower horizon := by
  unfold Bought.buy
  split
  · exact h
  · refine ⟨?_, ?_, .inr ?_⟩
    · simp [h.minutes]
    · simp [h.cost]
    · simp only
      omega

/-- Whole steps that the money left does not buy out are fewer minutes than the band has (R43, R44). -/
theorem lt_of_lt_roundUp {money x rate step : Nat} (step_pos : 1 ≤ step)
    (h : money < roundUp x step * rate) : money / rate * step < x := by
  have steps : money / rate + 1 ≤ roundUp x step := Nat.div_lt_of_lt_mul (by rwa [Nat.mul_comm])
  have minutes : (money / rate + 1) * step ≤ x + step - 1 := (Nat.le_div_iff_mul_le step_pos).mp steps
  rw [Nat.add_mul, Nat.one_mul] at minutes
  omega

/-- The MONEY walk buys inside its bands, for no more than the money and the minutes it is given (R42 to R45). -/
theorem moneyWalk_adds {from_ lower horizon : Nat} {bands : List WalkBand}
    (reaches : ∀ b ∈ bands, b.reaches from_ lower horizon) (money limit : Nat) {sum : Bought}
    (h : sum.Adds lower horizon) :
    (moneyWalk from_ bands money limit sum).1.Adds lower horizon ∧
      (moneyWalk from_ bands money limit sum).1.cost ≤ sum.cost + money ∧
      (moneyWalk from_ bands money limit sum).1.minutes ≤ sum.minutes + limit := by
  induction bands generalizing money limit sum with
  | nil => exact ⟨h, Nat.le_add_right _ _, Nat.le_add_right _ _⟩
  | cons b rest ih =>
    obtain ⟨inside, after, stop, rate, step⟩ := reaches b List.mem_cons_self
    have later := ih fun d hd => reaches d (List.mem_cons_of_mem _ hd)
    unfold moneyWalk
    simp only
    generalize entry_eq : max b.start from_ = entry at *
    generalize x_eq : min (b.stop - entry) limit = x
    have bound : entry + x ≤ horizon := by omega
    have fits : x ≤ limit := by omega
    split
    · rename_i pays
      have bought := h.buy after bound (roundUp x b.step * b.rate)
      have cost := sum.buy_cost_le entry x (roundUp x b.step * b.rate)
      have minutes := sum.buy_minutes entry x (roundUp x b.step * b.rate)
      split
      · exact ⟨bought, cost.trans (by omega), minutes.le.trans (by omega)⟩
      · obtain ⟨adds, cost', minutes'⟩ := later (money - roundUp x b.step * b.rate) (limit - x) bought
        exact ⟨adds, by omega, by omega⟩
    · rename_i short
      have fewer := lt_of_lt_roundUp step (Nat.lt_of_not_le short)
      have whole := Nat.div_mul_le_self money b.rate
      have cost := sum.buy_cost_le entry (money / b.rate * b.step) (money / b.rate * b.rate)
      have minutes := sum.buy_minutes entry (money / b.rate * b.step) (money / b.rate * b.rate)
      exact ⟨h.buy after (by omega) _, cost.trans (by omega), minutes.le.trans (by omega)⟩

/-- The MINUTES walk buys inside its bands, at no cost, no more than the minutes it is given (R46). -/
theorem minutesWalk_adds {from_ lower horizon : Nat} {bands : List WalkBand}
    (reaches : ∀ b ∈ bands, b.reaches from_ lower horizon) (limit : Nat) {sum : Bought} (h : sum.Adds lower horizon) :
    (minutesWalk from_ bands limit sum).1.Adds lower horizon ∧
      (minutesWalk from_ bands limit sum).1.cost ≤ sum.cost ∧
      sum.minutes ≤ (minutesWalk from_ bands limit sum).1.minutes ∧
      (minutesWalk from_ bands limit sum).1.minutes ≤ sum.minutes + limit ∧
      (bands ≠ [] → 1 ≤ limit → sum.minutes < (minutesWalk from_ bands limit sum).1.minutes) := by
  induction bands generalizing limit sum with
  | nil => exact ⟨h, Nat.le_refl _, Nat.le_refl _, Nat.le_add_right _ _, fun some => absurd rfl some⟩
  | cons b rest ih =>
    obtain ⟨inside, after, stop, -, -⟩ := reaches b List.mem_cons_self
    have later := ih fun d hd => reaches d (List.mem_cons_of_mem _ hd)
    unfold minutesWalk
    simp only
    generalize entry_eq : max b.start from_ = entry at *
    generalize x_eq : min (b.stop - entry) limit = x
    have bought := h.buy (minutes := x) after (by omega) 0
    have cost := sum.buy_cost_le entry x 0
    have minutes := sum.buy_minutes entry x 0
    split
    · exact ⟨bought, cost, (Nat.le_add_right _ _).trans minutes.ge, minutes.le.trans (by omega),
        fun _ _ => lt_of_lt_of_le (by omega) minutes.ge⟩
    · obtain ⟨adds, cost', grows, minutes', -⟩ := later (limit - x) bought
      exact ⟨adds, by omega, by omega, by omega, fun _ _ => by omega⟩

/-! ### Positions as moments (R12, R47) -/

theorem Computation.moment_upTo (c : Computation) {p q : Nat} (h : p ≤ q) : (c.moment p).upTo (c.moment q) := by
  unfold Moment.upTo Computation.moment
  simp only
  omega

theorem Computation.moment_before (c : Computation) {p q : Nat} (h : p < q) : (c.moment p).before (c.moment q) := by
  unfold Moment.before Computation.moment
  simp only
  omega

theorem Computation.moment_start {c : Computation} (h : c.latched) : c.moment c.start.minute = c.start := by
  obtain ⟨-, minute, -⟩ := h
  have quotient : c.start.minute / 1440 = 0 := by omega
  have remainder : c.start.minute % 1440 = c.start.minute := by omega
  rw [Computation.moment, quotient, remainder]
  rfl

theorem Computation.moment_horizon {c : Computation} (h : c.latched) : c.moment c.horizonAt = c.horizon := by
  obtain ⟨day, -, horizon⟩ := h
  have inside : c.start.day ≤ c.horizon.day ∧ c.horizon.minute ≤ 1439 := by
    rw [horizon, horizonEnd]
    split <;> simp only <;> omega
  have quotient : c.start.day + c.horizonAt / 1440 = c.horizon.day := by unfold Computation.horizonAt; omega
  have remainder : c.horizonAt % 1440 = c.horizon.minute := by unfold Computation.horizonAt; omega
  rw [Computation.moment, quotient, remainder]

/-! ### The figures of a walk (R48, R49) -/

/-- Where a walk that has bought something begins, is chargeable and ends. -/
theorem Computation.figures_times {c : Computation} (latched : c.latched) {first : WalkBand} {bought : Bought}
    (adds : bought.Adds (max first.start c.start.minute) c.horizonAt) (some : bought.minutes ≠ 0) (ending : Ending)
    (charged unused : Nat) :
    c.start.upTo (c.figures first bought ending charged unused).chargeableStart ∧
      (c.figures first bought ending charged unused).chargeableStart.before
        (c.figures first bought ending charged unused).expiry ∧
      (c.figures first bought ending charged unused).expiry.upTo c.horizon := by
  obtain ⟨after, inside⟩ := adds.expiry.resolve_left some
  refine ⟨?_, c.moment_before after, ?_⟩
  · have := c.moment_upTo (Nat.le_max_right first.start c.start.minute)
    rwa [Computation.moment_start latched] at this
  · have := c.moment_upTo inside
    rwa [Computation.moment_horizon latched] at this

theorem Computation.figures_segments (c : Computation) (first : WalkBand) (bought : Bought) (ending : Ending)
    (charged unused : Nat) :
    (c.figures first bought ending charged unused).segments = none ↔ c.entry.kind ≠ .trial := by
  unfold Computation.figures
  simp only
  split <;> simp [*]

/-- The segment list of a TRIAL (R55). -/
def Computation.segmentList (c : Computation) (bought : Bought) : List Segment :=
  bought.segments.map fun g => { entry := c.moment g.1, minutes := g.2.1, cost := g.2.2 }

theorem Computation.segmentList_sums (c : Computation) {bought : Bought} {lower horizon : Nat}
    (adds : bought.Adds lower horizon) :
    ((c.segmentList bought).map (·.minutes)).sum = bought.minutes ∧
      ((c.segmentList bought).map (·.cost)).sum = bought.cost := by
  rw [← adds.minutes, ← adds.cost, Computation.segmentList, List.map_map, List.map_map]
  exact ⟨rfl, rfl⟩

/-! ### COMPUTED walks (R40, R41, R47, R48) -/

/-- A COMPUTED MONEY walk: the money reaches the minimum charge, a band is ahead, and something is bought. -/
theorem Computation.money_computed {c : Computation} {t : ZoneTariff} (tariff : c.copy.tariff = some t) {money : Nat}
    {f : Figures} (h : c.money money = .computed f) :
    ∃ first rest bought ending, c.ahead t = first :: rest ∧
      moneyWalk c.start.minute (first :: rest) money t.maximumStay .nothing = (bought, ending) ∧
      t.minimumCharge ≤ money ∧ bought.minutes ≠ 0 ∧
      f = c.figures first bought ending (max bought.cost t.minimumCharge) (money - max bought.cost t.minimumCharge) ∧
      (c.tried (.money money)).walk = .computed { f with segments := some (c.segmentList bought) } := by
  have tried : (c.tried (.money money)).walk = (c.tried (.money money)).money money := rfl
  have copy : (c.tried (.money money)).copy = c.copy := rfl
  have ahead : (c.tried (.money money)).ahead t = c.ahead t := rfl
  have start : (c.tried (.money money)).start = c.start := rfl
  have horizon : (c.tried (.money money)).horizonAt = c.horizonAt := rfl
  rw [tried]
  unfold Computation.money at h ⊢
  rw [copy, tariff]
  rw [tariff] at h
  simp only [ahead, start, horizon] at h ⊢
  split at h
  · nomatch h
  · rename_i enough
    rw [if_neg enough]
    split at h
    · nomatch h
    · rename_i early
      rw [if_neg early]
      split at h
      · nomatch h
      · rename_i first rest list
        rw [list]
        generalize walked : moneyWalk c.start.minute (first :: rest) money t.maximumStay .nothing = w at h ⊢
        obtain ⟨bought, ending⟩ := w
        split at h
        · nomatch h
        · rename_i some
          rw [if_neg some]
          obtain rfl := Walk.computed.inj h
          exact ⟨first, rest, bought, ending, rfl, walked, Nat.le_of_not_lt enough, some, rfl, rfl⟩

/-- A COMPUTED MINUTES walk: a band is ahead. -/
theorem Computation.minutesUnder_computed {c : Computation} {t : ZoneTariff} {minutes : Nat} {f : Figures}
    (h : c.minutesUnder t minutes = .computed f) (budget : Budget) :
    ∃ first rest bought ending, c.ahead t = first :: rest ∧
      minutesWalk c.start.minute (first :: rest) minutes .nothing = (bought, ending) ∧
      f = c.figures first bought ending 0 0 ∧
      (c.tried budget).minutesUnder t minutes = .computed { f with segments := some (c.segmentList bought) } := by
  have ahead : (c.tried budget).ahead t = c.ahead t := rfl
  have start : (c.tried budget).start = c.start := rfl
  have horizon : (c.tried budget).horizonAt = c.horizonAt := rfl
  unfold Computation.minutesUnder at h ⊢
  simp only [ahead, start, horizon] at h ⊢
  split at h
  · nomatch h
  · rename_i early
    rw [if_neg early]
    split at h
    · nomatch h
    · rename_i first rest list
      rw [list]
      obtain rfl := Walk.computed.inj h
      exact ⟨first, rest, _, _, rfl, rfl, rfl, rfl⟩

/-- The minutes that a MINUTES walk of a kind is held to (R40). -/
def ZoneTariff.heldTo (t : ZoneTariff) (kind : FareKind) (minutes : Nat) : Nat :=
  match t.residentCap with
  | some cap => if kind = .trial then minutes else min minutes cap
  | none => minutes

/-- A COMPUTED MINUTES walk of a session or referral is of an eligible zone, and is held to its cap (R40). -/
theorem Computation.minutes_computed {c : Computation} {t : ZoneTariff} (tariff : c.copy.tariff = some t) {minutes : Nat}
    {f : Figures} (h : c.minutes minutes = .computed f) :
    c.minutesUnder t (t.heldTo c.entry.kind minutes) = .computed f ∧
      (c.entry.kind ≠ .trial → ∃ cap, t.residentCap = some cap ∧ t.heldTo c.entry.kind minutes ≤ cap) := by
  unfold Computation.minutes at h
  rw [tariff] at h
  unfold ZoneTariff.heldTo
  simp only at h
  split at h
  · rename_i trial
    cases t.residentCap <;> simp [trial, h]
  · rename_i other
    split at h
    · nomatch h
    · rename_i cap held
      simp [other, held, h]

theorem Computation.minutes_trial {c : Computation} {t : ZoneTariff} (tariff : c.copy.tariff = some t)
    (kind : c.entry.kind = .trial) (minutes : Nat) : c.minutes minutes = c.minutesUnder t minutes := by
  rw [Computation.minutes, tariff]
  exact if_pos kind

theorem ZoneTariff.heldTo_le (t : ZoneTariff) (kind : FareKind) (minutes : Nat) : t.heldTo kind minutes ≤ minutes := by
  unfold ZoneTariff.heldTo
  repeat' split
  all_goals omega

theorem ZoneTariff.heldTo_pos {t : ZoneTariff} (valid : t.valid) (kind : FareKind) {minutes : Nat} (h : 1 ≤ minutes) :
    1 ≤ t.heldTo kind minutes := by
  obtain ⟨-, -, -, -, -, -, -, -, -, -, -, caps⟩ := valid
  unfold ZoneTariff.heldTo
  split
  · rename_i cap eligible
    have := (caps cap eligible).1
    split <;> omega
  · exact h

/-- The MONEY clause of O22. -/
theorem moneyWalks_add_up {c : Computation} {t : ZoneTariff} {money : Nat} {f : Figures} (latched : c.latched)
    (tariff : c.copy.tariff = some t) (valid : t.valid) (h : c.money money = .computed f) :
    f.charged + f.unused = money ∧ t.minimumCharge ≤ f.charged ∧ f.charged = max f.walkCost t.minimumCharge ∧
      1 ≤ f.minutes ∧ f.minutes ≤ t.maximumStay ∧ (f.segments = none ↔ c.entry.kind ≠ .trial) ∧
      (∃ list, (c.tried (.money money)).walk = .computed { f with segments := some list } ∧
        (list.map (·.minutes)).sum = f.minutes ∧ (list.map (·.cost)).sum = f.walkCost) ∧
      f.start = c.start ∧ c.start.upTo f.chargeableStart ∧ f.chargeableStart.before f.expiry ∧ f.expiry.upTo c.horizon := by
  obtain ⟨first, rest, bought, ending, ahead, walked, enough, buys, figures, tried⟩ := Computation.money_computed tariff h
  obtain ⟨adds, cost, minutes⟩ := moneyWalk_adds (c.ahead_reaches valid ahead) money t.maximumStay
    (Bought.nothing_adds (max first.start c.start.minute) c.horizonAt)
  rw [walked] at adds cost minutes
  obtain ⟨begins, lasts, ends⟩ := c.figures_times latched adds buys ending (max bought.cost t.minimumCharge)
    (money - max bought.cost t.minimumCharge)
  have paid : bought.cost ≤ money := by simpa [Bought.nothing] using cost
  have stay : bought.minutes ≤ t.maximumStay := by simpa [Bought.nothing] using minutes
  have segments := c.figures_segments first bought ending (max bought.cost t.minimumCharge)
    (money - max bought.cost t.minimumCharge)
  rw [← figures] at begins lasts ends segments
  obtain ⟨list_minutes, list_cost⟩ := c.segmentList_sums adds
  refine ⟨?_, ?_, ?_, ?_, ?_, segments, ⟨_, tried, ?_, ?_⟩, ?_, begins, lasts, ends⟩ <;>
    rw [figures] <;> simp only [Computation.figures]
  · omega
  · omega
  · exact Nat.pos_of_ne_zero buys
  · exact stay
  · exact list_minutes
  · exact list_cost

/-- The MINUTES clause of O22. -/
theorem minutesWalks_add_up {c : Computation} {t : ZoneTariff} {minutes : Nat} {f : Figures} (latched : c.latched)
    (tariff : c.copy.tariff = some t) (valid : t.valid) (asked : 1 ≤ minutes) (h : c.minutes minutes = .computed f) :
    f.charged = 0 ∧ f.unused = 0 ∧ f.walkCost = 0 ∧ 1 ≤ f.minutes ∧ f.minutes ≤ minutes ∧
      (c.entry.kind ≠ .trial → ∃ cap, t.residentCap = some cap ∧ f.minutes ≤ cap) ∧
      (f.segments = none ↔ c.entry.kind ≠ .trial) ∧
      (∃ list, (c.tried (.minutes (t.heldTo c.entry.kind minutes))).walk = .computed { f with segments := some list } ∧
        (list.map (·.minutes)).sum = f.minutes) ∧
      f.start = c.start ∧ c.start.upTo f.chargeableStart ∧ f.chargeableStart.before f.expiry ∧ f.expiry.upTo c.horizon := by
  obtain ⟨under, capped⟩ := Computation.minutes_computed tariff h
  have held := t.heldTo_le c.entry.kind minutes
  have held_pos := ZoneTariff.heldTo_pos valid c.entry.kind asked
  generalize t.heldTo c.entry.kind minutes = walked at *
  obtain ⟨first, rest, bought, ending, ahead, walk, figures, tried⟩ :=
    Computation.minutesUnder_computed under (.minutes walked)
  obtain ⟨adds, cost, -, limit, buys⟩ := minutesWalk_adds (c.ahead_reaches valid ahead) walked
    (Bought.nothing_adds (max first.start c.start.minute) c.horizonAt)
  rw [walk] at adds cost limit buys
  have free : bought.cost = 0 := Nat.le_zero.mp cost
  have bought_some : 0 < bought.minutes := buys (List.cons_ne_nil _ _) held_pos
  have fits : bought.minutes ≤ walked := by simpa [Bought.nothing] using limit
  obtain ⟨begins, lasts, ends⟩ := c.figures_times latched adds bought_some.ne' ending 0 0
  have segments := c.figures_segments first bought ending 0 0
  rw [← figures] at begins lasts ends segments
  have bought_minutes : f.minutes = bought.minutes := by rw [figures]; rfl
  have trial : (c.tried (.minutes walked)).walk = (c.tried (.minutes walked)).minutesUnder t walked :=
    Computation.minutes_trial (c := c.tried (.minutes walked)) tariff rfl walked
  refine ⟨by rw [figures]; rfl, by rw [figures]; rfl, by rw [figures]; exact free, by omega, by omega,
    fun kind => ?_, segments, ⟨_, trial.trans tried, ?_⟩, by rw [figures]; rfl, begins, lasts, ends⟩
  · obtain ⟨cap, eligible, le⟩ := capped kind
    exact ⟨cap, eligible, by omega⟩
  · rw [bought_minutes]
    exact (c.segmentList_sums adds).1

/-- FREE PARKING and INSUFFICIENT carry the start of their computation (R41, R47, R49). -/
theorem Computation.walk_carries_start {c : Computation} {start : Moment}
    (h : c.walk = .freeParking start ∨ c.walk = .insufficient start) : start = c.start := by
  have under (t : ZoneTariff) (minutes : Nat)
      (h : c.minutesUnder t minutes = .freeParking start ∨ c.minutesUnder t minutes = .insufficient start) :
      start = c.start := by
    unfold Computation.minutesUnder at h
    repeat' split at h
    all_goals simp_all
  unfold Computation.walk at h
  split at h
  · unfold Computation.money at h
    split at h
    · simp at h
    · simp only at h
      repeat' split at h
      all_goals simp_all
  · unfold Computation.minutes at h
    split at h
    · split at h <;> simp at h
    · split at h
      · exact under _ _ h
      · split at h
        · simp at h
        · exact under _ _ h

/-- Settles O22. -/
theorem walksAddUp : Obligations.WalksAddUp := by
  refine ⟨fun c t money f latched tariff valid budget h => ?_, fun c t minutes f latched tariff valid budget asked h => ?_,
    fun c start => c.walk_carries_start⟩
  · rw [Computation.walk, budget] at h
    exact moneyWalks_add_up latched tariff valid h
  · rw [Computation.walk, budget] at h
    obtain ⟨charged, unused, cost, pos, le, capped, segments, ⟨list, tried, sum⟩, times⟩ :=
      minutesWalks_add_up latched tariff valid asked h
    exact ⟨charged, unused, cost, pos, le, capped, segments, ⟨list, _, rfl, tried, sum⟩, times⟩

end Sys2Proof.Machine
end

section
/-! What a line goes on with once an entry has ended (R155 to R158, R163), on a state of which one line is given: its oldest
directed entry, or the entries of its sweep, in each of the three modes. -/

namespace Sys2Proof.Machine

open Sys2Proof

/-! ### Passes that are not PACED -/

theorem Line.takeEntry_unpaced {L : Line} (unpaced : L.settings.mode ≠ .paced) (elapsed : Nat) :
    L.takeEntry elapsed = L.taking 1 elapsed := by
  rw [Line.takeEntry_eq, Line.takeEntry_leg unpaced]
  rfl

theorem Line.sweepReady_unpaced {L : Line} (unpaced : L.settings.mode ≠ .paced) : L.sweepReady = (L.pass == .running) := by
  unfold Line.sweepReady
  split
  · exact absurd ‹_› unpaced
  · rfl
  · rfl

theorem Line.taking_pass_unpaced {L : Line} (unpaced : L.settings.mode ≠ .paced) (entries elapsed : Nat) :
    (L.taking entries elapsed).pass = L.pass := by
  simp [Line.taking, unpaced]

/-- Before the end of the list the end of an entry changes nothing in a pass that is not PACED. -/
theorem Line.entryEnded_before {L : Line} (unpaced : L.settings.mode ≠ .paced) {rest : List Nat} (ahead : L.before rest)
    (more : rest ≠ []) : L.entryEnded = (L, false) := by
  have not_end : ¬L.pollList.length < L.position := fun h => more ((Line.before_end ahead).mp h)
  unfold Line.entryEnded
  split
  · rfl
  · exact if_neg fun h => not_end h.2
  · exact absurd ‹_› unpaced

theorem chooseWith_passes_before {s : State} {l : LineNo} (skipped : List Nat) {rest : List Nat} {L : Line} (free : L.free)
    (unpaced : L.settings.mode ≠ .paced) (running : L.pass = .running) (ahead : L.before (skipped ++ rest))
    (more : rest ≠ []) (passed : s.passesOver l L.passRecord skipped) (fuel : Nat) :
    (L.taking skipped.length s.elapsed).before rest ∧
      (s.withLine l L).chooseWith (fuel + skipped.length) l =
        (s.withLine l (L.taking skipped.length s.elapsed)).chooseWith fuel l := by
  induction skipped generalizing L with
  | nil =>
    rw [List.length_nil, Line.taking_zero]
    exact ⟨ahead, rfl⟩
  | cons drop skipped ih =>
    obtain ⟨first, later⟩ := State.passesOver_cons.mp passed
    have ready : L.sweepReady = true := by rw [Line.sweepReady_unpaced unpaced, running]; rfl
    have ahead' := Line.before_next (rest := skipped ++ rest) ahead s.elapsed
    obtain ⟨before, run⟩ := ih (L := L.taking 1 s.elapsed) free unpaced
      ((Line.taking_pass_unpaced unpaced _ _).trans running) ahead' later
    have step := chooseWith_passes free ready (rest := skipped ++ rest) ahead first (fuel + skipped.length)
    rw [Line.takeEntry_unpaced unpaced, entryEnded_withLine,
      Line.entryEnded_before (by exact unpaced) ahead' (List.append_ne_nil_of_right_ne_nil _ more)] at step
    rw [Line.taking_taking (Line.before_position ahead), Nat.add_comm 1] at before run
    exact ⟨before, step.trans run⟩

/-- Some entries are passed over and the next is polled (R155). -/
theorem chooseWith_polls_next {s : State} {l : LineNo} {skipped after : List Nat} {drop : Nat} {c : Context} {L : Line}
    (free : L.free) (unpaced : L.settings.mode ≠ .paced) (running : L.pass = .running)
    (ahead : L.before (skipped ++ drop :: after)) (passed : s.passesOver l L.passRecord skipped)
    (polled : s.pollable l L.passRecord drop c) (fuel : Nat) :
    (s.withLine l L).chooseWith (fuel + 1 + skipped.length) l =
      s.withLine l (L.polling (skipped.length + 1) s.elapsed c) := by
  obtain ⟨next, run⟩ := chooseWith_passes_before skipped free unpaced running ahead (List.cons_ne_nil _ _) passed (fuel + 1)
  have ready : (L.taking skipped.length s.elapsed).sweepReady = true := by
    rw [Line.sweepReady_unpaced (by exact unpaced), Line.taking_pass_unpaced unpaced, running]
    rfl
  have step := chooseWith_polls (L := L.taking skipped.length s.elapsed) free ready next polled fuel
  rw [Line.takeEntry_unpaced (by exact unpaced)] at step
  have polling := Line.taking_polling (Line.before_position ahead) skipped.length s.elapsed L.leg c
  exact run.trans (step.trans (congrArg (s.withLine l) polling))

/-- A CONTINUOUS pass that has taken its last entry (R157): the next runs at once, or waits for its earliest start. -/
def Line.wrapped (L : Line) : Line :=
  { L.rewound (if L.earliestStart then .running else .waiting) with earliestReached := false }

theorem Line.entryEnded_wraps {L : Line} (continuous : L.settings.mode = .continuous) (running : L.pass = .running)
    (last : L.before []) : L.entryEnded = (L.wrapped, false) := by
  have ended : L.pollList.length < L.position := (Line.before_end last).mpr rfl
  simp only [Line.entryEnded, continuous, running, ended, Line.wrapped, Line.rewound, true_and, if_true]

/-- The rest of a CONTINUOUS pass is passed over (R157). -/
theorem chooseWith_wraps {s : State} {l : LineNo} {skipped : List Nat} {L : Line} (free : L.free)
    (continuous : L.settings.mode = .continuous) (running : L.pass = .running) (ahead : L.before skipped)
    (passed : s.passesOver l L.passRecord skipped) (fuel : Nat) :
    ((s.withLine l L).entryEnded l).chooseWith (fuel + skipped.length) l =
      (s.withLine l (L.taking skipped.length s.elapsed).wrapped).chooseWith fuel l := by
  have unpaced : L.settings.mode ≠ .paced := by rw [continuous]; decide
  rcases List.eq_nil_or_concat' skipped with rfl | ⟨init, last, rfl⟩
  · rw [entryEnded_withLine, Line.entryEnded_wraps continuous running ahead, List.length_nil, Line.taking_zero]
    rfl
  · have before_last : s.passesOver l L.passRecord init := fun d hd => passed d (List.mem_append_left _ hd)
    have at_last : s.passesOver l L.passRecord [last] := fun d hd => passed d (List.mem_append_right _ hd)
    have more : init ++ [last] ≠ [] := List.append_ne_nil_of_right_ne_nil _ (List.cons_ne_nil _ _)
    obtain ⟨next, run⟩ := chooseWith_passes_before init free unpaced running ahead (List.cons_ne_nil _ _) before_last (fuel + 1)
    have taken := Line.taking_pass_unpaced unpaced init.length s.elapsed
    have ready : (L.taking init.length s.elapsed).sweepReady = true := by
      rw [Line.sweepReady_unpaced (by exact unpaced), taken, running]
      rfl
    have step := chooseWith_passes (L := L.taking init.length s.elapsed) free ready next at_last fuel
    have after := Line.before_next next s.elapsed
    rw [Line.takeEntry_unpaced (by exact unpaced), Line.taking_taking (Line.before_position ahead)] at step
    rw [Line.taking_taking (Line.before_position ahead)] at after
    rw [entryEnded_withLine, Line.entryEnded_wraps (by exact continuous)
      ((Line.taking_pass_unpaced unpaced _ _).trans running) after] at step
    rw [entryEnded_withLine, Line.entryEnded_before unpaced ahead more, List.length_append, List.length_singleton,
      ← Nat.add_assoc, Nat.add_right_comm]
    exact run.trans step

/-! ### The choice once an entry has ended -/

theorem Line.entryEnded_keeps (L : Line) :
    L.entryEnded.1.chain = L.chain ∧ L.entryEnded.1.directed = L.directed ∧ L.entryEnded.1.pollList = L.pollList := by
  unfold Line.entryEnded
  repeat' split
  all_goals exact ⟨rfl, rfl, rfl⟩

/-- What a line that is in use does once an entry's exchange has ended (R163). -/
def State.goesOn (s : State) (l : LineNo) : State := (s.entryEnded l).choose l

/-- The choice has room to pass over every entry of the list twice. -/
theorem goesOn_eq (s : State) (l : LineNo) (L : Line) :
    (s.withLine l L).goesOn l =
      ((s.withLine l L).entryEnded l).chooseWith (2 * L.pollList.length + L.directed.length + 3) l := by
  obtain ⟨-, directed, list⟩ := L.entryEnded_keeps
  have line : ((s.withLine l L).entryEnded l).line l = L.entryEnded.1 := by
    rw [entryEnded_withLine]
    split <;> exact State.line_withLine _ _ _
  rw [State.goesOn, State.choose, line, directed, list]

theorem goesOn_touches (s : State) (l : LineNo) (n : Nat) : Touches s (s.goesOn l) n l :=
  (entryEnded_touches s l n).trans (choose_touches _ l n)

theorem goesOn_only (s : State) (l : LineNo) : OnlyLines s (s.goesOn l) := (entryEnded_only s l).trans (choose_only _ l)

theorem withLine_goesOn_onlyLine (s : State) (l : LineNo) (L : Line) : s.onlyLine ((s.withLine l L).goesOn l) l :=
  onlyLine_of ((onLine_only s l _).trans (goesOn_only _ l))
    ((onLine_touches s l (fun _ => L) 0).trans (goesOn_touches (s.withLine l L) l 0)).lines

/-- What a directed entry carries is read from the Tariff Store and the clock alone (R28, R160). -/
theorem carries_congr {s t : State} (tariffs : t.tariffs = s.tariffs) (clock : t.clock = s.clock) (c : Context)
    (kind : OrderKind) : t.carries c kind = s.carries c kind := by
  funext frame
  cases kind <;> simp only [State.carries, tariffs, clock]

/-- The oldest directed entry begins (R163). -/
theorem goesOn_directs {s : State} {l : LineNo} {L : Line} {entry : Directed} {rest : List Directed} {c : Context}
    (chain : L.chain = none) (queue : L.directed = entry :: rest) (hc : s.context entry.terminal = some c) :
    ∃ frame, s.carries c entry.kind frame ∧
      (s.withLine l L).goesOn l =
        (if L.entryEnded.2 then s.notice (.sweepComplete l) else s).withLine l
          (L.entryEnded.1.directing rest (s.chainOf c entry.kind) c frame) := by
  obtain ⟨chain', queue', -⟩ := L.entryEnded_keeps
  rw [chain] at chain'
  rw [queue] at queue'
  have unchained := Line.unchained_of_none chain'
  unfold State.goesOn
  rw [entryEnded_withLine]
  split
  · obtain ⟨frame, carries, run⟩ := choose_directs (s := s.notice (.sweepComplete l)) (l := l) unchained queue' hc
    rw [chain', Option.or_none, chainOf_congr rfl] at run
    exact ⟨frame, by rwa [carries_congr (s := s) (t := s.notice _) rfl rfl] at carries, run⟩
  · obtain ⟨frame, carries, run⟩ := choose_directs (s := s) (l := l) unchained queue' hc
    rw [chain', Option.or_none] at run
    exact ⟨frame, carries, run⟩

/-- A line whose sweep has nothing to take becomes IDLE (R163). -/
theorem goesOn_rests {s : State} {l : LineNo} {L : Line} (free : L.free)
    (rests : if L.settings.mode = .paced then L.leg = .none else L.pass ≠ .running) :
    (s.withLine l L).goesOn l = s.withLine l { L with state := .idle } := by
  have quiet : L.entryEnded = (L, false) ∧ L.sweepReady = false := by
    unfold Line.entryEnded Line.sweepReady
    split at rests
    · rename_i paced
      simp [paced, rests]
    · cases mode : L.settings.mode <;> simp_all
  unfold State.goesOn
  rw [entryEnded_withLine, quiet.1]
  exact choose_rests free quiet.2

/-- Some entries are passed over and the next is polled (R155). -/
theorem goesOn_polls {s : State} {l : LineNo} {skipped after : List Nat} {drop : Nat} {c : Context} {L : Line}
    (free : L.free) (unpaced : L.settings.mode ≠ .paced) (running : L.pass = .running)
    (ahead : L.before (skipped ++ drop :: after)) (passed : s.passesOver l L.passRecord skipped)
    (polled : s.pollable l L.passRecord drop c) :
    (s.withLine l L).goesOn l = s.withLine l (L.polling (skipped.length + 1) s.elapsed c) := by
  have short := Line.before_length ahead
  rw [List.length_append] at short
  obtain ⟨F, hF⟩ : ∃ F, 2 * L.pollList.length + L.directed.length + 3 = F + 1 + skipped.length :=
    ⟨2 * L.pollList.length + L.directed.length + 2 - skipped.length, by omega⟩
  rw [goesOn_eq, hF, entryEnded_withLine,
    Line.entryEnded_before unpaced ahead (List.append_ne_nil_of_right_ne_nil _ (List.cons_ne_nil _ _))]
  exact chooseWith_polls_next free unpaced running ahead passed polled F

/-- The rest of a SINGLE pass is passed over: it is over (R156). -/
theorem goesOn_single_over {s : State} {l : LineNo} {skipped : List Nat} {L : Line} (free : L.free)
    (single : L.settings.mode = .single) (running : L.pass = .running) (ahead : L.before skipped)
    (passed : s.passesOver l L.passRecord skipped) :
    (s.withLine l L).goesOn l =
      (s.notice (.sweepComplete l)).withLine l
        { (L.taking skipped.length s.elapsed).rewound .none with state := .idle } := by
  have short := Line.before_length ahead
  obtain ⟨F, hF⟩ : ∃ F, 2 * L.pollList.length + L.directed.length + 3 = F + 1 + 1 + skipped.length :=
    ⟨2 * L.pollList.length + L.directed.length + 1 - skipped.length, by omega⟩
  obtain ⟨none_left, run⟩ := chooseWith_passes_single skipped (rest := []) free single running
    (by rw [List.append_nil]; exact ahead) passed (F + 1 + 1)
  rw [goesOn_eq, hF, entryEnded_withLine, Line.entryEnded_single single]
  exact run.trans (chooseWith_pass_over (by exact free) (by exact single) ((Line.taking_pass_single single _ _).trans running) none_left F)

/-- The rest of a CONTINUOUS pass is passed over, and the next waits for its earliest start (R157). -/
theorem goesOn_waits {s : State} {l : LineNo} {skipped : List Nat} {L : Line} (free : L.free)
    (continuous : L.settings.mode = .continuous) (running : L.pass = .running) (ahead : L.before skipped)
    (passed : s.passesOver l L.passRecord skipped) (early : (L.taking skipped.length s.elapsed).earliestStart = false) :
    (s.withLine l L).goesOn l =
      s.withLine l
        { (L.taking skipped.length s.elapsed).rewound .waiting with state := .idle, earliestReached := false } := by
  have short := Line.before_length ahead
  obtain ⟨F, hF⟩ : ∃ F, 2 * L.pollList.length + L.directed.length + 3 = F + 1 + skipped.length :=
    ⟨2 * L.pollList.length + L.directed.length + 2 - skipped.length, by omega⟩
  have wrapped : (L.taking skipped.length s.elapsed).wrapped =
      { (L.taking skipped.length s.elapsed).rewound .waiting with earliestReached := false } := by
    simp [Line.wrapped, early]
  rw [goesOn_eq, hF, chooseWith_wraps free continuous running ahead passed, wrapped]
  refine chooseWith_rests (by exact free) ?_ F s l
  rw [Line.sweepReady_unpaced (by show L.settings.mode ≠ .paced; rw [continuous]; decide)]
  rfl

/-- The rest of a CONTINUOUS pass is passed over, and the next begins at once (R157). -/
theorem goesOn_wraps {s : State} {l : LineNo} {skipped first after : List Nat} {drop : Nat} {c : Context} {L : Line}
    (free : L.free) (continuous : L.settings.mode = .continuous) (running : L.pass = .running) (ahead : L.before skipped)
    (passed : s.passesOver l L.passRecord skipped) (due : (L.taking skipped.length s.elapsed).earliestStart = true)
    (list : L.pollList = first ++ drop :: after) (passed' : s.passesOver l [] first) (polled : s.pollable l [] drop c) :
    (s.withLine l L).goesOn l =
      s.withLine l
        (({ (L.taking skipped.length s.elapsed).rewound .running with earliestReached := false } : Line).polling
          (first.length + 1) s.elapsed c) := by
  have short := Line.before_length ahead
  have length : L.pollList.length = first.length + (after.length + 1) := by rw [list, List.length_append, List.length_cons]
  obtain ⟨F, hF⟩ : ∃ F, 2 * L.pollList.length + L.directed.length + 3 = F + 1 + first.length + skipped.length :=
    ⟨2 * L.pollList.length + L.directed.length + 2 - skipped.length - first.length, by omega⟩
  have wrapped : (L.taking skipped.length s.elapsed).wrapped =
      { (L.taking skipped.length s.elapsed).rewound .running with earliestReached := false } := by
    simp [Line.wrapped, due]
  rw [goesOn_eq, hF, chooseWith_wraps free continuous running ahead passed, wrapped]
  have again : (({ (L.taking skipped.length s.elapsed).rewound .running with earliestReached := false } : Line)).before
      (first ++ drop :: after) := ⟨[], list, rfl⟩
  exact chooseWith_polls_next (by exact free) (by show L.settings.mode ≠ .paced; rw [continuous]; decide) rfl again passed'
    polled F

/-! ### PACED legs (R158) -/

/-- Before its last entry the end of an entry of a leg changes nothing. -/
theorem Line.entryEnded_leg {L : Line} (paced : L.settings.mode = .paced) {left : Nat} (leg : L.legLeft left) (some : 0 < left)
    {rest : List Nat} (ahead : L.before rest) (more : rest ≠ []) : L.entryEnded = (L, false) := by
  have not_end : ¬L.pollList.length < L.position := fun h => more ((Line.before_end ahead).mp h)
  rcases leg with leg | ⟨leg, -⟩
  · rw [Line.entryEnded_paced paced leg, if_neg not_end, if_neg (by omega)]
  · simp only [Line.entryEnded, paced, leg]

/-- Some entries of a leg are passed over and the next is polled. -/
theorem goesOn_polls_leg {s : State} {l : LineNo} {skipped after : List Nat} {drop left : Nat} {c : Context} {L : Line}
    (free : L.free) (paced : L.settings.mode = .paced) (leg : L.legLeft left) (ahead : L.before (skipped ++ drop :: after))
    (short : skipped.length < left) (passed : s.passesOver l L.passRecord skipped)
    (polled : s.pollable l L.passRecord drop c) :
    (s.withLine l L).goesOn l =
      s.withLine l
        { L.polling (skipped.length + 1) s.elapsed c with leg := .running (left - skipped.length - 1) } := by
  have fits := Line.before_length ahead
  rw [List.length_append] at fits
  obtain ⟨F, hF⟩ : ∃ F, 2 * L.pollList.length + L.directed.length + 3 = F + 1 + skipped.length :=
    ⟨2 * L.pollList.length + L.directed.length + 2 - skipped.length, by omega⟩
  obtain ⟨g, legLeft, next, run⟩ :=
    chooseWith_passes_leg skipped free paced leg ahead (List.cons_ne_nil _ _) short passed (F + 1)
  have step := chooseWith_polls (L := (L.taking skipped.length s.elapsed).withLeg g) free
    (Line.sweepReady_paced paced legLeft) next polled F
  rw [Line.takeEntry_paced (by exact paced) legLeft, Line.taking_polling (Line.before_position ahead)] at step
  rw [goesOn_eq, hF, entryEnded_withLine,
    Line.entryEnded_leg paced leg (by omega) ahead (List.append_ne_nil_of_right_ne_nil _ (List.cons_ne_nil _ _))]
  exact run.trans step

/-- All the entries that a leg has left, or the list has, are passed over: the end of the last one is looked at. -/
theorem goesOn_passes_leg {s : State} {l : LineNo} {skipped rest : List Nat} {left : Nat} {L : Line} (free : L.free)
    (paced : L.settings.mode = .paced) (leg : L.legLeft left) (ahead : L.before (skipped ++ rest))
    (short : skipped.length ≤ left) (passed : s.passesOver l L.passRecord skipped) (pending : L.leg = .pending → skipped ≠ []) :
    ∃ (N : Line) (F : Nat), N = (L.taking skipped.length s.elapsed).withLeg (.running (left - skipped.length)) ∧ N.before rest ∧
      (s.withLine l L).goesOn l = ((s.withLine l N).entryEnded l).chooseWith (F + 1) l := by
  have fits := Line.before_length ahead
  rw [List.length_append] at fits
  rcases List.eq_nil_or_concat' skipped with rfl | ⟨init, last, rfl⟩
  · have running : L.leg = .running left := leg.resolve_right fun h => pending h.1 rfl
    refine ⟨L, 2 * L.pollList.length + L.directed.length + 2, ?_, ahead, goesOn_eq s l L⟩
    rw [List.length_nil, Line.taking_zero, Nat.sub_zero, ← running]
    rfl
  · rw [List.length_append, List.length_singleton] at *
    obtain ⟨F, hF⟩ : ∃ F, 2 * L.pollList.length + L.directed.length + 3 = F + 1 + 1 + init.length :=
      ⟨2 * L.pollList.length + L.directed.length + 1 - init.length, by omega⟩
    obtain ⟨N, N_eq, next, run⟩ := chooseWith_passes_last free paced leg ahead (by omega) passed (F + 1)
    refine ⟨N, F, N_eq, next, ?_⟩
    rw [goesOn_eq, hF, entryEnded_withLine, Line.entryEnded_leg paced leg (by omega) ahead (by simp)]
    exact run

/-- The last entry of a leg is passed over before the end of the list: the leg is over. -/
theorem goesOn_leg_over {s : State} {l : LineNo} {skipped rest : List Nat} {left : Nat} {L : Line} (free : L.free)
    (paced : L.settings.mode = .paced) (leg : L.legLeft left) (ahead : L.before (skipped ++ rest))
    (full : skipped.length = left) (more : rest ≠ []) (passed : s.passesOver l L.passRecord skipped)
    (pending : L.leg = .pending → skipped ≠ []) :
    (s.withLine l L).goesOn l =
      s.withLine l { L.taking skipped.length s.elapsed with leg := .none, state := .idle } := by
  obtain ⟨N, F, N_eq, next, run⟩ := goesOn_passes_leg free paced leg ahead full.le passed pending
  have ended : N.entryEnded = (N.withLeg .none, false) := by
    have not_end : ¬N.pollList.length < N.position := fun h => more ((Line.before_end next).mp h)
    rw [Line.entryEnded_paced (left := left - skipped.length) (by rw [N_eq]; exact paced) (by rw [N_eq]; rfl),
      if_neg not_end, if_pos (by omega)]
  rw [run, entryEnded_withLine, ended, N_eq]
  exact chooseWith_rests (by exact free) (Line.sweepReady_leg_over (by exact paced) rfl) F s l

/-- The rest of the list is passed over in a leg: the pass is over (R158). -/
theorem goesOn_paced_over {s : State} {l : LineNo} {skipped : List Nat} {left : Nat} {L : Line} (free : L.free)
    (paced : L.settings.mode = .paced) (leg : L.legLeft left) (ahead : L.before skipped) (short : skipped.length ≤ left)
    (passed : s.passesOver l L.passRecord skipped) (pending : L.leg = .pending → skipped ≠ []) :
    (s.withLine l L).goesOn l =
      (s.notice (.sweepComplete l)).withLine l
        { (L.taking skipped.length s.elapsed).rewound .none with leg := .none, state := .idle } := by
  obtain ⟨N, F, N_eq, next, run⟩ := goesOn_passes_leg (rest := []) free paced leg (by rw [List.append_nil]; exact ahead) short
    passed pending
  have ended : N.entryEnded = ((N.rewound .none).withLeg .none, true) := by
    rw [Line.entryEnded_paced (left := left - skipped.length) (by rw [N_eq]; exact paced) (by rw [N_eq]; rfl),
      if_pos ((Line.before_end next).mpr rfl)]
  rw [run, entryEnded_withLine, ended, N_eq]
  exact chooseWith_rests (by exact free) (Line.sweepReady_leg_over (by exact paced) rfl) F (s.notice (.sweepComplete l)) l

end Sys2Proof.Machine
end

section
/-! LINE START (O43): the line is brought into use, its own notices leave the queue, and its mode begins with a choice. -/

namespace Sys2Proof.Machine

open Sys2Proof

/-! ### What no choice changes: the poll list, and that the line is in use -/

/-- The line has this poll list and is not STOPPED. -/
def Line.runs (L : Line) (list : List Nat) : Prop := L.pollList = list ∧ L.state ≠ .stopped

theorem Line.entryEnded_runs {L : Line} {list : List Nat} (h : L.runs list) : L.entryEnded.1.runs list := by
  unfold Line.entryEnded
  repeat' split
  all_goals exact h

/-- A choice leaves a line in use with its poll list. -/
theorem chooseWith_runs (fuel : Nat) {s : State} {l : LineNo} {L : Line} {list : List Nat} (h : L.runs list) :
    (((s.withLine l L).chooseWith fuel l).line l).runs list := by
  induction fuel generalizing s L with
  | zero =>
    rw [State.chooseWith, State.line_withLine]
    exact h
  | succ fuel ih =>
    have idle : ({ L with state := .idle } : Line).runs list := ⟨h.1, by simp⟩
    unfold State.chooseWith
    simp only [State.line_withLine, State.withLine_onLine]
    split
    · split
      · rw [State.beginBlock, beginExchange_withLine, State.line_withLine]
        exact ⟨h.1, by simp⟩
      · exact ih h
    · split
      · split
        · rename_i entry rest _ _ c _
          obtain ⟨frame, -, e⟩ := beginDirected_withLine s l { L with directed := rest } c entry.kind
          rw [e, State.line_withLine]
          exact ⟨h.1, by simp [Line.directing, Line.beginning]⟩
        · exact ih h
      · split
        · split
          · split
            · exact ih (s := s.notice (.sweepComplete l)) h
            · rw [State.line_withLine]
              exact idle
          · split
            · rw [entryEnded_withLine]
              split <;> exact ih (Line.entryEnded_runs h)
            · split
              · rw [entryEnded_withLine]
                split <;> exact ih (Line.entryEnded_runs h)
              · rw [beginExchange_withLine, State.line_withLine]
                exact ⟨h.1, by simp⟩
        · rw [State.line_withLine]
          exact idle

theorem choose_runs {s : State} {l : LineNo} {L : Line} {list : List Nat} (h : L.runs list) :
    (((s.withLine l L).choose l).line l).runs list := chooseWith_runs _ h

/-! ### The line brought into use (R140, R153) -/

/-- The state without the line's SWEEP COMPLETE and PACE OVERRUN entries (R140). -/
def State.unnoted (s : State) (l : LineNo) : State :=
  s.dropNotices fun k => k == .sweepComplete l || k == .paceOverrun l

theorem State.unnoted_notices (s : State) (l : LineNo) :
    (s.unnoted l).notices = s.notices.filter fun e => e.kind != .sweepComplete l && e.kind != .paceOverrun l := by
  refine List.filter_congr fun e _ => ?_
  simp [bne]

/-- A kind that is not queued joins the queue at its end (R173). -/
theorem noticeList_fresh {kind : NoticeKind} {queue : List Notice} (fresh : ∀ e ∈ queue, e.kind ≠ kind) :
    noticeList kind queue = queue ++ [{ kind := kind, count := 1 }] := by
  induction queue with
  | nil => rfl
  | cons e rest ih =>
    rw [noticeList, if_neg (fresh e List.mem_cons_self), ih fun d hd => fresh d (List.mem_cons_of_mem _ hd)]
    rfl

theorem State.unnoted_sweepComplete (s : State) (l : LineNo) :
    ((s.unnoted l).notice (.sweepComplete l)).notices =
      (s.notices.filter fun e => e.kind != .sweepComplete l && e.kind != .paceOverrun l) ++
        [{ kind := .sweepComplete l, count := 1 }] := by
  rw [← State.unnoted_notices]
  refine noticeList_fresh fun e he => ?_
  rw [State.unnoted_notices] at he
  have kept := List.of_mem_filter he
  simp only [Bool.and_eq_true, bne_iff_ne] at kept
  exact kept.1

/-- A line brought into use in a mode that is not PACED. -/
theorem Line.start_unpaced {L : Line} (unpaced : L.settings.mode ≠ .paced) :
    L.start = { L.rewound .running with state := .idle, paceCounter := 0, earliestReached := false, leg := .none } := by
  simp [Line.start, Line.rewound, unpaced]

theorem exec_lineStart {s : State} (ready : s.ready = true) (tag : Byte) (l : LineNo) :
    exec (.lineStart tag [byte l.val]) s = .next ((s.accepted tag 39).lineStart l) := by
  simp only [exec, execLineStart, State.request_ready ready, readLine_byte, State.owned_ok]
  rfl

theorem exec_lineStart_begins {s : State} (ready : s.ready = true) (tag : Byte) {l : LineNo}
    (stopped : (s.line l).state = .stopped) (list : (s.line l).pollList ≠ []) :
    exec (.lineStart tag [byte l.val]) s =
      .next (((((s.accepted tag 39).unnoted l).withLine l (s.line l).start).choose l).done .plain) := by
  have unused : ¬(((s.accepted tag 39).line l).state ≠ .stopped ∨ ((s.accepted tag 39).line l).pollList = []) := by
    simp [stopped, list]
  rw [exec_lineStart ready tag l, State.lineStart, if_neg unused]
  rfl

/-- At its first entry a pass that has just begun has ended no entry. -/
theorem choose_eq_goesOn {s : State} {l : LineNo} {L : Line} (quiet : L.entryEnded = (L, false)) :
    (s.withLine l L).choose l = (s.withLine l L).goesOn l := by
  rw [State.goesOn, entryEnded_withLine, quiet]
  rfl

/-- The first entries of a SINGLE or CONTINUOUS pass (R155 to R157). -/
theorem start_takes_pass {w : State} {l : LineNo} {L begun : Line} (free : L.free) (unpaced : L.settings.mode ≠ .paced)
    (list : L.pollList ≠ [])
    (hb : begun = { L.rewound .running with paceCounter := 0, earliestReached := false, leg := .none }) :
    (∀ skipped drop after c, L.pollList = skipped ++ drop :: after → w.passesOver l [] skipped → w.pollable l [] drop c →
      (w.withLine l L.start).choose l = w.withLine l (begun.polling (skipped.length + 1) w.elapsed c)) ∧
    (w.passesOver l [] L.pollList → L.settings.mode = .single →
      (w.withLine l L.start).choose l =
        (w.notice (.sweepComplete l)).withLine l
          { (begun.taking L.pollList.length w.elapsed).rewound .none with state := .idle }) ∧
    (w.passesOver l [] L.pollList → L.settings.mode = .continuous →
      (w.withLine l L.start).choose l =
        w.withLine l { (begun.taking L.pollList.length w.elapsed).rewound .waiting with state := .idle }) := by
  subst hb
  rw [Line.start_unpaced unpaced]
  have ahead {entries : List Nat} (h : L.pollList = entries) :
      ({ L.rewound .running with state := .idle, paceCounter := 0, earliestReached := false, leg := .none } : Line).before
        entries := ⟨[], h, rfl⟩
  rw [choose_eq_goesOn (Line.entryEnded_before (by exact unpaced) (ahead rfl) list)]
  refine ⟨fun skipped drop after c entries passed polled => ?_, fun passed single => ?_, fun passed continuous => ?_⟩
  · exact goesOn_polls (by exact free) (by exact unpaced) rfl (ahead entries) passed polled
  · exact goesOn_single_over (by exact free) (by exact single) rfl (ahead rfl) passed
  · refine (goesOn_waits (by exact free) (by exact continuous) rfl (ahead rfl) passed ?_).trans ?_
    · simp [Line.earliestStart, Line.taking, Line.rewound]
    · refine congrArg (w.withLine l) ?_
      simp [Line.taking, Line.rewound]

/-- A directed queue that is not empty goes first (R163). -/
theorem start_directs {w : State} {l : LineNo} {L : Line} {entry : Directed} {rest : List Directed} {c : Context}
    (chain : L.chain = none) (queue : L.directed = entry :: rest) (hc : w.context entry.terminal = some c) :
    ∃ frame, w.carries c entry.kind frame ∧
      (w.withLine l L.start).choose l = w.withLine l (L.start.directing rest (w.chainOf c entry.kind) c frame) := by
  have unchained : L.start.unchained := Line.unchained_of_none chain
  obtain ⟨frame, carries, run⟩ := choose_directs (s := w) (l := l) unchained (show L.start.directed = _ from queue) hc
  exact ⟨frame, carries, by rw [run, show L.start.chain = none from chain, Option.or_none]⟩

/-- A PACED line waits for its first leg (R158). -/
theorem start_paced {w : State} {l : LineNo} {L : Line} (free : L.free) (paced : L.settings.mode = .paced) :
    (w.withLine l L.start).choose l =
      w.withLine l { L.rewound .none with state := .idle, paceCounter := 0, earliestReached := false, leg := .none } := by
  have start : L.start =
      { L.rewound .none with state := .idle, paceCounter := 0, earliestReached := false, leg := .none } := by
    simp [Line.start, Line.rewound, paced]
  rw [start]
  exact choose_rests (by exact free) (Line.sweepReady_leg_over (by exact paced) rfl)

/-- The choice that a line is brought into use with keeps its poll list, its settings and its pace counter at 0. -/
theorem start_keeps {w : State} {l : LineNo} {L : Line} :
    (((w.withLine l L.start).choose l).line l).runs L.pollList ∧
      (((w.withLine l L.start).choose l).line l).kept = (L.settings, 0) := by
  refine ⟨choose_runs ⟨rfl, by simp [Line.start]⟩, ?_⟩
  have kept := chooseWith_keepsPace (2 * (((w.withLine l L.start).line l).pollList.length) +
    ((w.withLine l L.start).line l).directed.length + 3) (w.withLine l L.start) l l
  rw [State.line_withLine] at kept
  rw [State.choose, State.line_withLine]
  exact kept

/-- Settles O43. -/
theorem lineStartBeginsTheMode : Obligations.LineStartBeginsTheMode := by
  unfold Obligations.LineStartBeginsTheMode
  intro s tag l ready
  refine ⟨fun used => ?_, fun stopped list => ?_⟩
  · rw [exec_lineStart ready tag l, State.lineStart, if_pos (by exact used)]
    rfl
  obtain ⟨w, hw⟩ : ∃ w, w = (s.accepted tag 39).unnoted l := ⟨_, rfl⟩
  obtain ⟨v, hv⟩ : ∃ v, v = (w.withLine l (s.line l).start).choose l := ⟨_, rfl⟩
  have line : w.line l = s.line l := by rw [hw]; rfl
  obtain ⟨⟨list', inUse⟩, kept⟩ := start_keeps (w := w) (l := l) (L := s.line l)
  obtain ⟨settings, counter⟩ := Prod.mk.inj kept
  have only : w.onlyLine v l := hv ▸ withLine_choose_onlyLine w l _
  obtain ⟨others, contexts, permits, cash, fare, link, store⟩ := only
  have notices : w.notices = s.notices.filter fun e => e.kind != .sweepComplete l && e.kind != .paceOverrun l := by
    rw [hw]
    exact State.unnoted_notices _ l
  have swept : (w.notice (.sweepComplete l)).notices = (s.notices.filter fun e =>
      e.kind != .sweepComplete l && e.kind != .paceOverrun l) ++ [{ kind := .sweepComplete l, count := 1 }] := by
    rw [hw]
    exact State.unnoted_sweepComplete _ l
  rw [← hv] at list' inUse settings counter
  have answered : v.done .plain = { v with link := s.link.answered tag 39 (.done .plain) } :=
    State.reply_of_accept (by rw [link, hw]; rfl) _
  refine ⟨v.done .plain, ?_, ?_⟩
  · rw [exec_lineStart_begins ready tag stopped list, hv, hw]
  rw [answered]
  rw [hw] at others contexts permits cash fare store
  refine ⟨inUse, counter, settings, list', others, contexts, rfl, permits, cash, fare, store,
    fun paced queue chain => ?_, fun begun hb => ⟨fun unpaced queue chain => ?_, fun entry rest c chain queue hc => ?_⟩⟩
  · obtain rfl := hv.trans (start_paced ⟨chain, queue⟩ paced)
    have at_line := State.line_withLine w l { (s.line l).rewound .none with
      state := .idle, paceCounter := 0, earliestReached := false, leg := .none }
    exact ⟨congrArg Line.state at_line, congrArg Line.pass at_line, congrArg Line.leg at_line,
      congrArg Line.position at_line, congrArg Line.passRecord at_line, notices⟩
  · obtain ⟨polls, single, continuous⟩ := start_takes_pass (w := w) (l := l) ⟨chain, queue⟩ unpaced list hb
    rw [← hv] at polls single continuous
    have same : w.contexts = s.contexts ∧ w.elapsed = s.elapsed := by rw [hw]; exact ⟨rfl, rfl⟩
    refine ⟨fun skipped drop after c entries passed polled => ?_, fun passed mode => ?_, fun passed mode => ?_⟩
    · have run := polls skipped drop after c entries (by rw [hw]; exact passed) (by rw [hw]; exact polled)
      exact ⟨by rw [← same.2]; exact (congrArg (State.line · l) run).trans (State.line_withLine w l _),
        (congrArg State.notices run).trans notices⟩
    · have run := single (by rw [hw]; exact passed) mode
      exact ⟨by rw [← same.2]; exact (congrArg (State.line · l) run).trans (State.line_withLine _ l _),
        (congrArg State.notices run).trans swept⟩
    · have run := continuous (by rw [hw]; exact passed) mode
      exact ⟨by rw [← same.2]; exact (congrArg (State.line · l) run).trans (State.line_withLine w l _),
        (congrArg State.notices run).trans notices⟩
  · obtain ⟨frame, carries, run⟩ := start_directs (w := w) (l := l) (L := s.line l) chain queue (by rw [hw]; exact hc)
    have tariffs : w.tariffs = s.tariffs := by rw [hw]; rfl
    have clock : w.clock = s.clock := by rw [hw]; rfl
    have at_line : v.line l = (s.line l).start.directing rest (s.chainOf c entry.kind) c frame := by
      rw [hv, run, State.line_withLine, chainOf_congr tariffs]
    refine ⟨congrArg Line.directed at_line, congrArg Line.position at_line, congrArg Line.passRecord at_line,
      congrArg Line.leg at_line, congrArg Line.pass at_line, ⟨frame, by rwa [carries_congr tariffs clock] at carries, ?_⟩, congrArg Line.chain at_line,
      (congrArg State.notices (hv.trans run)).trans notices⟩
    exact at_line ▸ Line.directing_begins _ rest _ c frame

end Sys2Proof.Machine
end

section
/-! The response window (O57): what a failed exchange leaves of its terminal and its line, and how any exchange ends. -/

namespace Sys2Proof.Machine

open Sys2Proof

/-! ### The end of an exchange (R141, R150, R163) -/

/-- The line once its exchange is no longer in progress. -/
def Line.released (L : Line) : Line := { L with exchange := none, driving := false }

/-- The line once it has stopped, with its chain abandoned (R141). -/
def Line.halting (L : Line) : Line := { L.released with state := .stopped, chain := none }

theorem endExchange_stops {s : State} {l : LineNo} (stopping : (s.line l).state = .stopping) (chain : (s.line l).chain = none)
    (goodPoll : Option Nat) : s.endExchange l goodPoll = s.withLine l (s.line l).halting := by
  simp only [State.endExchange, stopping, chain, if_true, State.onLine_eq_withLine s, State.withLine_onLine]
  rfl

/-- The chain that stands is abandoned, and its plate owed (R164). -/
theorem endExchange_abandons {s : State} {l : LineNo} (stopping : (s.line l).state = .stopping) {chain : Chain}
    (stands : (s.line l).chain = some chain) (goodPoll : Option Nat) :
    s.endExchange l goodPoll = (s.withLine l (s.line l).halting).owe chain.terminal .plate := by
  simp only [State.endExchange, stopping, stands, if_true, State.onLine_eq_withLine s, State.withLine_onLine]
  rfl

theorem endExchange_goesOn {s : State} {l : LineNo} (used : (s.line l).state ≠ .stopping) :
    s.endExchange l none = (s.withLine l (s.line l).released).goesOn l := by
  simp only [State.endExchange, used, if_false]
  rfl

theorem endExchange_polled {s : State} {l : LineNo} (used : (s.line l).state ≠ .stopping) (n : Nat) :
    s.endExchange l (some n) = ((s.withLine l (s.line l).released).queueOwed n).goesOn l := by
  simp only [State.endExchange, used, if_false]
  rfl

/-- An order in the queue that a line goes on with stays there or has begun. -/
theorem goesOn_bears {s : State} {l : LineNo} {n : Nat} {c : Context} {kind : OrderKind} (hc : s.context n = some c)
    (waits : (s.line l).holds n kind = true) : ((s.goesOn l).line l).bears n kind (s.carries c kind) := by
  have queue : ((s.entryEnded l).line l).holds n kind = true := by
    rw [← State.withLine_self s l, entryEnded_withLine]
    have kept : (s.line l).entryEnded.1.holds n kind = true := by
      rw [Line.holds, (s.line l).entryEnded_keeps.2.1]
      exact waits
    split <;> rwa [State.line_withLine]
  have found : (s.entryEnded l).context n = some c := ((entryEnded_only s l).context n).trans hc
  have same : (s.entryEnded l).tariffs = s.tariffs ∧ (s.entryEnded l).clock = s.clock := by
    obtain ⟨_, _, _, e⟩ := entryEnded_only s l
    rw [e]
    exact ⟨rfl, rfl⟩
  have bears := chooseWith_bears (2 * ((s.entryEnded l).line l).pollList.length +
    ((s.entryEnded l).line l).directed.length + 3) found queue
  rwa [carries_congr same.1 same.2] at bears

/-- An order that the terminal's line bears stands for it. -/
theorem Line.bears.ordered {t : State} {c : Context} {n : Nat} {kind : OrderKind} {frame : SentFrame → Prop}
    (h : (t.line c.line).bears n kind frame) (number : c.number = n) (orders : ∀ f, frame f → f.orders kind = true) :
    (t.line c.line).holds c.number kind = true ∨
      ∃ e, (t.line c.line).exchange = some e ∧ e.terminal = c.number ∧ e.frame.orders kind = true := by
  subst number
  rcases h with waits | ⟨-, e, exchange, terminal, carried⟩
  · exact .inl waits
  · exact .inr ⟨e, exchange, terminal, orders _ carried⟩

/-! ### What a failed exchange leaves of its terminal (R125, R146) -/

theorem OwedOrders.has_set_iff {o : OwedOrders} {kind : OrderKind} (automatic : ∀ text, kind ≠ .message text)
    (other : OrderKind) : (o.set kind true).has other = true ↔ o.has other = true ∨ other = kind := by
  cases kind <;> cases other <;> simp_all [OwedOrders.set, OwedOrders.has]

/-- An order asked for at a SILENT terminal is owed, unless one of its kind waits (R161). -/
theorem askOrder_silent {s : State} {n : Nat} {c : Context} (hc : s.context n = some c) (silent : c.faults.silent = true)
    (kind : OrderKind) :
    s.askOrder n kind = if (s.line c.line).holds n kind = true ∨ c.owed.has kind = true then s else s.owe n kind := by
  simp only [State.askOrder, hc, silent, if_true]
  split <;> simp_all

/-- A context with SILENT. -/
def Context.muted (c : Context) : Context := { c with faults := { c.faults with silent := true } }

/-- The context once SILENT has been added, and a change of condition reported (R125, R134). -/
def Context.silenced (c : Context) (owed : OwedOrders) : Context :=
  { c.muted with
    reports := { c.reports with condition := c.reports.condition || c.muted.condition != c.condition }, owed := owed }

/-- The act that adds SILENT asks for a CONDITION order when it changes the condition, and no line changes. -/
theorem act_silences {s : State} {n : Nat} {c : Context} (hc : s.context n = some c) :
    ∃ o, (s.act n Context.muted).context n = some (c.silenced o) ∧
      (∀ m, (s.act n Context.muted).line m = s.line m) ∧
      ∀ kind, o.has kind = true ↔ c.owed.has kind = true ∨
        (kind = .condition ∧ c.muted.condition ≠ c.condition ∧ (s.line c.line).holds n .condition = false) := by
  have changed : (s.onContext n Context.muted).context n = some c.muted := by
    rw [State.context_onContext_self s n _ (by intro _; rfl), hc]
    rfl
  by_cases same : c.muted.condition = c.condition
  · rw [act_quiet hc Context.muted (fun _ => rfl) same, changed]
    exact ⟨c.owed, by rw [Context.silenced, same]; simp; rfl, fun _ => rfl,
      fun kind => (or_iff_left fun h => h.2.1 same).symm⟩
  · obtain ⟨r, hr⟩ : ∃ r, r = (s.onContext n Context.muted).report n fun r => { r with condition := true } := ⟨_, rfl⟩
    have lines (m : LineNo) : r.line m = s.line m := by rw [hr, report_line]; rfl
    have told : r.context n = some (c.silenced c.owed) := by
      have joined : (!c.muted.condition == c.condition) = true := by simpa using same
      rw [hr, report_context, changed]
      simp only [Context.silenced, bne, joined, Bool.or_true]
      rfl
    have asked : s.act n Context.muted = r.askOrder n .condition := by
      rw [hr]
      simp [State.act, State.condition, changed, hc, same]
    have line : (c.silenced c.owed).line = c.line := rfl
    rw [asked, askOrder_silent told rfl, lines, line]
    split
    · rename_i stands
      refine ⟨c.owed, told, lines, fun kind => (or_iff_left_of_imp ?_).symm⟩
      rintro ⟨rfl, -, free⟩
      exact stands.resolve_left fun holds => by simp_all
    · rename_i free
      obtain ⟨unheld, -⟩ := not_or.mp free
      refine ⟨c.owed.set .condition true, ?_, fun m => (State.line_onContext r n _ m).trans (lines m), fun kind => ?_⟩
      · rw [State.owe, State.context_onContext_self r n _ (by intro _; rfl), told]
        rfl
      · rw [OwedOrders.has_set_iff (by simp)]
        exact or_congr_right ⟨fun is => ⟨is, same, by simpa using unheld⟩, fun h => h.1⟩

/-! ### The failed exchange (R146) -/

/-- What an order owed to a terminal changes. -/
theorem owe_owes {s : State} {n : Nat} {c : Context} (hc : s.context n = some c) (kind : OrderKind)
    (automatic : ∀ text, kind ≠ .message text) :
    ∃ o, (s.owe n kind).context n = some { c with owed := o } ∧
      ∀ other, o.has other = true ↔ c.owed.has other = true ∨ other = kind := by
  refine ⟨c.owed.set kind true, ?_, OwedOrders.has_set_iff automatic⟩
  rw [State.owe, State.context_onContext_self s n _ (by intro _; rfl), hc]
  rfl

/-- The frame is that of one automatic kind of order, or of none. -/
theorem SentFrame.orders_cases (frame : SentFrame) :
    (∀ other, frame.orders other = false) ∨
      ∃ kind, (∀ text, kind ≠ .message text) ∧ ∀ other, frame.orders other = true ↔ other = kind := by
  cases frame with
  | poll => exact .inl fun _ => rfl
  | order content =>
    cases content with
    | message => exact .inl fun _ => rfl
    | condition => exact .inr ⟨.condition, by simp, fun other => by cases other <;> simp [SentFrame.orders]⟩
    | clock => exact .inr ⟨.clock, by simp, fun other => by cases other <;> simp [SentFrame.orders]⟩
    | result => exact .inr ⟨.result, by simp, fun other => by cases other <;> simp [SentFrame.orders]⟩
    | plate => exact .inr ⟨.plate, by simp, fun other => by cases other <;> simp [SentFrame.orders]⟩

/-- The line once a frame has failed: a plate's chain is abandoned (R164). -/
def Line.failing (L : Line) (frame : SentFrame) : Line := if frame.orders .plate then { L with chain := none } else L

theorem Line.failing_state (L : Line) (frame : SentFrame) : (L.failing frame).state = L.state := by
  unfold Line.failing
  split <;> rfl

/-- A chain whose plate failed is abandoned (R164). -/
theorem Line.failing_unchained {L : Line} {frame : SentFrame} (h : L.chain = none ∨ frame.orders .plate = true) :
    L.failing frame = { L with chain := none } := by
  unfold Line.failing
  split
  · rfl
  · rw [← h.resolve_right ‹_›]

/-- A chain that still stands is that of a frame that was no plate's. -/
theorem Line.failing_chain {L : Line} {frame : SentFrame} :
    (L.failing frame).chain = none ∨ frame.orders .plate = false ∧ L.failing frame = L := by
  unfold Line.failing
  split
  · exact .inl rfl
  · rename_i other
    exact .inr ⟨by simpa using other, rfl⟩

/-- The order of a failed exchange becomes owed (R146). -/
theorem failedFrame_owes {s : State} {l : LineNo} {e : Exchange} {kind : OrderKind}
    (orders : e.frame.orders kind = true) :
    s.failedFrame l e = (s.withLine l ((s.line l).failing e.frame)).owe e.terminal kind := by
  unfold State.failedFrame Line.failing
  cases frame : e.frame with
  | poll => simp [frame, SentFrame.orders] at orders
  | order content =>
    cases content <;> cases kind <;> simp [frame, SentFrame.orders] at orders
    all_goals simp only [SentFrame.orders, if_true, Bool.false_eq_true, if_false, State.withLine_self]
    rfl

theorem failedFrame_of_no_order {s : State} {l : LineNo} {e : Exchange} (orders : ∀ kind, e.frame.orders kind = false) :
    s.failedFrame l e = s := by
  unfold State.failedFrame
  cases frame : e.frame with
  | poll => rfl
  | order content =>
    cases content with
    | message => rfl
    | condition => simpa [frame, SentFrame.orders] using orders .condition
    | clock => simpa [frame, SentFrame.orders] using orders .clock
    | result => simpa [frame, SentFrame.orders] using orders .result
    | plate => simpa [frame, SentFrame.orders] using orders .plate

theorem failedFrame_keeps (s : State) (l : LineNo) (e : Exchange) {c : Context} (hc : s.context e.terminal = some c) :
    Touches s (s.failedFrame l e) e.terminal l ∧ (s.failedFrame l e).line l = (s.line l).failing e.frame ∧
      ∃ o, (s.failedFrame l e).context e.terminal = some { c with owed := o } ∧
        ∀ kind, o.has kind = true ↔ c.owed.has kind = true ∨ e.frame.orders kind = true := by
  rcases e.frame.orders_cases with none_of | ⟨kind, automatic, is⟩
  · rw [failedFrame_of_no_order none_of, Line.failing, none_of]
    exact ⟨Touches.refl _ _ _, rfl, c.owed, hc, fun other => by simp [none_of]⟩
  · rw [failedFrame_owes ((is kind).mpr rfl)]
    refine ⟨(onLine_touches s l _ _).trans (owe_touches _ _ _ l),
      (State.line_onContext _ _ _ l).trans (State.line_withLine s l _), ?_⟩
    simp only [is]
    exact owe_owes (s := s.withLine l _) hc kind automatic

/-- The context once the no-reply counter has risen (R146). -/
def Context.unanswered (c : Context) : Context :=
  { c with errors := { c.errors with noReply := countUp Config.counterHold c.errors.noReply } }

/-- The state in which an exchange has failed, before it ends (R146). -/
def State.failing (s : State) (l : LineNo) (e : Exchange) : State :=
  ((s.onContext e.terminal Context.unanswered).act e.terminal Context.muted).failedFrame l e

theorem failExchange_eq (s : State) (l : LineNo) (e : Exchange) :
    s.failExchange l e = (s.failing l e).endExchange l none := rfl

theorem failing_leaves {s : State} {l : LineNo} {e : Exchange} {c : Context} (hc : s.context e.terminal = some c)
    (line : c.line = l) :
    Touches s (s.failing l e) e.terminal l ∧ ((s.failing l e).line l) = (s.line l).failing e.frame ∧
      ∃ o, (s.failing l e).context e.terminal = some (c.unanswered.silenced o) ∧
        ∀ kind, o.has kind = true ↔ c.owed.has kind = true ∨ e.frame.orders kind = true ∨
          (kind = .condition ∧ c.muted.condition ≠ c.condition ∧ (s.line l).holds e.terminal .condition = false) := by
  have counted : (s.onContext e.terminal Context.unanswered).context e.terminal = some c.unanswered := by
    rw [State.context_onContext_self s _ _ (by intro _; rfl), hc]
    rfl
  obtain ⟨o, silenced, lines, owed⟩ := act_silences counted
  obtain ⟨framed, lineAfter, o', after, owed'⟩ := failedFrame_keeps
    ((s.onContext e.terminal Context.unanswered).act e.terminal Context.muted) l e silenced
  have acted := act_touches counted Context.muted (by intro _; rfl)
  rw [show c.unanswered.muted.line = l from line] at acted
  refine ⟨((onContext_touches s _ _ (by intro _; rfl) l).trans acted).trans framed, ?_, o', after, fun kind => ?_⟩
  · rw [State.failing, lineAfter, lines, State.line_onContext]
  · have same : c.unanswered.line = l := line
    rw [owed', show (c.unanswered.silenced o).owed = o from rfl, owed, same, State.line_onContext, or_assoc,
      or_comm (a := _ ∧ _)]
    rfl

/-! ### What the end of the failed exchange leaves -/

/-- What a change to the contexts, the lines and the notices leaves alone. -/
theorem OnlyTerminals.store {s t : State} (h : OnlyTerminals s t) :
    t.cash = s.cash ∧ t.permits = s.permits ∧ t.fare = s.fare ∧ t.link = s.link ∧ s.sameStore t := by
  obtain ⟨_, _, _, _, rfl⟩ := h
  exact ⟨rfl, rfl, rfl, rfl, rfl, rfl, rfl, rfl, rfl, rfl, rfl, rfl⟩

/-- A window that runs out with no try left (R146). -/
theorem exec_responseWindowExpiry_fails {s : State} {l : LineNo} {e : Exchange} (on : s.mainSupply = true)
    (exchange : (s.line l).exchange = some e) (window : e.phase = .window) (used : e.triesAllowed ≤ e.triesUsed) :
    exec (.responseWindowExpiry l) s = .next ((s.failing l e).endExchange l none) := by
  simp [exec, execResponseWindowExpiry, State.working, on, State.windowOver, exchange, window, noReply_of_no_tries used,
    failExchange_eq]

theorem exec_responseWindowExpiry_resends {s : State} {l : LineNo} {e : Exchange} (on : s.mainSupply = true)
    (exchange : (s.line l).exchange = some e) (window : e.phase = .window) (left : e.triesUsed < e.triesAllowed)
    (quiet : (s.line l).turnaround = false) :
    exec (.responseWindowExpiry l) s =
      .next (s.onLine l fun L =>
        { L with driving := true, exchange := some { e with phase := .send, triesUsed := e.triesUsed + 1 } }) := by
  have resent : e.resend (s.line l) =
      { s.line l with driving := true, exchange := some { e with phase := .send, triesUsed := e.triesUsed + 1 } } := by
    simp [Exchange.resend, Line.transmit, quiet]
  simp only [exec, execResponseWindowExpiry, State.working, on, State.windowOver, exchange, window, if_true,
    noReply_of_tries left, State.onLine_eq_withLine, resent]

/-- On a STOPPING line the failed exchange is the last (R141, R164). -/
theorem failing_stops {s : State} {l : LineNo} {e : Exchange} {c : Context} (hc : s.context e.terminal = some c)
    (line : c.line = l) (stopping : (s.line l).state = .stopping)
    (own : ∀ chain, (s.line l).chain = some chain → chain.terminal = e.terminal) :
    Touches s ((s.failing l e).endExchange l none) e.terminal l ∧
      ((s.failing l e).endExchange l none).line l = ((s.line l).failing e.frame).halting ∧
      ∃ o, ((s.failing l e).endExchange l none).context e.terminal = some (c.unanswered.silenced o) ∧
        (∀ kind, e.frame.orders kind = true → o.has kind = true) ∧
        ∀ kind, kind ≠ .condition → (o.has kind = true ↔ c.owed.has kind = true ∨ e.frame.orders kind = true ∨
          (kind = .plate ∧ (s.line l).chain ≠ none)) := by
  obtain ⟨touched, lineAfter, o, after, owed⟩ := failing_leaves hc line
  obtain ⟨u, hu⟩ : ∃ u, u = s.failing l e := ⟨_, rfl⟩
  rw [← hu] at touched lineAfter after ⊢
  have stopping' : (u.line l).state = .stopping := by rw [lineAfter, Line.failing_state, stopping]
  have orders (kind : OrderKind) (h : e.frame.orders kind = true) : o.has kind = true := (owed kind).mpr (.inr (.inl h))
  have plain (kind : OrderKind) (h : kind ≠ .condition) :
      o.has kind = true ↔ c.owed.has kind = true ∨ e.frame.orders kind = true := by simp [owed, h]
  cases stands : (u.line l).chain with
  | none =>
    rw [endExchange_stops stopping' stands, ← lineAfter]
    refine ⟨touched.trans (onLine_touches u l _ _), State.line_withLine u l _, o, after, orders, fun kind h => ?_⟩
    rw [plain kind h, ← or_assoc]
    refine (or_iff_left_of_imp ?_).symm
    rintro ⟨rfl, chained⟩
    rw [lineAfter] at stands
    cases plate : e.frame.orders .plate with
    | true => exact .inr rfl
    | false => exact absurd (by simpa [Line.failing, plate] using stands) chained
  | some chain =>
    have unchanged := (Line.failing_chain (L := s.line l) (frame := e.frame)).resolve_left
      (by rw [← lineAfter, stands]; simp)
    rw [unchanged.2] at lineAfter ⊢
    rw [lineAfter] at stands
    rw [endExchange_abandons stopping' (by rw [lineAfter, stands]), own chain stands, lineAfter]
    obtain ⟨o', after', owed'⟩ := owe_owes (s := u.withLine l (s.line l).halting) after .plate (by simp)
    refine ⟨(touched.trans (onLine_touches u l _ _)).trans (owe_touches _ _ _ l),
      (State.line_onContext _ _ _ l).trans (State.line_withLine u l _), o', after', fun kind h => ?_, fun kind h => ?_⟩
    · exact (owed' kind).mpr (.inl (orders kind h))
    · rw [owed', show (c.unanswered.silenced o).owed = o from rfl, plain kind h, or_assoc, stands]
      simp

/-- A line in use goes on after a failed exchange (R163). -/
theorem failing_goesOn {s : State} {l : LineNo} {e : Exchange} {c : Context} (hc : s.context e.terminal = some c)
    (line : c.line = l) (used : (s.line l).halted = false) :
    ∃ u, Touches s u e.terminal l ∧
      (s.failing l e).endExchange l none = (u.withLine l ((s.line l).failing e.frame).released).goesOn l ∧
      ∃ o, u.context e.terminal = some (c.unanswered.silenced o) ∧
        ∀ kind, o.has kind = true ↔ c.owed.has kind = true ∨ e.frame.orders kind = true ∨
          (kind = .condition ∧ c.muted.condition ≠ c.condition ∧ (s.line l).holds e.terminal .condition = false) := by
  obtain ⟨touched, lineAfter, owed⟩ := failing_leaves hc line
  refine ⟨s.failing l e, touched, ?_, owed⟩
  rw [← lineAfter]
  refine endExchange_goesOn fun stopping => ?_
  rw [lineAfter, Line.failing_state] at stopping
  simp [Line.halted, stopping] at used

/-- Settles O57. -/
theorem windowExpiryResendsOrFails : Obligations.WindowExpiryResendsOrFails := by
  unfold Obligations.WindowExpiryResendsOrFails
  intro s l e on exchange window
  refine ⟨exec_responseWindowExpiry_resends on exchange window, fun c used stopping hc line own => ?_,
    fun c used inUse hc line chained => ?_⟩
  · obtain ⟨touched, lineAfter, o, after, orders, owed⟩ := failing_stops hc line stopping own
    obtain ⟨cash, permits, fare, link, store⟩ := touched.only.store
    refine ⟨_, _, exec_responseWindowExpiry_fails on exchange window used, after, rfl, rfl, rfl, rfl, fun told code frame => ?_,
      (owed .clock (by simp)).trans (by simp [OwedOrders.has]), (owed .result (by simp)).trans (by simp [OwedOrders.has]),
      (owed .plate (by simp)).trans (by simp [OwedOrders.has]), congrArg Line.state lineAfter,
      congrArg Line.exchange lineAfter, congrArg Line.chain lineAfter, touched.onlyAt, cash, permits, fare, link, store⟩
    exact orders .condition (by rw [frame]; rfl)
  · obtain ⟨u, touched, ended, o, after, owed⟩ := failing_goesOn hc line inUse
    obtain ⟨v, hv⟩ : ∃ v, v = (u.withLine l ((s.line l).failing e.frame).released).goesOn l := ⟨_, rfl⟩
    have moved : Touches s v e.terminal l :=
      hv ▸ (touched.trans (onLine_touches u l _ _)).trans (goesOn_touches _ l _)
    have after' : v.context e.terminal = some (c.unanswered.silenced o) := by
      rw [hv, (goesOn_only _ l).context]
      exact after
    obtain ⟨cash, permits, fare, link, store⟩ := moved.only.store
    have unchained := Line.failing_unchained chained
    refine ⟨v, _, by rw [exec_responseWindowExpiry_fails on exchange window used, ended, hv], after', rfl,
      fun kind h => (owed kind).mpr (.inr (.inl h)), fun changed => ?_, moved.onlyAt, cash, permits, fare, link, store,
      fun queue single pass => ?_, fun entry rest c' queue other hc' => ?_⟩
    · by_cases held : (s.line l).holds e.terminal .condition = true
      · have waits : ((u.withLine l ((s.line l).failing e.frame).released).line l).holds e.terminal .condition = true := by
          rw [State.line_withLine, unchained]
          exact held
        have bears := goesOn_bears (s := u.withLine l ((s.line l).failing e.frame).released)
          (c := c.unanswered.silenced o) after waits
        rw [← hv, ← line] at bears
        exact .inr (bears.ordered (State.context_number hc) fun frame carries => by rw [carries]; rfl)
      · exact .inl ((owed .condition).mpr (.inr (.inr ⟨rfl, changed, by simpa using held⟩)))
    · have run := goesOn_rests (s := u) (l := l) (L := ((s.line l).failing e.frame).released)
        (by rw [unchained]; exact ⟨rfl, queue⟩) (by rw [unchained]; simp [Line.released, single, pass])
      rw [unchained] at run hv
      refine ⟨(congrArg (State.line · l) (hv.trans run)).trans (State.line_withLine u l _), fun kind => ?_⟩
      have free : (s.line l).holds e.terminal .condition = false := by simp [Line.holds, queue]
      exact (owed kind).trans (by simp only [free, and_true]; rfl)
    · obtain ⟨frame, carries, run⟩ := goesOn_directs (s := u) (l := l) (L := ((s.line l).failing e.frame).released)
        (entry := entry) (rest := rest) (c := c') (by rw [unchained]; rfl) (by rw [unchained]; exact queue)
        ((touched.contexts _ other).trans hc')
      obtain ⟨-, -, -, -, clock, -, tariffs, -⟩ := touched.only.store
      rw [carries_congr tariffs clock] at carries
      rw [chainOf_congr tariffs] at run
      have lineAfter := (congrArg (State.line · l) (hv.trans run)).trans (State.line_withLine _ l _)
      refine ⟨congrArg Line.directed lineAfter, congrArg Line.chain lineAfter, frame, carries, ?_⟩
      exact lineAfter ▸ Line.directing_begins _ rest _ c' frame

end Sys2Proof.Machine
end

section
/-! The frames that end an exchange (O54): what an IDLE and an ACK do before the exchange ends, and how owed orders join the
directed queue (R149, R150, R162). -/

namespace Sys2Proof.Machine

open Sys2Proof

/-! ### The frames received (R144, R147) -/

theorem exec_idle {s : State} {l : LineNo} {e : Exchange} {c : Context} {drop : Byte} (awaits : s.awaits l e c)
    (own : drop.toNat = e.drop) (frame : e.frame = .poll) :
    exec (.idle l drop) s = .next ((s.goodFrame l e.terminal).endExchange l (some e.terminal)) := by
  obtain ⟨on, listening, -⟩ := awaits
  simp [exec, execIdle, State.working, on, State.received, listening, own, frame, SentFrame.expects, State.handFrame,
    Exchange.polled]

theorem exec_ack {s : State} {l : LineNo} {e : Exchange} {c : Context} {drop : Byte} {content : OrderContent}
    (awaits : s.awaits l e c) (own : drop.toNat = e.drop) (frame : e.frame = .order content) :
    exec (.ack l drop content.ack) s =
      .next (((s.goodFrame l e.terminal).ackOrder l e.terminal content).endExchange l none) := by
  obtain ⟨on, listening, -⟩ := awaits
  simp [exec, execAck, State.working, on, State.received, listening, own, frame, SentFrame.expects, State.handFrame]

/-- The line once a frame has been received (R142). -/
def Line.turned (L : Line) : Line := { L with turnaround := true }

/-- What the good frame of a terminal leaves that is not SILENT: its line's turnaround runs. -/
theorem goodFrame_leaves {s : State} {n : Nat} {c : Context} (hc : s.context n = some c) (sounds : c.faults.silent = false)
    (l : LineNo) :
    Touches s (s.goodFrame l n) n l ∧ (s.goodFrame l n).line l = (s.line l).turned ∧
      (s.goodFrame l n).context n = some c ∧ (s.goodFrame l n).notices = s.notices := by
  rw [goodFrame_quiet hc sounds l]
  refine ⟨(onLine_touches s l _ _).trans (onContext_touches _ n _ (by intro _; rfl) l), ?_, ?_, rfl⟩
  · rw [State.line_onContext, State.line_onLine, if_pos rfl]
    rfl
  · rw [State.context_onContext_self _ n _ (by intro _; rfl), State.context_onLine, hc, Option.map_some,
      Context.heard_of_not_silent sounds]

/-- With every terminal configured once, nothing but that line changes. -/
theorem goodFrame_turns {s : State} {n : Nat} {c : Context} (kept : s.contextsKept) (hc : s.context n = some c)
    (sounds : c.faults.silent = false) (l : LineNo) : s.goodFrame l n = s.withLine l (s.line l).turned := by
  have same : s.contexts.map (fun d => if d.number = n then d.heard else d) = s.contexts := by
    refine (List.map_congr_left fun d hd => ?_).trans (List.map_id _)
    split
    · rename_i number
      have found := State.context_of_mem kept hd
      rw [number, hc] at found
      obtain rfl := Option.some.inj found
      exact Context.heard_of_not_silent sounds
    · rfl
  rw [goodFrame_quiet hc sounds l]
  exact congrArg (fun cs => ({ s.withLine l (s.line l).turned with contexts := cs } : State)) same

/-! ### Owed orders join the directed queue (R162) -/

theorem queueOwedKind_unowed {s : State} {n : Nat} {c : Context} (hc : s.context n = some c) {kind : OrderKind}
    (unowed : c.owed.has kind = false) : s.queueOwedKind n kind = s := by
  simp [State.queueOwedKind, hc, unowed]

theorem queueOwedKind_full {s : State} {n : Nat} {c : Context} (hc : s.context n = some c) {kind : OrderKind}
    (other : (s.line c.line).holds n kind = false) (full : Config.directedCapacity ≤ (s.line c.line).directed.length) :
    s.queueOwedKind n kind = s := by
  simp [State.queueOwedKind, hc, other, Nat.not_lt.mpr full]

/-- A terminal that is owed nothing adds nothing. -/
theorem queueOwed_unowed {s : State} {n : Nat} {c : Context} (hc : s.context n = some c) (unowed : c.owed = .none) :
    s.queueOwed n = s := by
  have step {kind : OrderKind} : s.queueOwedKind n kind = s := queueOwedKind_unowed hc (by rw [unowed]; cases kind <;> rfl)
  simp only [State.queueOwed, step]

/-- A full queue that holds none of a terminal's orders takes none. -/
theorem queueOwed_full {s : State} {n : Nat} {c : Context} (hc : s.context n = some c)
    (other : ∀ x ∈ (s.line c.line).directed, x.terminal ≠ n)
    (full : Config.directedCapacity ≤ (s.line c.line).directed.length) : s.queueOwed n = s := by
  have step {kind : OrderKind} : s.queueOwedKind n kind = s :=
    queueOwedKind_full hc (by simpa [Line.holds] using fun x hx is => absurd is (other x hx)) full
  simp only [State.queueOwed, step]

/-- The line once these kinds of a terminal have joined its directed queue. -/
def Line.queued (L : Line) (n : Nat) (kinds : List OrderKind) : Line :=
  { L with directed := L.directed ++ kinds.map fun k => { terminal := n, kind := k } }

theorem queueOwedKind_queues {s : State} {n : Nat} {c : Context} (hc : s.context n = some c) {kind : OrderKind}
    (other : c.owed.has kind = true → (s.line c.line).holds n kind = false)
    (room : (s.line c.line).directed.length < Config.directedCapacity) :
    (s.queueOwedKind n kind).context n = some { c with owed := c.owed.set kind false } ∧
      (s.queueOwedKind n kind).line c.line = (s.line c.line).queued n ([kind].filter c.owed.has) ∧
      (s.queueOwedKind n kind).notices = s.notices := by
  cases owed : c.owed.has kind with
  | false =>
    have same : c.owed.set kind false = c.owed := by
      cases kind <;> simp_all [OwedOrders.set, OwedOrders.has] <;> rw [← owed]
    rw [queueOwedKind_unowed hc owed, same, List.filter_cons_of_neg (by simp [owed])]
    exact ⟨hc, by simp [Line.queued], rfl⟩
  | true =>
    have queued : s.queueOwedKind n kind =
        (s.onContext n fun c => { c with owed := c.owed.set kind false }).onLine c.line fun L => L.queued n [kind] := by
      simp [State.queueOwedKind, hc, owed, other owed, room, Line.queued]
    rw [queued, List.filter_cons_of_pos owed]
    refine ⟨?_, by rw [State.line_onLine, if_pos rfl]; rfl, rfl⟩
    rw [State.context_onLine, State.context_onContext_self s n _ (by intro _; rfl), hc]
    rfl

theorem OwedOrders.has_set_false {o : OwedOrders} {kind other : OrderKind} (different : other ≠ kind) :
    (o.set kind false).has other = o.has other := by
  cases kind <;> cases other <;> simp_all [OwedOrders.set, OwedOrders.has]

theorem Line.queued_queued (L : Line) (n : Nat) (first second : List OrderKind) :
    (L.queued n first).queued n second = L.queued n (first ++ second) := by
  simp [Line.queued]

theorem Line.holds_queued {L : Line} {n : Nat} {kinds : List OrderKind} {kind : OrderKind} :
    (L.queued n kinds).holds n kind = true ↔ L.holds n kind = true ∨ kind ∈ kinds := by
  simp [Line.holds, Line.queued, List.any_append, List.any_map, Function.comp_def]

/-- Kinds that are queued one after another, each met by no entry of the queue. -/
theorem foldl_queueOwedKind (kinds : List OrderKind) {s : State} {n : Nat} {c : Context} (hc : s.context n = some c)
    (once : kinds.Nodup) (other : ∀ kind ∈ kinds, c.owed.has kind = true → (s.line c.line).holds n kind = false)
    (room : (s.line c.line).directed.length + kinds.length ≤ Config.directedCapacity) :
    (kinds.foldl (fun s kind => s.queueOwedKind n kind) s).context n =
        some { c with owed := kinds.foldl (fun o kind => o.set kind false) c.owed } ∧
      (kinds.foldl (fun s kind => s.queueOwedKind n kind) s).line c.line =
        (s.line c.line).queued n (kinds.filter c.owed.has) ∧
      (kinds.foldl (fun s kind => s.queueOwedKind n kind) s).notices = s.notices := by
  induction kinds generalizing s c with
  | nil => exact ⟨hc, by simp [Line.queued], rfl⟩
  | cons kind rest ih =>
    rw [List.length_cons] at room
    obtain ⟨fresh, once⟩ := List.nodup_cons.mp once
    obtain ⟨context, line, notices⟩ := queueOwedKind_queues hc (other kind List.mem_cons_self) (by omega)
    have kept {k : OrderKind} (hk : k ∈ rest) : (c.owed.set kind false).has k = c.owed.has k :=
      OwedOrders.has_set_false fun is => fresh (is ▸ hk)
    have short : ([kind].filter c.owed.has).length ≤ 1 := List.length_filter_le _ _
    obtain ⟨context', line', notices'⟩ := ih context once
      (fun k hk owed => by
        rw [line, Bool.eq_false_iff]
        intro holds
        rcases Line.holds_queued.mp holds with held | new
        · rw [other k (List.mem_cons_of_mem _ hk) (by rwa [← kept hk])] at held
          nomatch held
        · exact fresh (List.mem_singleton.mp (List.mem_of_mem_filter new) ▸ hk))
      (by rw [line]; simp only [Line.queued, List.length_append, List.length_map]; omega)
    refine ⟨context', ?_, notices'.trans notices⟩
    rw [line, Line.queued_queued, List.filter_congr fun k hk => kept hk, ← List.filter_append] at line'
    exact line'

theorem OwedOrders.kinds_eq (o : OwedOrders) :
    o.kinds = ([.condition, .clock, .result, .plate] : List OrderKind).filter o.has := by
  obtain ⟨condition, clock, result, plate⟩ := o
  cases condition <;> cases clock <;> cases result <;> cases plate <;> rfl

/-- With room for four the owed orders of a terminal are queued, in R162's order. -/
theorem queueOwed_queues {s : State} {n : Nat} {c : Context} (hc : s.context n = some c)
    (other : ∀ kind, c.owed.has kind = true → (s.line c.line).holds n kind = false)
    (room : (s.line c.line).directed.length + 4 ≤ Config.directedCapacity) :
    (s.queueOwed n).context n = some { c with owed := .none } ∧
      (s.queueOwed n).line c.line = (s.line c.line).queued n c.owed.kinds ∧ (s.queueOwed n).notices = s.notices := by
  rw [OwedOrders.kinds_eq]
  exact foldl_queueOwedKind [.condition, .clock, .result, .plate] hc (by decide) (fun kind _ => other kind) room

end Sys2Proof.Machine
end

section
/-! Exchanges that end with a terminal that is not SILENT (O54, clauses 1 and 2): on a STOPPING line, and on one whose sweep has
nothing to take (R141, R149, R162 to R164). -/

namespace Sys2Proof.Machine

open Sys2Proof

/-! ### A STOPPING line (R141) -/

/-- With no chain that stands the line stops and nothing else changes. -/
theorem endExchange_stopped {s w : State} {l : LineNo} {n : Nat} {d : Context} (touched : Touches s w n l)
    (stopping : (w.line l).state = .stopping) (chain : (w.line l).chain = none) (hd : w.context n = some d)
    (goodPoll : Option Nat) :
    ∃ t, w.endExchange l goodPoll = t ∧ t.line l = (w.line l).halting ∧ t.context n = some d ∧ Touches s t n l ∧
      t.notices = w.notices := by
  rw [endExchange_stops stopping chain]
  exact ⟨_, rfl, State.line_withLine w l _, hd, touched.trans (onLine_touches w l _ n), rfl⟩

/-- The same in the terms of the statement. -/
theorem endExchange_stopped_plainly {s w : State} {l : LineNo} {n : Nat} {d : Context} (touched : Touches s w n l)
    (stopping : (w.line l).state = .stopping) (chain : (w.line l).chain = none) (hd : w.context n = some d)
    (notices : w.notices = s.notices) (goodPoll : Option Nat) :
    let t := w.endExchange l goodPoll
    (t.line l).exchange = none ∧ (t.line l).state = .stopped ∧ t.context n = some d ∧ s.onlyAt t n l ∧ t.cash = s.cash ∧
      t.permits = s.permits ∧ t.fare = s.fare ∧ t.link = s.link ∧ t.notices = s.notices ∧ s.sameStore t := by
  obtain ⟨t, rfl, lineAfter, context, moved, notices'⟩ := endExchange_stopped touched stopping chain hd goodPoll
  obtain ⟨cash, permits, fare, link, store⟩ := moved.only.store
  exact ⟨congrArg Line.exchange lineAfter, congrArg Line.state lineAfter, context, moved.onlyAt, cash, permits, fare, link,
    notices'.trans notices, store⟩

/-- Its chain abandoned and owed, it stops (R164). -/
theorem endExchange_stopped_chain {s w : State} {l : LineNo} {n : Nat} {d : Context} {chain : Chain} (touched : Touches s w n l)
    (stopping : (w.line l).state = .stopping) (stands : (w.line l).chain = some chain) (own : chain.terminal = n)
    (hd : w.context n = some d) (goodPoll : Option Nat) :
    ∃ t, w.endExchange l goodPoll = t ∧ t.line l = (w.line l).halting ∧
      t.context n = some { d with owed := { d.owed with plate := true } } ∧ Touches s t n l ∧ t.notices = w.notices := by
  subst own
  rw [endExchange_abandons stopping stands]
  refine ⟨_, rfl, (State.line_onContext _ _ _ l).trans (State.line_withLine w l _), ?_,
    (touched.trans (onLine_touches w l _ _)).trans (owe_touches _ _ _ l), rfl⟩
  rw [State.owe, State.context_onContext_self _ _ _ (by intro _; rfl)]
  exact congrArg (Option.map _) hd

/-- The held result that the order read is removed at its acknowledgement (R149). -/
theorem ackOrder_result {w : State} {l : LineNo} {n : Nat} {c : Context} {h : HeldResult} (hc : w.context n = some c)
    (held : c.held = some h) :
    (w.ackOrder l n (.result (some h))).context n = some { c with held := none } ∧
      Touches w (w.ackOrder l n (.result (some h))) n l ∧
      (w.ackOrder l n (.result (some h))).line l = w.line l ∧
      (w.ackOrder l n (.result (some h))).notices = w.notices := by
  have keeps (d : Context) : (if d.held.map (·.referral) = (some h).map (·.referral) then { d with held := none }
      else d).number = d.number := by split <;> rfl
  refine ⟨?_, onContext_touches w n _ keeps l, State.line_onContext w n _ l, rfl⟩
  rw [State.ackOrder, State.context_onContext_self w n _ keeps, hc, Option.map_some, held, if_pos rfl]

/-- The last block of a plate (R149, R164): the chain is complete, and the plate version is set and reported. -/
theorem ackOrder_plate {w : State} {l : LineNo} {n : Nat} {c : Context} {block : Nat} {plate : PlateBlock}
    {charge stay version : Nat} (hc : w.context n = some c) (tail : plate.tail = some (charge, stay, version)) :
    (w.ackOrder l n (.plate block plate)).context n =
        some { c with plateVersion := some version, reports := { c.reports with plate := true } } ∧
      Touches w (w.ackOrder l n (.plate block plate)) n l ∧
      (w.ackOrder l n (.plate block plate)).line l = { w.line l with chain := none } := by
  simp only [State.ackOrder, tail]
  refine ⟨?_, ((onLine_touches w l _ n).trans (onContext_touches _ n _ (by intro _; rfl) l)).trans (report_touches _ n _ l), ?_⟩
  · rw [report_context, State.context_onContext_self _ n _ (by intro _; rfl), State.context_onLine, hc]
    rfl
  · rw [report_line, State.line_onContext, State.line_onLine, if_pos rfl]

/-- An earlier block moves the chain on (R164). -/
theorem ackOrder_block {w : State} {l : LineNo} {n block : Nat} {plate : PlateBlock} {chain : Chain} (tail : plate.tail = none)
    (stands : (w.line l).chain = some chain) :
    w.ackOrder l n (.plate block plate) =
      w.withLine l { w.line l with chain := some { chain with acked := block } } := by
  simp only [State.ackOrder, tail, State.onLine_eq_withLine, stands, Option.map_some]

/-! ### A line whose sweep has nothing to take (R163, R164) -/

/-- The next block of a chain is made from the chain's copy (R28, R164). -/
theorem choose_follows {s : State} {l : LineNo} {L : Line} {chain : Chain} {c : Context} (stands : L.chain = some chain)
    (some_acked : 1 ≤ chain.acked ∧ chain.acked ≤ 3) (hc : s.context chain.terminal = some c) :
    (s.withLine l L).choose l =
      s.withLine l
        (L.beginning c (.order (.plate (chain.acked + 1) (plateBlock chain.zone chain.copy (chain.acked + 1))))) := by
  have found : (s.withLine l L).context chain.terminal = some c := hc
  have follows : L.chain.filter (fun c => decide (1 ≤ c.acked ∧ c.acked ≤ 3)) = some chain := by
    rw [stands, Option.filter_some, if_pos (by simpa using some_acked)]
  unfold State.choose
  simp only [State.chooseWith, State.line_withLine, follows, found, State.beginBlock, beginExchange_withLine]
  rfl

/-- A choice of a line whose sweep has nothing to take notes nothing. -/
theorem chooseWith_quiet (fuel : Nat) {s : State} {l : LineNo} {L : Line} (rests : L.sweepReady = false) :
    ((s.withLine l L).chooseWith fuel l).notices = s.notices := by
  induction fuel generalizing s L with
  | zero => rfl
  | succ fuel ih =>
    unfold State.chooseWith
    simp only [State.line_withLine, State.withLine_onLine]
    split
    · split
      · rfl
      · exact ih rests
    · split
      · rename_i entry rest queue
        split
        · rename_i c hc
          obtain ⟨frame, -, run⟩ := beginDirected_withLine s l { L with directed := rest } c entry.kind
          rw [run]
          rfl
        · exact ih rests
      · rw [rests]
        rfl

/-- A SINGLE line between passes goes on without a notice. -/
theorem goesOn_quiet {s : State} {l : LineNo} {L : Line} (single : L.settings.mode = .single) (rests : L.pass ≠ .running) :
    ((s.withLine l L).goesOn l).notices = s.notices := by
  rw [State.goesOn, entryEnded_withLine, Line.entryEnded_single single]
  refine chooseWith_quiet _ ?_
  rw [Line.sweepReady_unpaced (by rw [single]; decide)]
  simpa using rests

theorem queueOwedKind_notices (s : State) (n : Nat) (kind : OrderKind) : (s.queueOwedKind n kind).notices = s.notices := by
  unfold State.queueOwedKind
  split
  · rfl
  · simp only
    repeat' split
    all_goals rfl

theorem queueOwedKind_keeps (s : State) (n : Nat) (kind : OrderKind) (l : LineNo) :
    ∃ D, (s.queueOwedKind n kind).line l = { s.line l with directed := D } := by
  unfold State.queueOwedKind
  split
  · exact ⟨_, rfl⟩
  · simp only
    split
    · split
      · exact ⟨_, State.line_onContext s n _ l⟩
      · split
        · rw [State.line_onLine]
          split
          · rename_i same
            subst same
            rw [State.line_onContext]
            exact ⟨_, rfl⟩
          · exact ⟨_, State.line_onContext s n _ l⟩
        · exact ⟨_, rfl⟩
    · exact ⟨_, rfl⟩

/-- Of a line the owed orders change the directed queue alone. -/
theorem queueOwed_keeps (s : State) (n : Nat) (l : LineNo) :
    ∃ D, (s.queueOwed n).line l = { s.line l with directed := D } := by
  obtain ⟨A, ha⟩ := queueOwedKind_keeps s n .condition l
  obtain ⟨B, hb⟩ := queueOwedKind_keeps (s.queueOwedKind n .condition) n .clock l
  obtain ⟨C, hc⟩ := queueOwedKind_keeps ((s.queueOwedKind n .condition).queueOwedKind n .clock) n .result l
  obtain ⟨D, hd⟩ := queueOwedKind_keeps
    (((s.queueOwedKind n .condition).queueOwedKind n .clock).queueOwedKind n .result) n .plate l
  exact ⟨D, by rw [State.queueOwed, hd, hc, hb, ha]⟩

theorem queueOwed_notices (s : State) (n : Nat) : (s.queueOwed n).notices = s.notices := by
  simp only [State.queueOwed, queueOwedKind_notices]

theorem carries_owed (s : State) (c : Context) (o : OwedOrders) (kind : OrderKind) :
    s.carries { c with owed := o } kind = s.carries c kind := by
  cases kind <;> rfl

/-- These kinds of order of a terminal, as entries of a directed queue. -/
def directedOf (n : Nat) (kinds : List OrderKind) : List Directed := kinds.map fun k => { terminal := n, kind := k }

/-- The end of a good POLL exchange on a SINGLE line between passes (R162, R163). -/
theorem polled_single {s w : State} {l : LineNo} {L : Line} {n : Nat} {c : Context} (touched : Touches s w n l)
    (hL : w.line l = L) (hc : w.context n = some c) (line : c.line = l) (used : L.state ≠ .stopping)
    (single : L.settings.mode = .single) (rests : L.pass = .none) :
    Touches s (w.endExchange l (some n)) n l ∧ (w.endExchange l (some n)).notices = w.notices := by
  subst hL
  subst line
  obtain ⟨u, hu⟩ : ∃ u, u = w.withLine c.line (w.line c.line).released := ⟨_, rfl⟩
  have moved : Touches s u n c.line := hu ▸ touched.trans (onLine_touches w c.line _ n)
  have hcu : u.context n = some c := by rw [hu]; exact hc
  have unchanged : u.line c.line = (w.line c.line).released := by rw [hu]; exact State.line_withLine w _ _
  obtain ⟨D, lineAfter⟩ := queueOwed_keeps u n c.line
  rw [endExchange_polled used, ← hu]
  refine ⟨(moved.trans (queueOwed_touches hcu)).trans (goesOn_touches _ _ n), ?_⟩
  have quiet := goesOn_quiet (s := u.queueOwed n) (l := c.line) (L := { u.line c.line with directed := D })
    (by rw [unchanged]; exact single) (by rw [unchanged]; exact fun running => by simp [Line.released, rests] at running)
  rw [← lineAfter, State.withLine_self, queueOwed_notices, hu] at quiet
  rw [hu]
  exact quiet

/-- With room for four in the queue the owed orders of the terminal join it, and its oldest entry begins, or the line rests. -/
theorem polled_queues {w : State} {l : LineNo} {L : Line} {n : Nat} {c : Context} {kinds : List OrderKind}
    (hL : w.line l = L) (hc : w.context n = some c) (line : c.line = l) (used : L.state ≠ .stopping) (single : L.settings.mode = .single)
    (rests : L.pass = .none) (chain : L.chain = none)
    (other : ∀ kind, c.owed.has kind = true → L.holds n kind = false)
    (room : L.directed.length + 4 ≤ Config.directedCapacity)
    (queue : L.directed ++ directedOf n c.owed.kinds = directedOf n kinds) :
    (w.endExchange l (some n)).context n = some { c with owed := .none } ∧
      (kinds = [] → (w.endExchange l (some n)).line l = { L.released with state := .idle }) ∧
      ∀ kind rest, kinds = kind :: rest → ∃ frame, w.carries c kind frame ∧
        (w.endExchange l (some n)).line l =
          L.released.directing (directedOf n rest) (w.chainOf c kind) c frame := by
  subst hL
  subst line
  obtain ⟨context, lineAfter, -⟩ := queueOwed_queues (s := w.withLine c.line (w.line c.line).released) hc
    (by rw [State.line_withLine]; exact other) (by rw [State.line_withLine]; exact room)
  rw [State.line_withLine] at lineAfter
  obtain ⟨v, hv⟩ : ∃ v, v = (w.withLine c.line (w.line c.line).released).queueOwed n := ⟨_, rfl⟩
  rw [← hv] at context lineAfter
  have queued : v.line c.line = { (w.line c.line).released with directed := directedOf n kinds } := by
    rw [lineAfter, ← queue]
    rfl
  rw [endExchange_polled used, ← hv, (goesOn_only v c.line).context, ← State.withLine_self v c.line, queued]
  refine ⟨context, fun empty => ?_, fun kind rest first => ?_⟩
  · subst empty
    have none_waits : (w.line c.line).directed = [] := (List.append_eq_nil_iff.mp queue).1
    have run := goesOn_rests (s := v) (l := c.line) (L := { (w.line c.line).released with directed := directedOf n [] })
      ⟨chain, rfl⟩ (by simp [Line.released, single, rests])
    rw [run, State.line_withLine, directedOf, List.map_nil, ← none_waits]
    rfl
  · subst first
    obtain ⟨frame, carries, run⟩ := goesOn_directs (s := v) (l := c.line) (entry := { terminal := n, kind := kind })
      (rest := directedOf n rest) (L := { (w.line c.line).released with directed := directedOf n (kind :: rest) })
      chain rfl context
    have only : OnlyTerminals w v := hv ▸ (onLine_only w _ _).terminals.trans (queueOwed_only _ n)
    obtain ⟨-, -, -, -, clock, -⟩ := only.store
    rw [carries_congr only.tariffs clock, carries_owed] at carries
    rw [Line.entryEnded_single (by exact single), chainOf_congr only.tariffs, chainOf_owed] at run
    exact ⟨frame, carries, by rw [run, State.line_withLine]; rfl⟩

/-- A full queue with none of the terminal's orders takes none of those it is owed (R162). -/
theorem polled_full {w : State} {l : LineNo} {L : Line} {n : Nat} {c : Context} (hL : w.line l = L)
    (hc : w.context n = some c) (line : c.line = l)
    (used : L.state ≠ .stopping) (full : Config.directedCapacity ≤ L.directed.length)
    (other : ∀ x ∈ L.directed, x.terminal ≠ n) : (w.endExchange l (some n)).context n = some c := by
  subst hL
  subst line
  rw [endExchange_polled used, (goesOn_only _ c.line).context, queueOwed_full (s := w.withLine c.line _) hc
    (by rw [State.line_withLine]; exact other) (by rw [State.line_withLine]; exact full)]
  exact hc

/-- An earlier block acknowledged on a line in use: the next begins (R164). -/
theorem ackOrder_follows {w : State} {l : LineNo} {L : Line} {n block : Nat} {plate : PlateBlock} {chain : Chain} {c : Context}
    (hL : w.line l = L) (hc : w.context n = some c) (used : L.state ≠ .stopping) (single : L.settings.mode = .single)
    (tail : plate.tail = none) (stands : L.chain = some chain) (own : chain.terminal = n)
    (more : 1 ≤ block ∧ block ≤ 3) :
    ∃ N, (w.ackOrder l n (.plate block plate)).endExchange l none = w.withLine l N ∧
      N = ({ L with chain := some { chain with acked := block } } : Line).released.beginning c
        (.order (.plate (block + 1) (plateBlock chain.zone chain.copy (block + 1)))) := by
  subst hL
  subst own
  refine ⟨_, ?_, rfl⟩
  have advanced := State.line_withLine w l { w.line l with chain := some { chain with acked := block } }
  rw [ackOrder_block tail stands, endExchange_goesOn (by rw [advanced]; exact used), advanced]
  rw [State.withLine, State.withLine_onLine, State.goesOn, entryEnded_withLine, Line.entryEnded_single (by exact single)]
  exact choose_follows (chain := { chain with acked := block }) rfl more hc

end Sys2Proof.Machine
end

section
/-! Exchanges that end and what their line goes on with (O54, clauses 3 and 4): its directed queue and its sweep (R155 to R158,
R163), and a terminal that was SILENT (R125, R134, R150). -/

namespace Sys2Proof.Machine

open Sys2Proof

/-! ### What comes after an exchange that changes nothing but its line (R155 to R158, R163) -/

/-- The IDLE of a terminal that is owed nothing, and the ACK of a CLOCK order, end the exchange and nothing else. -/
theorem exec_ends {s : State} {l : LineNo} {e : Exchange} {c : Context} {drop : Byte} {i : Instr} {ended : Line}
    (hears : s.hears l e c) (own : drop.toNat = e.drop) (inUse : (s.line l).halted = false) (kept : s.contextsKept)
    (i_is : i = .idle l drop ∧ e.frame = .poll ∧ c.owed = .none ∨
      i = .ack l drop [2] ∧ ∃ time, e.frame = .order (.clock time))
    (hended : ended = { s.line l with exchange := none, driving := false, turnaround := true }) :
    exec i s = .next ((s.withLine l ended).goesOn l) := by
  obtain ⟨awaits, sounds⟩ := hears
  obtain ⟨-, -, -, hc, -⟩ := id awaits
  have used : ((s.withLine l (s.line l).turned).line l).state ≠ .stopping := fun stopping => by
    rw [State.line_withLine] at stopping
    have : (s.line l).state = .stopping := stopping
    simp [Line.halted, this] at inUse
  have released : (s.withLine l (s.line l).turned).withLine l ((s.withLine l (s.line l).turned).line l).released =
      s.withLine l ended := by
    rw [State.line_withLine, hended]
    exact State.withLine_onLine s l _ _
  rcases i_is with ⟨rfl, frame, unowed⟩ | ⟨rfl, time, frame⟩
  · rw [exec_idle awaits own frame, goodFrame_turns kept hc sounds, endExchange_polled used, released,
      queueOwed_unowed (s := s.withLine l ended) hc unowed]
  · refine (exec_ack awaits own frame).trans ?_
    rw [goodFrame_turns kept hc sounds]
    exact congrArg Host.Outcome.next ((endExchange_goesOn used).trans (by rw [released]))

/-- What a run to a known line of a state leaves. -/
theorem goesOn_onto {s t : State} {l : LineNo} {L N : Line} (run : (s.withLine l L).goesOn l = t.withLine l N) :
    ((s.withLine l L).goesOn l).line l = N ∧ ((s.withLine l L).goesOn l).notices = t.notices ∧
      ((s.withLine l L).goesOn l).attention = t.attention := by
  rw [run]
  exact ⟨State.line_withLine t l N, rfl, rfl⟩

/-- One more SWEEP COMPLETE is noted, and ATTENTION is high (R156, R158, R174). -/
theorem notice_noted (s : State) (kind : NoticeKind) :
    oneMore kind s.notices (s.notice kind).notices ∧ (s.notice kind).attention = true := by
  refine ⟨oneMore_noticeList kind s.notices, ?_⟩
  show (!(noticeList kind s.notices).isEmpty) = true
  rw [noticeList_ne_nil]
  rfl

/-- Within a leg, and before the end of the list, the end of an entry changes nothing. -/
theorem Line.entryEnded_amid {L : Line} (amid : L.position ≤ L.pollList.length) (more : L.leg ≠ .running 0) :
    L.entryEnded = (L, false) := by
  have not_end : ¬L.pollList.length < L.position := Nat.not_lt.mpr amid
  unfold Line.entryEnded
  split
  · rfl
  · exact if_neg fun h => not_end h.2
  · split
    · rename_i left leg
      rw [if_neg not_end, if_neg fun zero => more (by rw [leg, zero])]
    · rfl
    · rfl

/-! ### The IDLE of a SILENT terminal (R125, R134, R150) -/

@[simp] theorem Line.queued_nil (L : Line) (n : Nat) : L.queued n [] = L := by
  simp [Line.queued]

/-- A changed condition is reported: the terminal's entry joins the queue when its report set was empty (R76). -/
theorem report_condition_notices {s : State} {n : Nat} {c : Context} (hc : s.context n = some c) :
    (s.report n fun r => { r with condition := true }).notices =
      if c.reports.isEmpty = true then s.notices ++ [{ kind := .terminal n, count := 1 }] else s.notices := by
  have filled : ({ c.reports with condition := true } : ReportSet).isEmpty = false := rfl
  simp only [State.report, hc, filled, Bool.not_false, Bool.and_true]
  split <;> rfl

/-- A CONDITION order that is newly owed comes first (R162). -/
theorem OwedOrders.kinds_set_condition {o : OwedOrders} (unowed : o.condition = false) :
    [.condition] ++ o.kinds = (o.set .condition true).kinds := by
  obtain ⟨condition, clock, result, plate⟩ := o
  obtain rfl : condition = false := unowed
  rfl

/-- The CONDITION order that the removal of SILENT asks for, on a line that is busy with the exchange. -/
theorem askOrder_heard {s : State} {n : Nat} {c : Context} (hc : s.context n = some c) (sounds : c.faults.silent = false)
    (busy : (s.line c.line).state ≠ .idle) (queue : (s.line c.line).directed = []) :
    s.askOrder n .condition =
      if c.owed.condition = true then s
      else if (s.line c.line).halted = true then s.owe n .condition
      else s.withLine c.line ((s.line c.line).queued n [.condition]) := by
  have free : (s.line c.line).holds n .condition = false := by simp [Line.holds, queue]
  have waits : ((s.withLine c.line ((s.line c.line).queued n [.condition])).line c.line).state ≠ .idle := by
    rw [State.line_withLine]
    exact busy
  have room : ¬Config.directedCapacity ≤ (s.line c.line).directed.length := by simp [queue, Config.directedCapacity]
  simp only [State.askOrder, hc, free, Bool.false_eq_true, if_false, sounds, room, OwedOrders.has]
  refine ite_congr rfl (fun _ => rfl) fun _ => ite_congr rfl (fun _ => rfl) fun _ => ?_
  exact chooseIfIdle_busy waits

/-- The good frame of a SILENT terminal on a line with an empty directed queue: SILENT goes, and a CONDITION order that is
asked for is owed on a halted line and queued on a line in use. -/
theorem goodFrame_hears {s : State} {l : LineNo} {n : Nat} {c : Context} (hc : s.context n = some c) (line : c.line = l)
    (busy : (s.line l).state ≠ .idle) (queue : (s.line l).directed = []) :
    ∃ K o, (s.goodFrame l n).line l = (s.line l).turned.queued n K ∧
      (s.goodFrame l n).context n = some { c.unsilenced with owed := o } ∧
      (s.goodFrame l n).notices = s.noticesOnceHeard c ∧ Touches s (s.goodFrame l n) n l ∧
      ((s.line l).halted = true → K = [] ∧ o = c.owedOnceHeard) ∧
      ((s.line l).halted = false → K.length ≤ 1 ∧ o = c.owed ∧ K ++ c.owed.kinds = c.owedOnceHeard.kinds ∧
        ∀ kind ∈ K, c.owed.has kind = false) := by
  subst line
  have turned := onLine_touches s c.line (fun L => { L with turnaround := true }) n
  obtain ⟨v, hv⟩ : ∃ v, v = s.onLine c.line fun L => { L with turnaround := true } := ⟨_, rfl⟩
  have hcv : v.context n = some c := by rw [hv]; exact hc
  have lineAfter : v.line c.line = (s.line c.line).turned := by rw [hv, State.line_onLine, if_pos rfl]; rfl
  have notices : v.notices = s.notices := by rw [hv]; rfl
  have act : s.goodFrame c.line n = v.act n Context.heard := by rw [hv]; rfl
  rw [← hv] at turned
  have touched : Touches s (v.act n Context.heard) n c.line := turned.trans (act_touches hcv Context.heard (by intro _; rfl))
  have heard : (v.onContext n Context.heard).context n = some c.heard := by
    rw [State.context_onContext_self v n _ (by intro _; rfl), hcv]
    rfl
  rw [act]
  cases revived : c.revived with
  | false =>
    have same : c.heard.condition = c.condition := by simpa [Context.revived] using revived
    have unsilenced : c.unsilenced = c.heard := by simp [Context.unsilenced, revived]; rfl
    have owed : c.owedOnceHeard = c.owed := by simp [Context.owedOnceHeard, revived]
    rw [act_quiet hcv Context.heard (by intro _; rfl) same] at touched ⊢
    rw [owed, unsilenced]
    refine ⟨[], c.owed, ?_, heard, ?_, touched, fun _ => ⟨rfl, rfl⟩, fun _ => ⟨Nat.zero_le _, rfl, rfl, by simp⟩⟩
    · rw [State.line_onContext, lineAfter, Line.queued_nil]
    · simp [State.noticesOnceHeard, revived, ← notices]
  | true =>
    obtain ⟨r, hr⟩ : ∃ r, r = (v.onContext n Context.heard).report n fun r => { r with condition := true } := ⟨_, rfl⟩
    have changed : c.heard.condition ≠ c.condition := by simpa [Context.revived] using revived
    have asked : v.act n Context.heard = r.askOrder n .condition := by
      rw [hr]
      simp [State.act, State.condition, heard, hcv, changed]
    have told : r.context n = some c.unsilenced := by
      rw [hr, report_context, heard, Context.unsilenced, revived, Bool.or_true]
      rfl
    have rline : r.line c.line = (s.line c.line).turned := by rw [hr, report_line, State.line_onContext, lineAfter]
    have rnotices : r.notices = s.noticesOnceHeard c := by
      rw [hr, report_condition_notices heard, State.noticesOnceHeard, revived, State.context_number hc, ← notices]
      simp
      rfl
    have order := askOrder_heard told rfl (show (r.line c.line).state ≠ .idle by rw [rline]; exact busy)
      (show (r.line c.line).directed = [] by rw [rline]; exact queue)
    have once : c.owedOnceHeard = c.owed.set .condition true := by
      rw [Context.owedOnceHeard, revived, Bool.or_true]
      rfl
    rw [asked] at touched ⊢
    rw [once]
    cases owes : c.owed.condition with
    | true =>
      have same : c.owed.set .condition true = c.owed := by
        rw [OwedOrders.set, ← owes]
      rw [order, if_pos (by exact owes)] at touched ⊢
      rw [same]
      exact ⟨[], c.owed, by rw [rline, Line.queued_nil], told, rnotices, touched, fun _ => ⟨rfl, rfl⟩,
        fun _ => ⟨Nat.zero_le _, rfl, rfl, by simp⟩⟩
    | false =>
      have unowed : ¬c.unsilenced.owed.condition = true := by simp [owes]
      have halted : (r.line c.unsilenced.line).halted = (s.line c.line).halted := by
        rw [Context.unsilenced_line, rline]
        rfl
      rw [order, if_neg unowed, halted] at touched ⊢
      cases stops : (s.line c.line).halted with
      | true =>
        rw [stops, if_pos rfl] at touched
        rw [if_pos rfl]
        refine ⟨[], _, ?_, ?_, rnotices, touched, fun _ => ⟨rfl, rfl⟩, fun h => nomatch h⟩
        · rw [State.owe, State.line_onContext, rline, Line.queued_nil]
        · rw [State.owe, State.context_onContext_self r n _ (by intro _; rfl), told]
          rfl
      | false =>
        rw [stops, if_neg (by simp)] at touched
        rw [if_neg (by simp)]
        refine ⟨[.condition], c.owed, ?_, told, rnotices, touched, (fun h => nomatch h),
          fun _ => ⟨Nat.le_refl 1, rfl, ?_, ?_⟩⟩
        · rw [Context.unsilenced_line, State.line_withLine, rline]
        · exact OwedOrders.kinds_set_condition owes
        · simpa [OwedOrders.has] using owes

/-- Whatever the line's state, the end of a good POLL exchange changes of the terminal its owed orders alone. -/
theorem polled_owes {s w : State} {l : LineNo} {n : Nat} {c : Context} (touched : Touches s w n l)
    (hc : w.context n = some c) (line : c.line = l) (chain : (w.line l).chain = none) :
    Touches s (w.endExchange l (some n)) n l ∧ ∃ o, (w.endExchange l (some n)).context n = some { c with owed := o } := by
  subst line
  by_cases stopping : (w.line c.line).state = .stopping
  · obtain ⟨t, rfl, -, context, moved, -⟩ := endExchange_stopped touched stopping chain hc (some n)
    exact ⟨moved, c.owed, context⟩
  · obtain ⟨o, queued⟩ := queueOwed_context (w.withLine c.line (w.line c.line).released) n
    have released : (w.withLine c.line (w.line c.line).released).context n = some c := hc
    rw [endExchange_polled stopping]
    refine ⟨((touched.trans (onLine_touches w c.line _ n)).trans (queueOwed_touches released)).trans
      (goesOn_touches _ c.line n), o c, ?_⟩
    rw [(goesOn_only _ c.line).context, queued, released]
    rfl

theorem carries_heard (s : State) (c : Context) (o : OwedOrders) (kind : OrderKind) :
    s.carries { c.unsilenced with owed := o } kind = s.carries c.heard kind := by
  cases kind <;> rfl

theorem chainOf_heard (s : State) (c : Context) (o : OwedOrders) (kind : OrderKind) :
    s.chainOf { c.unsilenced with owed := o } kind = s.chainOf c kind := by
  cases kind <;> rfl

/-- A STOPPING line that hears a SILENT terminal stops, and owes it the CONDITION order (R141). -/
theorem goodFrame_hears_stops {s : State} {l : LineNo} {n : Nat} {c : Context} {ended : Line} (hc : s.context n = some c)
    (hl : c.line = l) (busy : (s.line l).state ≠ .idle) (queue : (s.line l).directed = []) (chain : (s.line l).chain = none)
    (hended : ended = { s.line l with exchange := none, driving := false, turnaround := true })
    (stopping : (s.line l).state = .stopping) :
    let t := (s.goodFrame l n).endExchange l (some n)
    t.line l = { ended with state := .stopped } ∧ t.notices = s.noticesOnceHeard c ∧
      t.context n = some { c.unsilenced with owed := c.owedOnceHeard } := by
  obtain ⟨K, o, line, context, notices, touched, onHalted, -⟩ := goodFrame_hears hc hl busy queue
  obtain ⟨rfl, rfl⟩ := onHalted (by simp [Line.halted, stopping])
  rw [Line.queued_nil] at line
  obtain ⟨t, ht, lineAfter, after, -, quiet⟩ := endExchange_stopped touched (by rw [line]; exact stopping)
    (by rw [line]; exact chain) context (some n)
  rw [ht]
  refine ⟨?_, quiet.trans notices, after⟩
  rw [lineAfter, line, hended, chain]
  rfl

/-- A SINGLE line between passes queues what it owes a SILENT terminal that it hears, the CONDITION order first (R162). -/
theorem goodFrame_hears_goesOn {s : State} {l : LineNo} {n : Nat} {c : Context} {ended : Line} (hc : s.context n = some c)
    (hl : c.line = l) (busy : (s.line l).state ≠ .idle) (queue : (s.line l).directed = []) (chain : (s.line l).chain = none)
    (hended : ended = { s.line l with exchange := none, driving := false, turnaround := true })
    (inUse : (s.line l).halted = false) (single : (s.line l).settings.mode = .single) (rests : (s.line l).pass = .none) :
    let t := (s.goodFrame l n).endExchange l (some n)
    t.context n = some { c.unsilenced with owed := .none } ∧ t.notices = s.noticesOnceHeard c ∧
      (c.owedOnceHeard.kinds = [] → t.line l = { ended with state := .idle }) ∧
      ∀ kind rest, c.owedOnceHeard.kinds = kind :: rest →
        (t.line l).directed = directedOf n rest ∧ (t.line l).chain = s.chainOf c kind ∧
          ∃ frame, s.carries c.heard kind frame ∧ (t.line l).begins c.heard frame := by
  obtain ⟨K, o, line, context, notices, touched, -, onUsed⟩ := goodFrame_hears hc hl busy queue
  have used : (s.line l).state ≠ .stopping := fun h => by simp [Line.halted, h] at inUse
  obtain ⟨short, rfl, ahead, unowed⟩ := onUsed inUse
  have empty : (s.line l).turned.directed = [] := queue
  have other (kind : OrderKind) (owed : c.owed.has kind = true) : ((s.line l).turned.queued n K).holds n kind = false := by
    rw [Bool.eq_false_iff]
    intro holds
    rcases Line.holds_queued.mp holds with held | new
    · simp [Line.holds, empty] at held
    · exact Bool.eq_false_iff.mp (unowed kind new) owed
  obtain ⟨-, quiet⟩ := polled_single touched line context hl used single rests
  obtain ⟨emptied, idle, first⟩ := polled_queues (kinds := c.owedOnceHeard.kinds) line context hl used single rests chain
    other (by simp [Line.queued, empty, Config.directedCapacity]; omega)
    (by rw [← ahead]; simp [Line.queued, empty, directedOf])
  refine ⟨emptied, quiet.trans notices, fun none_owed => ?_, fun kind rest kinds => ?_⟩
  · obtain rfl : K = [] := (List.append_eq_nil_iff.mp (ahead.trans none_owed)).1
    rw [idle none_owed, Line.queued_nil, hended]
    rfl
  · obtain ⟨next, carries, lineAfter⟩ := first kind rest kinds
    obtain ⟨-, -, -, -, clock, -, tariffs, -⟩ := touched.only.store
    rw [carries_congr tariffs clock, carries_heard] at carries
    rw [chainOf_congr tariffs, chainOf_heard] at lineAfter
    refine ⟨congrArg Line.directed lineAfter, congrArg Line.chain lineAfter, next, carries, ?_⟩
    rw [lineAfter]
    exact Line.directing_begins _ _ _ _ next

/-- Settles O54. -/
theorem exchangesEnd : Obligations.ExchangesEnd := by
  unfold Obligations.ExchangesEnd
  refine ⟨fun s l e c drop hears own stopping => ?_, fun s l e c drop hears own inUse single pass => ⟨?_, ?_,
    fun s l e c drop i ended hears own inUse kept chain i_is hended => ?_,
    fun s l e c drop ended awaits silent own frame chain queue hended => ?_⟩⟩
  · obtain ⟨awaits, sounds⟩ := hears
    obtain ⟨-, -, -, hc, -⟩ := id awaits
    obtain ⟨touched, line, context, notices⟩ := goodFrame_leaves hc sounds l
    obtain ⟨w, hw⟩ : ∃ w, w = s.goodFrame l e.terminal := ⟨_, rfl⟩
    rw [← hw] at touched line context notices
    have stopping' : (w.line l).state = .stopping := by rw [line]; exact stopping
    have chain' {chain : Option Chain} (h : (s.line l).chain = chain) : (w.line l).chain = chain := by rw [line]; exact h
    have idles (frame : e.frame = .poll) := hw ▸ exec_idle awaits own frame
    have acks {content : OrderContent} (frame : e.frame = .order content) := hw ▸ exec_ack awaits own frame
    refine ⟨fun frame chain => ?_, fun time frame chain => ?_, fun h frame held chain => ?_,
      fun plate charge stay version chain frame tail stands terminal acked => ?_,
      fun block plate chain low high frame tail stands terminal acked => ?_⟩
    · exact ⟨_, idles frame, endExchange_stopped_plainly touched stopping' (chain' chain) context notices _⟩
    · exact ⟨_, acks frame, endExchange_stopped_plainly touched stopping' (chain' chain) context notices none⟩
    · obtain ⟨removed, cleared, line', quiet⟩ := ackOrder_result (l := l) context held
      exact ⟨_, acks frame, endExchange_stopped_plainly (touched.trans cleared) (by rw [line', stopping'])
        (by rw [line', chain' chain]) removed (quiet.trans notices) none⟩
    · obtain ⟨told, completed, line'⟩ := ackOrder_plate (l := l) (block := 4) context tail
      obtain ⟨t, ht, lineAfter, context', moved, notices'⟩ := endExchange_stopped (touched.trans completed)
        (by rw [line', ← stopping']) (by rw [line']) told none
      obtain ⟨cash, permits, fare, link, store⟩ := moved.only.store
      exact ⟨t, _, ht ▸ acks frame, congrArg Line.exchange lineAfter, congrArg Line.state lineAfter,
        congrArg Line.chain lineAfter, context', rfl, moved.onlyAt, cash, permits, fare, link, store⟩
    · have block' := ackOrder_block (n := e.terminal) (block := block) tail (chain' stands)
      have advanced := State.line_withLine w l { w.line l with chain := some { chain with acked := block } }
      obtain ⟨t, ht, lineAfter, context', moved, notices'⟩ := endExchange_stopped_chain
        (touched.trans (onLine_touches w l (fun _ => { w.line l with chain := some { chain with acked := block } }) _))
        (by rw [← State.withLine, advanced, ← stopping']) (congrArg Line.chain advanced) terminal context none
      obtain ⟨cash, permits, fare, link, store⟩ := moved.only.store
      exact ⟨t, by rw [← ht, ← State.withLine, ← block']; exact acks frame, congrArg Line.exchange lineAfter,
        congrArg Line.state lineAfter, congrArg Line.chain lineAfter, context', moved.onlyAt, cash, permits, fare, link,
        notices'.trans notices, store⟩
  · intro block plate chain low high frame tail stands terminal acked
    obtain ⟨awaits, sounds⟩ := hears
    obtain ⟨-, -, -, hc, hl⟩ := id awaits
    obtain ⟨touched, line, context, notices⟩ := goodFrame_leaves hc sounds l
    have used : (s.line l).state ≠ .stopping := fun h => by simp [Line.halted, h] at inUse
    obtain ⟨N, run, next⟩ := ackOrder_follows (plate := plate) line context used single tail stands terminal ⟨low, high⟩
    have ended := exec_ack awaits own frame
    rw [run] at ended
    have moved := touched.trans (onLine_touches _ l (fun _ => N) _)
    obtain ⟨cash, permits, fare, link, store⟩ := moved.only.store
    have lineAfter := (State.line_withLine (s.goodFrame l e.terminal) l N).trans next
    exact ⟨_, _, ended, congrArg Line.chain lineAfter, congrArg Line.state lineAfter, congrArg Line.exchange lineAfter,
      State.context_number hc, rfl, rfl, by rw [lineAfter]; rfl,
      context, moved.onlyAt, notices, cash, permits, fare, link, store⟩
  · intro frame chain
    obtain ⟨awaits, sounds⟩ := hears
    obtain ⟨-, -, -, hc, hl⟩ := id awaits
    obtain ⟨touched, line, context, notices⟩ := goodFrame_leaves hc sounds l
    have used : (s.line l).state ≠ .stopping := fun h => by simp [Line.halted, h] at inUse
    obtain ⟨moved, quiet⟩ := polled_single touched line context hl used single pass
    obtain ⟨cash, permits, fare, link, store⟩ := moved.only.store
    have queues (queue : (s.line l).turned.directed = []) := polled_queues (kinds := c.owed.kinds) line context hl used single
      pass chain (fun _ _ => by simp [Line.holds, queue]) (by simp [queue, Config.directedCapacity]) (by simp [queue])
    refine ⟨_, exec_idle awaits own frame, moved.onlyAt, quiet.trans notices, cash, permits, fare, link, store,
      fun queue unowed => ?_, fun kind rest queue kinds => ?_, fun full other => ?_⟩
    · obtain ⟨emptied, idle, -⟩ := queues queue
      have lineAfter := idle (by rw [unowed]; rfl)
      exact ⟨congrArg Line.exchange lineAfter, congrArg Line.state lineAfter, by rw [emptied, ← unowed]⟩
    · obtain ⟨emptied, -, first⟩ := queues queue
      obtain ⟨next, carries, lineAfter⟩ := first kind rest kinds
      obtain ⟨-, -, -, -, clock, -, tariffs, -⟩ := touched.only.store
      rw [carries_congr tariffs clock] at carries
      exact ⟨emptied, congrArg Line.directed lineAfter, congrArg Line.state lineAfter, _, congrArg Line.exchange lineAfter,
        State.context_number hc, rfl, carries, (congrArg Line.chain lineAfter).trans (chainOf_congr tariffs c kind)⟩
    · exact polled_full line context hl used full.ge other
  · have run := exec_ends hears own inUse kept i_is hended
    have only := withLine_goesOn_onlyLine s l ended
    have settings : (s.line l).settings = ended.settings := by rw [hended]
    have directed : (s.line l).directed = ended.directed := by rw [hended]
    have position : (s.line l).position = ended.position := by rw [hended]
    have list : (s.line l).pollList = ended.pollList := by rw [hended]
    have pass : (s.line l).pass = ended.pass := by rw [hended]
    have record : (s.line l).passRecord = ended.passRecord := by rw [hended]
    have made : (s.line l).madeExchange = ended.madeExchange := by rw [hended]
    have leg : (s.line l).leg = ended.leg := by rw [hended]
    have before : (s.line l).before = ended.before := by rw [hended]; rfl
    have legLeft : (s.line l).legLeft = ended.legLeft := by rw [hended]; rfl
    have unchained : ended.chain = none := by rw [hended]; exact chain
    simp only [settings, directed, position, list, pass, record, made, leg, before, legLeft]
    refine ⟨fun entry rest d queue hd => ?_, fun queue => ⟨fun rests => ?_, fun unpaced running =>
      ⟨fun skipped drop after d ahead passed polled => ?_, fun skipped ahead passed single => ?_,
        fun skipped last ahead passed continuous listed hlast => ⟨fun reached early => ?_,
          fun due first drop after d list passed' polled => ?_⟩⟩,
      fun paced left leg => ⟨fun skipped drop after d ahead short passed polled => ?_,
        fun skipped after ahead full more passed pending => ?_, fun skipped ahead short passed pending => ?_⟩⟩⟩
    · obtain ⟨frame, carries, onto⟩ := goesOn_directs (s := s) (l := l) unchained queue hd
      obtain ⟨line, notices, -⟩ := goesOn_onto onto
      refine ⟨_, frame, run, congrArg Line.directed line, carries, ?_, congrArg Line.chain line, only, fun amid more => ?_⟩
      · rw [line]
        exact Line.directing_begins _ rest _ d frame
      · rw [Line.entryEnded_amid amid more] at line notices
        rw [line]
        exact ⟨rfl, rfl, rfl, rfl, notices⟩
    · obtain ⟨line, notices, -⟩ := goesOn_onto (goesOn_rests (s := s) (l := l) ⟨unchained, queue⟩ rests)
      exact ⟨_, run, line, notices, only⟩
    · obtain ⟨line, notices, -⟩ := goesOn_onto (goesOn_polls ⟨unchained, queue⟩ unpaced running ahead passed polled)
      exact ⟨_, run, line, notices, only⟩
    · obtain ⟨line, notices, attention⟩ := goesOn_onto (goesOn_single_over ⟨unchained, queue⟩ single running ahead passed)
      obtain ⟨noted, high⟩ := notice_noted s (.sweepComplete l)
      exact ⟨_, run, line, notices ▸ noted, attention.trans high, only⟩
    · subst hlast
      have waits : (ended.taking skipped.length s.elapsed).earliestStart = false := by
        simp only [Line.earliestStart, reached, Bool.false_or, Bool.and_eq_false_iff]
        exact early.imp (fun h => by simpa [Line.taking] using h) id
      obtain ⟨line, notices, -⟩ := goesOn_onto (goesOn_waits ⟨unchained, queue⟩ continuous running ahead passed waits)
      exact ⟨_, run, line, notices, only⟩
    · subst hlast
      have begins : (ended.taking skipped.length s.elapsed).earliestStart = true := by
        simp only [Line.earliestStart, Bool.or_eq_true, Bool.and_eq_true]
        exact due.imp id (fun h => ⟨by simpa [Line.taking] using h.1, h.2⟩)
      obtain ⟨line, notices, -⟩ := goesOn_onto
        (goesOn_wraps ⟨unchained, queue⟩ continuous running ahead passed begins list passed' polled)
      exact ⟨_, run, line, notices, only⟩
    · obtain ⟨line, notices, -⟩ := goesOn_onto
        (goesOn_polls_leg ⟨unchained, queue⟩ paced leg ahead short passed polled)
      exact ⟨_, run, line, notices, only⟩
    · obtain ⟨line, notices, -⟩ := goesOn_onto
        (goesOn_leg_over ⟨unchained, queue⟩ paced leg ahead full more passed pending)
      exact ⟨_, run, line, notices, only⟩
    · obtain ⟨line, notices, attention⟩ := goesOn_onto
        (goesOn_paced_over ⟨unchained, queue⟩ paced leg ahead short passed pending)
      obtain ⟨noted, high⟩ := notice_noted s (.sweepComplete l)
      exact ⟨_, run, line, notices ▸ noted, attention.trans high, only⟩
  · obtain ⟨-, -, busy, hc, hl⟩ := id awaits
    obtain ⟨K, o, line, context, -, touched, -⟩ := goodFrame_hears hc hl busy queue
    obtain ⟨moved, o', context'⟩ := polled_owes touched context hl (by rw [line]; exact chain)
    obtain ⟨cash, permits, fare, link, store⟩ := moved.only.store
    exact ⟨_, _, exec_idle awaits own frame, context', rfl, moved.onlyAt, cash, permits, fare, link, store,
      goodFrame_hears_stops hc hl busy queue chain hended, goodFrame_hears_goesOn hc hl busy queue chain hended⟩

end Sys2Proof.Machine
end

section
/-! FARE TRIAL (O23): what the service of the fare queue begins, and what the completion of a trial hands over. -/

namespace Sys2Proof.Machine

open Sys2Proof

/-! ### The service of the fare queue (R34) -/

theorem serveFare_nil {s : State} (queue : s.fare.queue = []) :
    s.serveFare = { s with fare := { queue := [], computing := none } } := by
  simp [State.serveFare, queue, State.onFare]

theorem serveFare_cons {s : State} {e : FareEntry} {rest : List FareEntry} (queue : s.fare.queue = e :: rest) :
    s.serveFare = { s with fare := { queue := rest, computing := some (s.latch e) } } := by
  simp only [State.serveFare, queue]
  rfl

/-! ### FARE TRIAL (R54) -/

/-- An accepted FARE TRIAL places its entry and leaves the request outstanding. -/
theorem exec_fareTrial {s : State} {body : List Byte} {trial : Trial} (ready : s.ready = true)
    (read : readTrial body = .ok trial) (tag : Byte) :
    exec (.fareTrial tag body) s = .next ((s.accepted tag 13).fareTrial tag trial) := by
  simp only [exec, execFareTrial, State.request_ready ready, read, State.owned_ok]
  rfl

/-- The bank that an entry's role names when its computation begins (R37). -/
theorem Tariffs.letterOf_eq (t : Tariffs) (role : BankRole) :
    t.letterOf role = if role = .active then t.active else t.staged := by
  cases role <;> rfl

/-- The walk of a completed TRIAL is handed over as the outstanding request's reply (R50, R54). -/
theorem deliver_trial {s : State} {k : Computation} {tag : Byte} {o : Outstanding} (returns : k.entry.returnTo = .host tag)
    (outstanding : s.link.outstanding = some o) :
    s.deliver k.result = { s with
      link := s.link.push { tag := o.tag, kind := o.kind, body := .done (.trial k.copy.letter k.copy.version k.walk) } } := by
  simp [State.deliver, returns, State.done, State.reply, State.onLink, outstanding]

/-- Settles O23: the entry is placed on the accepted state, and a trial's delivery leaves the fare queue to be served. -/
theorem trialsArePlacedAndAnswered : Obligations.TrialsArePlacedAndAnswered := by
  refine ⟨fun s tag body trial entry ready read placed => ?_, fun s k tag o on computing returns outstanding => ?_⟩
  · have run : exec (.fareTrial tag body) s =
        .next { s.accepted tag 13 with fare := (s.accepted tag 13).fareWith entry } := by
      rw [exec_fareTrial ready read, placed, ← placeFare_eq]
      rfl
    refine ⟨fun idle => ⟨(s.accepted tag 13).latch entry, ?_, ?_⟩, fun busy => ?_⟩
    · simp [run, State.fareWith, idle, State.accepted]
    · subst placed
      exact ⟨rfl, rfl, rfl, congrArg (s.tariffs.copy · trial.zone) (s.tariffs.letterOf_eq trial.role), rfl⟩
    · obtain ⟨k, computing⟩ := Option.ne_none_iff_exists'.mp busy
      simp [run, State.fareWith, computing, State.accepted]
  · have run : exec .computationComplete s = .next (s.deliver k.result).serveFare := by
      simp [exec, execComputationComplete, State.working, on, State.computationComplete, computing]
    rw [run, deliver_trial returns outstanding]
    cases queue : s.fare.queue with
    | nil => exact congrArg Host.Outcome.next (serveFare_nil (by exact queue))
    | cons e rest => exact congrArg Host.Outcome.next (serveFare_cons (by exact queue))

end Sys2Proof.Machine
end

section
/-! The withdrawal of a request in flight (O58): what any withdrawal leaves alone, then what each branch does, by where the work
of the request stands. -/

namespace Sys2Proof.Machine

open Sys2Proof

/-! ### What a withdrawal may change (R68) -/

/-- Only the contexts, the Fare Engine, the permits and the steps of a scan may differ. -/
def OnlyWork (s t : State) : Prop :=
  ∃ cs fare permits scanned choices, t = { s with contexts := cs, fare := fare, permits := permits, scanned := scanned,
                                                  choices := choices }

theorem OnlyWork.trans {s t u : State} (h : OnlyWork s t) (k : OnlyWork t u) : OnlyWork s u := by
  obtain ⟨_, _, _, _, _, rfl⟩ := h
  obtain ⟨cs, fare, permits, scanned, choices, rfl⟩ := k
  exact ⟨cs, fare, permits, scanned, choices, rfl⟩

theorem OnlyWork.store {s t : State} (h : OnlyWork s t) :
    t.lines = s.lines ∧ t.cash = s.cash ∧ t.link = s.link ∧ t.notices = s.notices ∧ s.sameStore t := by
  obtain ⟨cs, fare, permits, scanned, choices, rfl⟩ := h
  exact ⟨rfl, rfl, rfl, rfl, rfl, rfl, rfl, rfl, rfl, rfl, rfl, rfl⟩

/-- Beside the work that stands for it, only the terminal's request in flight may differ. -/
structure Withdraws (s t : State) (n : Nat) (c : Context) (flight : Option InFlight) : Prop where
  only : OnlyWork s t
  context : t.context n = some { c with inFlight := flight }
  others : ∀ m, m ≠ n → t.context m = s.context m

section Frame
variable {s t : State} {n : Nat} {c : Context} {flight other : Option InFlight}

theorem Withdraws.refl (hc : s.context n = some c) : Withdraws s s n c c.inFlight where
  only := ⟨_, _, _, _, _, rfl⟩
  context := hc
  others _ _ := rfl

theorem Withdraws.trans {u : State} (h : Withdraws s t n c flight)
    (k : Withdraws t u n { c with inFlight := flight } other) : Withdraws s u n c other where
  only := h.only.trans k.only
  context := k.context
  others m hm := (k.others m hm).trans (h.others m hm)

theorem Withdraws.flight_unique (h : Withdraws s t n c flight) (k : Withdraws s t n c other) : flight = other :=
  congrArg Context.inFlight (Option.some.inj (h.context.symm.trans k.context))

theorem Withdraws.onFare (h : Withdraws s t n c flight) (f : FareEngine → FareEngine) :
    Withdraws s (t.onFare f) n c flight where
  only := h.only.trans ⟨_, _, _, _, _, rfl⟩
  context := h.context
  others := h.others

theorem Withdraws.onPermits (h : Withdraws s t n c flight) (f : Permits → Permits) :
    Withdraws s (t.onPermits f) n c flight where
  only := h.only.trans ⟨_, _, _, _, _, rfl⟩
  context := h.context
  others := h.others

theorem Withdraws.clearClaim (h : Withdraws s t n c flight) (claim : Claim) : Withdraws s (t.clearClaim claim) n c flight :=
  h.onPermits _

/-- The request in flight is replaced by another or by none. -/
theorem onContext_withdraws (hc : s.context n = some c) (flight : Option InFlight) :
    Withdraws s (s.onContext n fun c => { c with inFlight := flight }) n c flight where
  only := ⟨_, _, _, _, _, rfl⟩
  context := (State.context_onContext_self s n _ (by intro _; rfl)).trans (congrArg (Option.map _) hc)
  others := (onContext_touches s n (fun c => { c with inFlight := flight }) (by intro _; rfl) c.line).contexts

/-- The request in flight is removed and the claim of its walk cleared (R68, R90). -/
theorem withdrawn_withdraws (hc : s.context n = some c) (request : Nat) :
    Withdraws s (s.withdrawn n request) n c none :=
  have scan : Withdraws s s.scanAlong n c c.inFlight := ⟨⟨_, _, _, _, _, rfl⟩, hc, fun _ _ => rfl⟩
  (scan.trans (onContext_withdraws scan.context none)).clearClaim _

theorem unqueueFare_withdraws (hc : s.context n = some c) (request : Nat) :
    Withdraws s (s.unqueueFare n request) n c c.inFlight := (Withdraws.refl hc).onFare _

end Frame

/-! ### Where the LOOKUP of a SESSION stands (R90) -/

section Lookups
variable {s : State} {n request : Nat}

theorem PermitOp.isLookup_iff {o : PermitOp} :
    o.isLookup n request = true ↔ ∃ q, o = .lookup q ∧ q.terminal = n ∧ q.request = request := by
  cases o <;> simp [PermitOp.isLookup]

/-- No LOOKUP of the request waits in the permit queue. -/
theorem no_lookup_waits_iff {ops : List PermitOp} :
    ops.any (·.isLookup n request) = false ↔
      ∀ o ∈ ops, ∀ p, o = .lookup p → ¬(p.terminal = n ∧ p.request = request) := by
  simp [List.any_eq_false, PermitOp.isLookup_iff]

/-- The LOOKUP of the request is taken from between operations that are not it (R90). -/
theorem filter_lookup {ahead behind : List PermitOp} {q : Lookup} (hn : q.terminal = n) (hr : q.request = request)
    (others : ∀ o ∈ ahead ++ behind, ∀ p, o = .lookup p → ¬(p.terminal = n ∧ p.request = request)) :
    (ahead ++ .lookup q :: behind).filter (fun o => !o.isLookup n request) = ahead ++ behind := by
  have kept : (ahead ++ behind).filter (fun o => !o.isLookup n request) = ahead ++ behind :=
    List.filter_eq_self.mpr fun o mem => by
      simpa using List.any_eq_false.mp (no_lookup_waits_iff.mpr others) o mem
  have named : (PermitOp.lookup q).isLookup n request = true := PermitOp.isLookup_iff.mpr ⟨q, rfl, hn, hr⟩
  simpa [named] using kept

theorem withdrawSession_queued (queued : s.permits.queue.any (·.isLookup n request) = true) :
    s.withdrawSession n request =
      (s.onPermits fun t => { t with queue := t.queue.filter fun o => !o.isLookup n request }).withdrawn n request :=
  if_pos queued

theorem withdrawSession_working {q : Lookup} {marked : Bool}
    (unqueued : s.permits.queue.any (·.isLookup n request) = false)
    (working : s.permits.working = some (.lookup q marked)) (hn : q.terminal = n) (hr : q.request = request) :
    s.withdrawSession n request = s.onPermits fun t => { t with working := some (.lookup q true) } := by
  simp [State.withdrawSession, unqueued, working, hn, hr]

theorem withdrawSession_walk (unqueued : s.permits.queue.any (·.isLookup n request) = false)
    (elsewhere : ∀ q marked, s.permits.working = some (.lookup q marked) → ¬(q.terminal = n ∧ q.request = request)) :
    s.withdrawSession n request = s.withdrawWalk n request := by
  unfold State.withdrawSession
  rw [if_neg (by simp [unqueued])]
  split
  · exact if_neg (elsewhere _ _ ‹_›)
  · rfl

end Lookups

/-! ### The withdrawal of each kind of request (R36, R68, R90) -/

section Kinds
variable {s : State} {n : Nat} {c : Context} {request : Nat} {held : InFlight}
  (hc : s.context n = some c) (hf : c.inFlight = some held) (hn : held.number = request)
include hc hf hn

theorem withdrawFare_withdraws : ∃ flight, Withdraws s (s.withdrawFare n request) n c flight := by
  cases waits : s.fareWaits n request with
  | false =>
    rw [(withdraw_of_not_waits waits).1]
    exact ⟨_, .refl hc⟩
  | true =>
    rw [withdrawFare_of_waits waits hc hf hn]
    have unqueued := unqueueFare_withdraws hc request
    exact ⟨_, unqueued.trans (onContext_withdraws unqueued.context none)⟩

theorem withdrawWalk_withdraws : ∃ flight, Withdraws s (s.withdrawWalk n request) n c flight := by
  cases waits : s.fareWaits n request with
  | false =>
    rw [(withdraw_of_not_waits waits).2]
    exact ⟨_, .refl hc⟩
  | true =>
    rw [withdrawWalk_of_waits waits hc hf hn]
    have unqueued := unqueueFare_withdraws hc request
    exact ⟨_, unqueued.trans (withdrawn_withdraws unqueued.context request)⟩

theorem withdrawSession_withdraws : ∃ flight, Withdraws s (s.withdrawSession n request) n c flight := by
  cases queued : s.permits.queue.any (·.isLookup n request) with
  | true =>
    rw [withdrawSession_queued queued]
    have filtered (f : Permits → Permits) := (Withdraws.refl hc).onPermits f
    exact ⟨_, (filtered _).trans (withdrawn_withdraws (filtered _).context request)⟩
  | false =>
    by_cases found : ∃ q marked, s.permits.working = some (.lookup q marked) ∧ q.terminal = n ∧ q.request = request
    · obtain ⟨q, marked, working, hq, hr⟩ := found
      rw [withdrawSession_working queued working hq hr]
      exact ⟨_, (Withdraws.refl hc).onPermits _⟩
    · rw [withdrawSession_walk queued fun q marked working named => found ⟨q, marked, working, named⟩]
      exact withdrawWalk_withdraws hc hf hn

end Kinds

/-! ### The mark and what follows it (R68) -/

/-- The request in flight once it is marked withdrawn. -/
def FlightKind.marked (kind : FlightKind) (request : Nat) : InFlight :=
  { kind := kind, number := request, withdrawn := true }

def State.marking (s : State) (n : Nat) (kind : FlightKind) (request : Nat) : State :=
  s.onContext n fun c => { c with inFlight := some (kind.marked request) }

section Mark
variable {s : State} {n : Nat} {c : Context} {kind : FlightKind} {request : Nat} (hc : s.context n = some c)
include hc

theorem marking_withdraws (kind : FlightKind) (request : Nat) :
    Withdraws s (s.marking n kind request) n c (some (kind.marked request)) := onContext_withdraws hc _

theorem withdraw_session (hf : c.inFlight = some { kind := .session, number := request, withdrawn := false }) :
    s.withdraw n request = (s.marking n .session request).withdrawSession n request := by
  simp [State.withdraw, hc, hf, State.marking, FlightKind.marked]

theorem withdraw_fare (hf : c.inFlight = some { kind := kind, number := request, withdrawn := false })
    (other : kind ≠ .session) : s.withdraw n request = (s.marking n kind request).withdrawFare n request := by
  cases kind with
  | session => exact absurd rfl other
  | quote | sale coins version => simp [State.withdraw, hc, hf, State.marking, FlightKind.marked]

/-- Wherever the work of the request stands, the withdrawal leaves all but it alone. -/
theorem withdraw_withdraws (hf : c.inFlight = some { kind := kind, number := request, withdrawn := false }) :
    ∃ flight, Withdraws s (s.withdraw n request) n c flight := by
  have marked := marking_withdraws hc kind request
  by_cases session : kind = .session
  · subst session
    rw [withdraw_session hc hf]
    obtain ⟨flight, after⟩ := withdrawSession_withdraws marked.context rfl rfl
    exact ⟨flight, marked.trans after⟩
  · rw [withdraw_fare hc hf session]
    obtain ⟨flight, after⟩ := withdrawFare_withdraws marked.context rfl rfl
    exact ⟨flight, marked.trans after⟩

/-- A QUOTE or SALE whose entry waits in the fare queue is removed with it (R36). -/
theorem withdraw_waiting_fare (hf : c.inFlight = some { kind := kind, number := request, withdrawn := false })
    (other : kind ≠ .session) (waits : s.fareWaits n request = true) :
    let t := s.withdraw n request
    t.permits = s.permits ∧ Withdraws s t n c none ∧ t.fare.computing = s.fare.computing ∧
      t.fare.queue = s.fare.queue.filter fun q => q.returnTo != .terminal n request := by
  have marked := marking_withdraws hc kind request
  rw [withdraw_fare hc hf other,
    withdrawFare_of_waits (s := s.marking n kind request) waits marked.context rfl rfl]
  have unqueued := unqueueFare_withdraws marked.context request
  exact ⟨rfl, marked.trans (unqueued.trans (onContext_withdraws unqueued.context none)), rfl, rfl⟩

/-- One whose entry waits no longer is marked, and the engine runs on (R36). -/
theorem withdraw_running_fare (hf : c.inFlight = some { kind := kind, number := request, withdrawn := false })
    (other : kind ≠ .session) (waits : s.fareWaits n request = false) :
    let t := s.withdraw n request
    t.permits = s.permits ∧ Withdraws s t n c (some (kind.marked request)) ∧ t.fare = s.fare := by
  rw [withdraw_fare hc hf other, (withdraw_of_not_waits (s := s.marking n kind request) waits).1]
  exact ⟨rfl, marking_withdraws hc kind request, rfl⟩

/-- A SESSION whose LOOKUP waits is removed with it (R90). -/
theorem withdraw_waiting_lookup (hf : c.inFlight = some { kind := .session, number := request, withdrawn := false })
    {ahead behind : List PermitOp} {q : Lookup} (queue : s.permits.queue = ahead ++ .lookup q :: behind)
    (hn : q.terminal = n) (hr : q.request = request)
    (others : ∀ o ∈ ahead ++ behind, ∀ p, o = .lookup p → ¬(p.terminal = n ∧ p.request = request)) :
    let t := s.withdraw n request
    Withdraws s t n c none ∧ t.fare = s.fare ∧
      t.permits = { s.permits with records := t.permits.records, queue := ahead ++ behind } ∧
      ∀ m, t.permit m = (s.permit m).map fun p => p.without (.session n request) := by
  have marked := marking_withdraws hc .session request
  have queued : (s.marking n .session request).permits.queue.any (·.isLookup n request) = true :=
    List.any_eq_true.mpr ⟨.lookup q, by simp [State.marking, queue], PermitOp.isLookup_iff.mpr ⟨q, rfl, hn, hr⟩⟩
  rw [withdraw_session hc hf, withdrawSession_queued queued, ← filter_lookup hn hr others, ← queue]
  have filtered (f : Permits → Permits) := marked.onPermits f
  exact ⟨(filtered _).trans (withdrawn_withdraws (filtered _).context request), rfl, rfl, permit_clearClaim _ _⟩

section NoLookupWaits
variable (hf : c.inFlight = some { kind := .session, number := request, withdrawn := false })
  (unqueued : ∀ o ∈ s.permits.queue, ∀ p, o = .lookup p → ¬(p.terminal = n ∧ p.request = request))
include hf unqueued

/-- A SESSION whose LOOKUP is in progress is marked, and so is the LOOKUP (R90). -/
theorem withdraw_working_lookup {q : Lookup} {marked : Bool} (working : s.permits.working = some (.lookup q marked))
    (hn : q.terminal = n) (hr : q.request = request) :
    let t := s.withdraw n request
    Withdraws s t n c (some (FlightKind.session.marked request)) ∧ t.fare = s.fare ∧
      t.permits = { s.permits with working := some (.lookup q true) } := by
  rw [withdraw_session hc hf, withdrawSession_working (s := s.marking n .session request)
    (no_lookup_waits_iff.mpr unqueued) working hn hr]
  exact ⟨(marking_withdraws hc .session request).onPermits _, rfl, rfl⟩

section NoLookup
variable (elsewhere : ∀ q marked, s.permits.working = some (.lookup q marked) →
  ¬(q.terminal = n ∧ q.request = request))
include elsewhere

theorem withdraw_walk : s.withdraw n request = (s.marking n .session request).withdrawWalk n request := by
  rw [withdraw_session hc hf]
  exact withdrawSession_walk (s := s.marking n .session request) (no_lookup_waits_iff.mpr unqueued) elsewhere

/-- A SESSION whose walk waits in the fare queue is removed with it, and its claim cleared (R36, R90). -/
theorem withdraw_waiting_walk (waits : s.fareWaits n request = true) :
    let t := s.withdraw n request
    Withdraws s t n c none ∧ t.fare.computing = s.fare.computing ∧
      t.fare.queue = s.fare.queue.filter (fun q => q.returnTo != .terminal n request) ∧
      t.permits = { s.permits with records := t.permits.records } ∧
      ∀ m, t.permit m = (s.permit m).map fun p => p.without (.session n request) := by
  have marked := marking_withdraws hc .session request
  rw [withdraw_walk hc hf unqueued elsewhere,
    withdrawWalk_of_waits (s := s.marking n .session request) waits marked.context rfl rfl]
  have removed := unqueueFare_withdraws marked.context request
  exact ⟨marked.trans (removed.trans (withdrawn_withdraws removed.context request)), rfl, rfl, rfl, permit_clearClaim _ _⟩

/-- One whose walk waits no longer is marked, and the engine runs on (R36, R90). -/
theorem withdraw_running_walk (waits : s.fareWaits n request = false) :
    let t := s.withdraw n request
    Withdraws s t n c (some (FlightKind.session.marked request)) ∧ t.fare = s.fare ∧ t.permits = s.permits := by
  rw [withdraw_walk hc hf unqueued elsewhere, (withdraw_of_not_waits (s := s.marking n .session request) waits).2]
  exact ⟨marking_withdraws hc .session request, rfl, rfl⟩

end NoLookup

end NoLookupWaits

end Mark

/-! ### The service limit (R148) -/

/-- The answer is sent at once when the turnaround has passed. -/
theorem Line.answer_sends {L : Line} (turned : L.turnaround = false) (e : Exchange) (number : Nat) (answer : Answer) :
    (L.answer e number answer).exchange = some { e with phase := .answer, answer := some (number, answer) } ∧
      (L.answer e number answer).driving = true := by
  simp [Line.answer, Line.transmit, turned]

theorem exec_serviceLimitExpiry {s : State} {l : LineNo} {e : Exchange} {request : Nat} {r : Option TermRequest}
    (on : s.mainSupply = true) (exchange : (s.line l).exchange = some e) (phase : e.phase = .engine)
    (taken : e.taken = some (.request request r)) :
    exec (.serviceLimitExpiry l) s =
      .next ((s.onLine l fun L => L.answer e request .busy).withdraw e.terminal request) := by
  simp [exec, execServiceLimitExpiry, State.working, on, State.serviceLimitOver, exchange, phase, Exchange.request, taken]

/-- At the completion of a marked LOOKUP no check is acted on (R90). -/
theorem exec_lookupComplete_marked {s : State} {q : Lookup} (on : s.mainSupply = true)
    (working : s.permits.working = some (.lookup q true)) (queue : s.permits.queue = []) :
    exec .lookupComplete s =
      .next ((s.withdrawn q.terminal q.request).onPermits fun t => { t with working := none }) := by
  have empty : (s.withdrawn q.terminal q.request).permits.queue = [] := queue
  simp [exec, execLookupComplete, State.working, on, State.completeLookup, working, State.nextOp, empty]

/-- Settles O58: BUSY is put on the line, and each clause reads the withdrawal where the request's work stands. -/
theorem serviceLimitWithdraws : Obligations.ServiceLimitWithdraws := by
  refine ⟨fun s l e c request r kind on exchange phase taken hc turned hf => ?_, fun s q c on working queue hc => ?_⟩
  · let u := s.onLine l fun L => L.answer e request .busy
    have hu : u.context e.terminal = some c := hc
    obtain ⟨flight, left⟩ := withdraw_withdraws hu hf
    obtain ⟨lines, cash, link, notices, store⟩ := left.only.store
    have line (m : LineNo) : (u.withdraw e.terminal request).line m = u.line m := congrArg (Vector.get · m) lines
    have onLine : u.line l = (s.line l).answer e request .busy := by simp [u]
    obtain ⟨answering, driving⟩ := Line.answer_sends turned e request .busy
    rw [← onLine, ← line] at answering driving
    refine ⟨_, _, exec_serviceLimitExpiry on exchange phase taken, left.context, answering, driving, rfl,
      ⟨left.others, fun m other => (line m).trans (onLine_line_ne s l m _ other)⟩, cash, link, notices, store, ?_, ?_⟩
    · intro other
      cases waits : s.fareWaits e.terminal request with
      | false =>
        obtain ⟨permits, marked, fare⟩ := withdraw_running_fare hu hf other waits
        exact ⟨permits, fun _ => ⟨left.flight_unique marked, fare⟩, nofun⟩
      | true =>
        obtain ⟨permits, removed, fare⟩ := withdraw_waiting_fare hu hf other waits
        exact ⟨permits, nofun, fun _ => ⟨left.flight_unique removed, fare⟩⟩
    · rintro rfl
      refine ⟨fun ahead q behind queue hn hr others => ?_, fun unqueued => ⟨fun q marked working hn hr => ?_,
        fun elsewhere => ⟨fun waits => ?_, fun waits => ?_⟩⟩⟩
      · obtain ⟨removed, rest⟩ := withdraw_waiting_lookup hu hf queue hn hr others
        exact ⟨left.flight_unique removed, rest⟩
      · obtain ⟨marked, rest⟩ := withdraw_working_lookup hu hf unqueued working hn hr
        exact ⟨left.flight_unique marked, rest⟩
      · obtain ⟨removed, rest⟩ := withdraw_waiting_walk hu hf unqueued elsewhere waits
        exact ⟨left.flight_unique removed, rest⟩
      · obtain ⟨marked, rest⟩ := withdraw_running_walk hu hf unqueued elsewhere waits
        exact ⟨left.flight_unique marked, rest⟩
  · have left := (withdrawn_withdraws hc q.request).onPermits fun t => { t with working := none }
    obtain ⟨lines, cash, link, notices, store⟩ := left.only.store
    exact ⟨_, exec_lookupComplete_marked on working queue, left.context, left.others, lines, rfl, permit_clearClaim _ _, rfl,
      cash, link, notices, store⟩

end Sys2Proof.Machine
end

section
/-! The invariant of O3 (R57, R76, R173): the contexts in ascending number, no notice kind twice, a terminal's entry exactly while
it has reports. What can change one of the three is said first: a change to contexts that keeps numbers and reports, a report, a
part-level notice, a terminal that comes or goes, a NOTICE TAKE. Every other operation is made of these. -/

namespace Sys2Proof.Machine

open Sys2Proof

/-! ### What changes contexts, reports and notices -/

/-- A change to every context that keeps its number and whether it has reports. -/
theorem map_contexts_noticesKept {s : State} (h : s.noticesKept) (f : Context → Context)
    (number : ∀ c, (f c).number = c.number) (reports : ∀ c, (f c).reports.isEmpty = c.reports.isEmpty) :
    ({ s with contexts := s.contexts.map f } : State).noticesKept := by
  obtain ⟨ascending, once, queued⟩ := h
  refine ⟨?_, once, fun n => (queued n).trans ?_⟩
  · show ((s.contexts.map f).map (·.number)).Pairwise (· < ·)
    rw [List.map_map, show (fun c : Context => c.number) ∘ f = fun c => c.number from funext number]
    exact ascending
  · have found : ({ s with contexts := s.contexts.map f } : State).context n = (s.context n).map f := by
      rw [State.context, List.find?_map]
      exact congrArg (fun p => (s.contexts.find? p).map f) (funext fun c => by simp [number])
    rw [found]
    cases s.context n <;> simp [reports]

/-- A change to one context that keeps its number and whether it has reports. -/
theorem onContext_noticesKept {s : State} (h : s.noticesKept) (n : Nat) (f : Context → Context)
    (number : ∀ c, (f c).number = c.number) (reports : ∀ c, (f c).reports.isEmpty = c.reports.isEmpty) :
    (s.onContext n f).noticesKept :=
  map_contexts_noticesKept h (fun c => if c.number = n then f c else c) (fun c => by split <;> simp [number])
    fun c => by split <;> simp [reports]

/-- The kinds in the queue after one more occurrence of a kind (R173). -/
theorem noticeList_kinds (kind : NoticeKind) (queue : List Notice) :
    (noticeList kind queue).map (·.kind) =
      if kind ∈ queue.map (·.kind) then queue.map (·.kind) else queue.map (·.kind) ++ [kind] := by
  induction queue with
  | nil => simp [noticeList]
  | cons x rest ih =>
    unfold noticeList
    split
    · rename_i same
      simp [same]
    · rename_i other
      simp only [List.map_cons, List.mem_cons, Ne.symm other, false_or, ih]
      split <;> simp

theorem exists_notice_iff (queue : List Notice) (kind : NoticeKind) :
    (∃ e ∈ queue, e.kind = kind) ↔ kind ∈ queue.map (·.kind) := List.mem_map.symm

/-- A part-level notice (R173). -/
theorem notice_noticesKept {s : State} (h : s.noticesKept) {kind : NoticeKind} (part : ∀ n, kind ≠ .terminal n) :
    (s.notice kind).noticesKept := by
  obtain ⟨ascending, once, queued⟩ := h
  have kinds : (s.notice kind).notices.map (·.kind) = _ := noticeList_kinds kind s.notices
  refine ⟨ascending, ?_, fun n => Iff.trans ?_ (queued n)⟩
  · rw [State.noticesOnce, kinds]
    split
    · exact once
    · rename_i fresh
      exact List.nodup_append.mpr ⟨once, by simp, fun x hx y hy same =>
        fresh (by rwa [← List.mem_singleton.mp hy, ← same])⟩
  · rw [exists_notice_iff, exists_notice_iff, kinds]
    split <;> simp [Ne.symm (part n)]

/-- Part-level entries that leave the queue untaken (R140, R176). -/
theorem dropNotices_noticesKept {s : State} (h : s.noticesKept) {gone : NoticeKind → Bool}
    (part : ∀ n, gone (.terminal n) = false) : (s.dropNotices gone).noticesKept := by
  obtain ⟨ascending, once, queued⟩ := h
  refine ⟨ascending, once.sublist (List.filter_sublist.map _), fun n => Iff.trans ⟨?_, ?_⟩ (queued n)⟩
  · rintro ⟨e, he, kind⟩
    exact ⟨e, (List.mem_filter.mp he).1, kind⟩
  · rintro ⟨e, he, kind⟩
    exact ⟨e, List.mem_filter.mpr ⟨he, by simp [kind, part]⟩, kind⟩

/-- A terminal's entry is not queued while its report set is empty. -/
theorem State.reportsQueued.unqueued {s : State} (h : s.reportsQueued) {n : Nat}
    (empty : ∀ c, s.context n = some c → c.reports.isEmpty = true) : NoticeKind.terminal n ∉ s.notices.map (·.kind) := by
  rw [← exists_notice_iff, h n]
  rintro ⟨c, hc, filled⟩
  simp [empty c hc] at filled

/-- The contexts after a report: one report set has changed (R76). -/
theorem report_contexts (s : State) (n : Nat) (add : ReportSet → ReportSet) :
    (s.report n add).contexts = s.contexts ∨
      (s.report n add).contexts = (s.onContext n fun c => { c with reports := add c.reports }).contexts := by
  unfold State.report
  split
  · exact .inl rfl
  · simp only
    split <;> exact .inr rfl

theorem report_keeps_numbers (s : State) (n : Nat) (add : ReportSet → ReportSet) :
    (s.report n add).contexts.map (·.number) = s.contexts.map (·.number) := by
  rcases report_contexts s n add with same | changed
  · rw [same]
  · rw [changed, State.onContext_contexts, List.map_map]
    exact List.map_congr_left fun c _ => by simp only [Function.comp]; split <;> rfl

/-- The queue after a report: the entry joins it when the report set was empty (R76). -/
theorem report_kinds {s : State} {n : Nat} {c : Context} (hc : s.context n = some c) {add : ReportSet → ReportSet}
    (fills : ∀ r, (add r).isEmpty = false) :
    (s.report n add).notices.map (·.kind) =
      if c.reports.isEmpty then s.notices.map (·.kind) ++ [.terminal n] else s.notices.map (·.kind) := by
  cases empty : c.reports.isEmpty <;> simp [State.report, hc, empty, fills, State.setNotices]

/-- A report keeps the invariant (R76). -/
theorem report_noticesKept {s : State} (h : s.noticesKept) (n : Nat) {add : ReportSet → ReportSet}
    (fills : ∀ r, (add r).isEmpty = false) : (s.report n add).noticesKept := by
  cases hc : s.context n with
  | none =>
    rw [State.report, hc]
    exact h
  | some c =>
    obtain ⟨ascending, once, queued⟩ := h
    have kinds := report_kinds hc fills
    refine ⟨by rw [State.contextsKept, report_keeps_numbers]; exact ascending, ?_, fun m => ?_⟩
    · rw [State.noticesOnce, kinds]
      split
      · rename_i empty
        have fresh := State.reportsQueued.unqueued queued (n := n) fun d hd => by simp_all
        exact List.nodup_append.mpr ⟨once, by simp, fun x hx y hy same =>
          fresh (by rwa [← List.mem_singleton.mp hy, ← same])⟩
      · exact once
    · rw [exists_notice_iff, kinds]
      by_cases own : m = n
      · subst own
        have told := (queued m).mpr
        rw [exists_notice_iff, hc] at told
        rw [report_context, hc]
        cases empty : c.reports.isEmpty with
        | true => simp [fills]
        | false => simpa [fills] using told ⟨c, rfl, empty⟩
      · rw [(report_touches s n add 0).contexts m own, ← queued m, exists_notice_iff]
        split <;> simp [own]

/-! ### A terminal that comes or goes (R57, R60, R62) -/

theorem mem_insertContext {c d : Context} {l : List Context} (h : d ∈ insertContext c l) : d = c ∨ d ∈ l := by
  induction l with
  | nil => simpa [insertContext] using h
  | cons x rest ih =>
    unfold insertContext at h
    split at h
    · simpa using h
    · rcases List.mem_cons.mp h with rfl | h
      · exact .inr List.mem_cons_self
      · exact (ih h).imp_right (List.mem_cons_of_mem _)

/-- A context of a number that none has goes in at its ascending place (R57, R60). -/
theorem insertContext_ascending {c : Context} {l : List Context} (h : (l.map (·.number)).Pairwise (· < ·))
    (fresh : ∀ d ∈ l, d.number ≠ c.number) : ((insertContext c l).map (·.number)).Pairwise (· < ·) := by
  rw [List.pairwise_map] at *
  induction l with
  | nil => simp [insertContext]
  | cons d rest ih =>
    obtain ⟨above, sorted⟩ := List.pairwise_cons.mp h
    unfold insertContext
    split
    · rename_i before
      refine List.pairwise_cons.mpr ⟨fun x hx => ?_, h⟩
      rcases List.mem_cons.mp hx with rfl | hx
      · exact before
      · exact before.trans (above x hx)
    · refine List.pairwise_cons.mpr ⟨fun x hx => ?_, ih sorted fun q hq => fresh q (List.mem_cons_of_mem _ hq)⟩
      rcases mem_insertContext hx with rfl | hx
      · have := fresh d List.mem_cons_self
        omega
      · exact above x hx

theorem State.context_eq_none_iff (s : State) (n : Nat) : s.context n = none ↔ ∀ c ∈ s.contexts, c.number ≠ n := by
  simp [State.context, List.find?_eq_none]

/-- The context looked for once a new one has been inserted. -/
theorem context_insertContext {s : State} {c : Context} (fresh : s.context c.number = none) (m : Nat) :
    ({ s with contexts := insertContext c s.contexts } : State).context m =
      if c.number = m then some c else s.context m := by
  rw [State.context_eq_none_iff] at fresh
  unfold State.context
  simp only
  generalize s.contexts = list at fresh ⊢
  induction list with
  | nil => by_cases own : c.number = m <;> simp [insertContext, own]
  | cons d rest ih =>
    have other := fresh d List.mem_cons_self
    have later := ih fun x hx => fresh x (List.mem_cons_of_mem _ hx)
    unfold insertContext
    by_cases own : c.number = m
    · subst own
      split <;> simp [other, later]
    · split <;> by_cases found : d.number = m <;> simp [found, later, own]

/-- The context looked for once the contexts of a number have been removed. -/
theorem context_removed (s : State) (n m : Nat) :
    ({ s with contexts := s.contexts.filter fun d => d.number != n } : State).context m =
      if m = n then none else s.context m := by
  unfold State.context
  simp only [List.find?_filter]
  split
  · rename_i own
    simp [own]
  · rename_i other
    refine congrArg (s.contexts.find? ·) (funext fun d => ?_)
    by_cases found : d.number = m <;> simp [found, other]

/-- A terminal comes with an empty report set and no entry. -/
theorem insertContext_noticesKept {s : State} (h : s.noticesKept) {c : Context} (fresh : s.context c.number = none)
    (empty : c.reports.isEmpty = true) : ({ s with contexts := insertContext c s.contexts } : State).noticesKept := by
  obtain ⟨ascending, once, queued⟩ := h
  refine ⟨insertContext_ascending ascending ((s.context_eq_none_iff _).mp fresh), once, fun m => (queued m).trans ?_⟩
  rw [context_insertContext fresh]
  split
  · rename_i own
    simp [← own, fresh, empty]
  · rfl

/-- A terminal goes, and its entry with it (R62, R176). -/
theorem deleteTerminal_noticesKept {s : State} (h : s.noticesKept) (c : Context) : (s.deleteTerminal c).noticesKept := by
  obtain ⟨ascending, once, queued⟩ := h
  refine ⟨ascending.sublist (List.filter_sublist.map _), once.sublist (List.filter_sublist.map _), fun m => ?_⟩
  have context : (s.deleteTerminal c).context m = if m = c.number then none else s.context m := context_removed s c.number m
  have entries : (∃ e ∈ (s.deleteTerminal c).notices, e.kind = .terminal m) ↔
      m ≠ c.number ∧ ∃ e ∈ s.notices, e.kind = .terminal m := by
    show (∃ e ∈ s.notices.filter fun e => !(e.kind == NoticeKind.terminal c.number), e.kind = .terminal m) ↔ _
    constructor
    · rintro ⟨e, he, kind⟩
      obtain ⟨listed, stays⟩ := List.mem_filter.mp he
      exact ⟨by simpa [kind] using stays, e, listed, kind⟩
    · rintro ⟨other, e, he, kind⟩
      exact ⟨e, List.mem_filter.mpr ⟨he, by simpa [kind] using other⟩, kind⟩
  rw [context, entries, queued m]
  split
  · rename_i own
    simp [own]
  · rename_i other
    simp [other]

/-! ### Entries taken and emptied (R77, R78, R175) -/

/-- The oldest entry is taken, a terminal's with its reports. -/
theorem emptyReports_noticesKept {s : State} (h : s.noticesKept) {e : Notice} {rest : List Notice}
    (oldest : s.notices = e :: rest) : ((s.setNotices rest).emptyReports e.kind).noticesKept := by
  obtain ⟨ascending, once, queued⟩ := h
  rw [State.noticesOnce, oldest, List.map_cons, List.nodup_cons] at once
  obtain ⟨fresh, once⟩ := once
  have part (other : ∀ n, e.kind ≠ .terminal n) : (s.setNotices rest).noticesKept := by
    refine ⟨ascending, once, fun n => Iff.trans ?_ (queued n)⟩
    rw [oldest]
    simp [State.setNotices, other n]
  cases kind : e.kind with
  | terminal n =>
    have taken : (s.setNotices rest).context n = s.context n := rfl
    refine ⟨?_, once, fun m => ?_⟩
    · show ((s.contexts.map _).map _).Pairwise _
      rw [List.map_map, List.map_congr_left (g := fun c => c.number)
        fun c _ => by simp only [Function.comp]; split <;> rfl]
      exact ascending
    · show (∃ x ∈ rest, x.kind = .terminal m) ↔ _
      simp only [State.emptyReports]
      rw [State.context_onContext _ _ _ _ (by intro _; rfl)]
      by_cases own : m = n
      · subst own
        have gone : ¬∃ x ∈ rest, x.kind = .terminal m := by
          rw [exists_notice_iff, ← kind]
          exact fresh
        simp only [gone, false_iff, Option.map_eq_some_iff]
        rintro ⟨c, ⟨d, hd, rfl⟩, filled⟩
        rw [if_pos (State.context_number hd)] at filled
        simp [ReportSet.isEmpty, ReportSet.empty] at filled
      · have others : (∃ x ∈ rest, x.kind = .terminal m) ↔ ∃ x ∈ s.notices, x.kind = .terminal m := by
          simp [oldest, kind, Ne.symm own]
        rw [others, queued m, State.context_setNotices]
        cases hc : s.context m with
        | none => rfl
        | some c => simp [State.context_number hc, own]
  | sweepComplete l | paceOverrun l | switchover | referrals | roundComplete =>
    exact part fun n => by rw [kind]; nofun

/-- A POWER start empties every report set and the queue (R78, R180). -/
theorem emptied_noticesKept {s : State} (ascending : s.contextsKept) : s.emptied.noticesKept := by
  refine ⟨?_, List.nodup_nil, fun n => ⟨?_, ?_⟩⟩
  · show ((s.contexts.map fun c => { c with reports := ReportSet.empty, events := [] }).map (·.number)).Pairwise (· < ·)
    rw [List.map_map]
    exact ascending
  · rintro ⟨e, he, -⟩
    nomatch he
  · rintro ⟨c, hc, filled⟩
    obtain ⟨d, -, rfl⟩ := List.mem_map.mp (List.mem_of_find?_eq_some hc)
    simp [ReportSet.isEmpty, ReportSet.empty] at filled

/-! ### The shared operations -/

theorem beginDirected_noticesKept {s : State} (h : s.noticesKept) (l : LineNo) (c : Context) (kind : OrderKind) :
    (s.beginDirected l c kind).noticesKept := by
  cases kind <;> exact h

theorem entryEnded_noticesKept {s : State} (h : s.noticesKept) (l : LineNo) : (s.entryEnded l).noticesKept := by
  unfold State.entryEnded
  simp only
  split
  · exact notice_noticesKept (s := s.onLine l _) h nofun
  · exact h

/-- A choice notes a SWEEP COMPLETE at most. -/
theorem chooseWith_noticesKept (fuel : Nat) {s : State} (h : s.noticesKept) (l : LineNo) :
    (s.chooseWith fuel l).noticesKept := by
  induction fuel generalizing s with
  | zero => exact h
  | succ fuel ih =>
    unfold State.chooseWith
    simp only
    split
    · split
      · exact h
      · exact ih (s := s.onLine l _) h
    · split
      · split
        · exact beginDirected_noticesKept (s := s.onLine l _) h _ _ _
        · exact ih (s := s.onLine l _) h
      · split
        · split
          · split
            · exact ih (notice_noticesKept (s := s.onLine l _) h nofun)
            · exact h
          · have taken : (s.onLine l fun L => L.takeEntry s.elapsed).noticesKept := h
            split
            · exact ih (entryEnded_noticesKept taken l)
            · split
              · exact ih (entryEnded_noticesKept taken l)
              · exact h
        · exact h

theorem choose_noticesKept {s : State} (h : s.noticesKept) (l : LineNo) : (s.choose l).noticesKept :=
  chooseWith_noticesKept _ h l

theorem chooseIfIdle_noticesKept {s : State} (h : s.noticesKept) (l : LineNo) : (s.chooseIfIdle l).noticesKept := by
  unfold State.chooseIfIdle
  split
  · exact choose_noticesKept h l
  · exact h

theorem paceEvent_noticesKept {s : State} (h : s.noticesKept) (l : LineNo) : (s.paceEvent l).noticesKept := by
  unfold State.paceEvent
  split
  · exact chooseIfIdle_noticesKept (s := s.onLine l _) h l
  · exact notice_noticesKept h nofun

theorem handAnswer_noticesKept {s : State} (h : s.noticesKept) (n request : Nat) (answer : Answer) :
    (s.handAnswer n request answer).noticesKept := by
  unfold State.handAnswer
  repeat' split
  all_goals exact h

theorem owe_noticesKept {s : State} (h : s.noticesKept) (n : Nat) (kind : OrderKind) : (s.owe n kind).noticesKept :=
  onContext_noticesKept h n _ (by intro _; rfl) (by intro _; rfl)

theorem askOrder_noticesKept {s : State} (h : s.noticesKept) (n : Nat) (kind : OrderKind) :
    (s.askOrder n kind).noticesKept := by
  unfold State.askOrder
  split
  · exact h
  · rename_i c _
    simp only
    have owed := owe_noticesKept h n kind
    split
    · exact h
    · split
      · exact h
      · split
        · exact owed
        · split
          · exact owed
          · split
            · exact owed
            · exact chooseIfIdle_noticesKept (s := s.onLine c.line _) h _

theorem foldl_noticesKept {op : State → Nat → State} (keeps : ∀ {s : State}, s.noticesKept → ∀ n, (op s n).noticesKept)
    (numbers : List Nat) {s : State} (h : s.noticesKept) : (numbers.foldl op s).noticesKept := by
  induction numbers generalizing s with
  | nil => exact h
  | cons n rest ih => exact ih (keeps h n)

theorem askAll_noticesKept {s : State} (h : s.noticesKept) (kind : OrderKind) : (s.askAll kind).noticesKept :=
  foldl_noticesKept (fun h n => askOrder_noticesKept h n kind) _ h

theorem queueOwedKind_noticesKept {s : State} (h : s.noticesKept) (n : Nat) (kind : OrderKind) :
    (s.queueOwedKind n kind).noticesKept := by
  have met : (s.onContext n fun c => { c with owed := c.owed.set kind false }).noticesKept :=
    onContext_noticesKept h n _ (by intro _; rfl) (by intro _; rfl)
  unfold State.queueOwedKind
  split
  · exact h
  · simp only
    split
    · split
      · exact met
      · split
        · exact met
        · exact h
    · exact h

theorem queueOwed_noticesKept {s : State} (h : s.noticesKept) (n : Nat) : (s.queueOwed n).noticesKept :=
  queueOwedKind_noticesKept (queueOwedKind_noticesKept (queueOwedKind_noticesKept (queueOwedKind_noticesKept h n _) n _) n _) n _

/-- An act keeps the invariant when its change keeps the number and the reports. -/
theorem act_noticesKept {s : State} (h : s.noticesKept) (n : Nat) {f : Context → Context}
    (number : ∀ c, (f c).number = c.number) (reports : ∀ c, (f c).reports = c.reports) : (s.act n f).noticesKept := by
  have changed := onContext_noticesKept h n f number fun c => by rw [reports]
  unfold State.act
  simp only
  split
  · exact changed
  · exact askOrder_noticesKept (report_noticesKept changed n fun _ => rfl) n _

theorem endExchange_noticesKept {s : State} (h : s.noticesKept) (l : LineNo) (goodPoll : Option Nat) :
    (s.endExchange l goodPoll).noticesKept := by
  unfold State.endExchange
  simp only
  split
  · split
    · exact owe_noticesKept (s := (s.onLine l _).onLine l _) h _ _
    · exact h
  · refine choose_noticesKept (entryEnded_noticesKept ?_ l) l
    split
    · exact queueOwed_noticesKept (s := s.onLine l _) h _
    · exact h

theorem failedFrame_noticesKept {s : State} (h : s.noticesKept) (l : LineNo) (e : Exchange) :
    (s.failedFrame l e).noticesKept := by
  unfold State.failedFrame
  split
  · exact h
  · exact owe_noticesKept h _ _
  · exact owe_noticesKept h _ _
  · exact owe_noticesKept h _ _
  · exact owe_noticesKept (s := s.onLine l _) h _ _
  · exact h

theorem noReply_noticesKept {s : State} (h : s.noticesKept) (l : LineNo) (e : Exchange) (again : Line → Line) :
    (s.noReply l e again).noticesKept := by
  unfold State.noReply
  split
  · exact h
  · have counted : (s.onContext e.terminal fun c =>
        { c with errors := { c.errors with noReply := countUp Config.counterHold c.errors.noReply } }).noticesKept :=
      onContext_noticesKept h _ _ (by intro _; rfl) (by intro _; rfl)
    exact endExchange_noticesKept
      (failedFrame_noticesKept (act_noticesKept counted _ (by intro _; rfl) (by intro _; rfl)) l e) l none

theorem finish_noticesKept {s : State} (h : s.noticesKept) (n request : Nat) (answer : Answer) :
    (s.finish n request answer).noticesKept :=
  handAnswer_noticesKept (onContext_noticesKept h n _ (by intro _; rfl) (by intro _; rfl)) _ _ _

theorem hold_noticesKept {s : State} (h : s.noticesKept) (n : Nat) (held : HeldResult) : (s.hold n held).noticesKept :=
  askOrder_noticesKept (onContext_noticesKept h n _ (by intro _; rfl) (by intro _; rfl)) n _

theorem rejectFrame_noticesKept {s : State} (h : s.noticesKept) (l : LineNo) (e : Exchange)
    (count : ErrorCounters → ErrorCounters) : (s.rejectFrame l e count).noticesKept :=
  noReply_noticesKept (onContext_noticesKept (s := s.onLine l _) h _ _ (by intro _; rfl) (by intro _; rfl)) l e _

theorem goodFrame_noticesKept {s : State} (h : s.noticesKept) (l : LineNo) (n : Nat) : (s.goodFrame l n).noticesKept :=
  act_noticesKept (s := s.onLine l _) h n (by intro _; rfl) (by intro _; rfl)

theorem placeFare_noticesKept {s : State} (h : s.noticesKept) (e : FareEntry) : (s.placeFare e).noticesKept := by
  rw [placeFare_eq]
  exact h

/-! ### Banks, clock and starts -/

theorem switchover_noticesKept {s : State} (h : s.noticesKept) : s.switchover.noticesKept :=
  notice_noticesKept (askAll_noticesKept (s := s.onTariffs Tariffs.switch) h _) nofun

theorem presentMinute_noticesKept {s : State} (h : s.noticesKept) : s.presentMinute.noticesKept := by
  unfold State.presentMinute
  split
  · exact h
  · split
    · exact h
    · exact switchover_noticesKept h

theorem secondsEvent_noticesKept {s : State} (h : s.noticesKept) : s.secondsEvent.noticesKept := by
  unfold State.secondsEvent
  split
  · have ticked : s.scanAlong.tick.noticesKept := h
    simp only
    split
    · exact presentMinute_noticesKept ticked
    · exact ticked
  · split <;> exact h

theorem reportChanged_noticesKept {after : State} (h : after.noticesKept) (s : State) :
    (after.reportChanged s).noticesKept :=
  foldl_noticesKept (fun h n => report_noticesKept h n fun _ => rfl) _ h

theorem restarted_noticesKept {s : State} (h : s.noticesKept) (kind : StartKind) : (s.restarted kind).noticesKept :=
  map_contexts_noticesKept h (fun c => c.restart (s.line c.line)) (fun _ => rfl) fun _ => rfl

theorem powerStart_noticesKept {s : State} (h : s.noticesKept) : s.powerStart.noticesKept := by
  have up := reportChanged_noticesKept (emptied_noticesKept (restarted_noticesKept h .power).1) s
  unfold State.powerStart
  simp only
  split
  · exact presentMinute_noticesKept up
  · exact up

theorem warmStart_noticesKept {s : State} (h : s.noticesKept) : s.warmStart.noticesKept :=
  reportChanged_noticesKept (restarted_noticesKept h .warm) s

theorem coldStart_noticesKept (s : State) : s.coldStart.noticesKept :=
  ⟨List.Pairwise.nil, List.nodup_nil, fun _ =>
    ⟨fun ⟨_, listed, _⟩ => absurd listed List.not_mem_nil,
      fun ⟨_, found, _⟩ => absurd found (Option.some_ne_none _).symm⟩⟩

/-! ### The Permit Table -/

theorem dropReferral_noticesKept {s : State} (h : s.noticesKept) (r : Referral) : (s.dropReferral r).noticesKept :=
  onContext_noticesKept (s := s.onPermits _) h _ _ (by intro _; split <;> rfl) (by intro _; split <;> rfl)

theorem refuseReferral_noticesKept {s : State} (h : s.noticesKept) (r : Referral) (reason : Reason) :
    (s.refuseReferral r reason).noticesKept := dropReferral_noticesKept (hold_noticesKept h _ _) r

theorem withdrawn_noticesKept {s : State} (h : s.noticesKept) (n request : Nat) : (s.withdrawn n request).noticesKept :=
  onContext_noticesKept (s := s.scanAlong) h n (fun c => { c with inFlight := none }) (by intro _; rfl) (by intro _; rfl)

theorem refer_noticesKept {s : State} (h : s.noticesKept) (l : Lookup) : (s.refer l).noticesKept := by
  unfold State.refer
  split
  · exact finish_noticesKept h _ _ _
  · refine notice_noticesKept (finish_noticesKept ?_ _ _ _) nofun
    exact onContext_noticesKept (s := s.onPermits _) h _ _ (by intro _; rfl) (by intro _; rfl)

theorem lookupChecks_noticesKept {s : State} (h : s.noticesKept) (l : Lookup) : (s.lookupChecks l).noticesKept := by
  have refused (reason : Reason) := finish_noticesKept h l.terminal l.request (.refused reason)
  unfold State.lookupChecks
  simp only
  split
  · exact refused _
  · split
    · exact refused _
    · split
      · split
        · exact refer_noticesKept h l
        · exact refused _
      · split
        · exact refused _
        · exact placeFare_noticesKept (s := s.onPermit _ _) h _

theorem beginAnswer_noticesKept {s : State} (h : s.noticesKept) (number : Nat) (decision : Decision) :
    (s.beginAnswer number decision).noticesKept := by
  unfold State.beginAnswer
  split
  · exact h
  · split
    · exact h
    · split
      · exact refuseReferral_noticesKept (s := s.recordDecision _ _) h _ _
      · unfold State.grantOnce
        split
        · exact h
        · exact placeFare_noticesKept (s := s.recordDecision _ _) h _
      · split <;> exact h

theorem beginOp_noticesKept {s : State} (h : s.noticesKept) (op : PermitOp) : (s.beginOp op).noticesKept := by
  cases op with
  | lookup l => exact h
  | load records => unfold State.beginOp; simp only; split <;> exact h
  | change c =>
    unfold State.beginOp State.beginChange
    simp only
    split
    · exact h
    · split <;> exact h
  | drop number => unfold State.beginOp; simp only; split <;> exact h
  | get number => unfold State.beginOp; simp only; split <;> exact h
  | scan first count => exact h
  | answer referral decision => exact beginAnswer_noticesKept h referral decision

theorem placeOp_noticesKept {s : State} (h : s.noticesKept) (op : PermitOp) : (s.placeOp op).noticesKept := by
  unfold State.placeOp
  split
  · exact beginOp_noticesKept h op
  · exact h

theorem nextOp_noticesKept {s : State} (h : s.noticesKept) : s.nextOp.noticesKept := by
  unfold State.nextOp
  split
  · exact h
  · exact beginOp_noticesKept (s := s.onPermits _) h _

theorem loadRecord_noticesKept {s : State} (h : s.noticesKept) (f : PermitFields) : (s.loadRecord f).noticesKept := by
  unfold State.loadRecord
  split <;> exact h

theorem loadAll_noticesKept {s : State} (h : s.noticesKept) (records : List PermitFields) (inserted replaced : Nat) :
    (s.loadAll records inserted replaced).1.noticesKept := by
  induction records generalizing s inserted replaced with
  | nil => exact h
  | cons f rest ih =>
    unfold State.loadAll
    split <;> exact ih (loadRecord_noticesKept h f) _ _

theorem grantChecks_noticesKept {s : State} (h : s.noticesKept) (number : Nat) (record : PermitFields) :
    (s.grantChecks number record).noticesKept := by
  unfold State.grantChecks
  split
  · exact h
  · split
    · split
      · exact refuseReferral_noticesKept h _ _
      · exact placeFare_noticesKept (s := s.onPermit _ _) h _
    · exact dropReferral_noticesKept h _

theorem completeOp_noticesKept {s : State} (h : s.noticesKept) : s.completeOp.noticesKept := by
  unfold State.completeOp
  split
  · exact h
  · exact h
  · exact nextOp_noticesKept (s := s.reply _) h
  · exact nextOp_noticesKept (s := s.completeScan _ _) h
  · exact nextOp_noticesKept (s := State.done _ _) (loadAll_noticesKept h _ _ _)
  · refine nextOp_noticesKept (s := State.done _ _) (grantChecks_noticesKept ?_ _ _)
    split
    · exact h
    · exact loadRecord_noticesKept h _

theorem insertStep_noticesKept {s : State} (h : s.noticesKept) : s.insertStep.noticesKept := by
  unfold State.insertStep
  split
  · split <;> exact loadRecord_noticesKept h _
  · exact loadRecord_noticesKept h _
  · exact h

theorem completeLookup_noticesKept {s : State} (h : s.noticesKept) : s.completeLookup.noticesKept := by
  unfold State.completeLookup
  split
  · refine nextOp_noticesKept ?_
    split
    · exact withdrawn_noticesKept h _ _
    · exact lookupChecks_noticesKept h _
  · exact h

theorem expireReferral_noticesKept {s : State} (h : s.noticesKept) (number : Nat) :
    (s.expireReferral number).noticesKept := by
  unfold State.expireReferral
  split
  · exact h
  · split
    · exact h
    · exact refuseReferral_noticesKept h _ _

/-! ### Results and withdrawals -/

theorem commitSession_noticesKept {s : State} (h : s.noticesKept) (c : Context) (r : FareResult) (f : Figures) (once : Bool) :
    (s.commitSession c r f once).noticesKept := by
  have charged : (s.charged c r f once).noticesKept := by
    unfold State.charged
    split <;> exact h
  exact act_noticesKept charged c.number (by intro _; rfl) (by intro _; rfl)

theorem takeSession_noticesKept {s : State} (h : s.noticesKept) (c : Context) (flight : InFlight) (r : FareResult)
    (version : Nat) (walk : Walk) : (s.takeSession c flight r version walk).noticesKept := by
  unfold State.takeSession
  split
  · exact finish_noticesKept h _ _ _
  · exact finish_noticesKept (onContext_noticesKept (commitSession_noticesKept h c r _ false) _ _ (by intro _; rfl)
      (by intro _; rfl)) _ _ _

theorem commitSale_noticesKept {s : State} (h : s.noticesKept) (c : Context) (flight : InFlight) (coins : Coins)
    (quoteVersion : Option Nat) (r : FareResult) (version : Nat) (f : Figures) :
    (s.commitSale c flight coins quoteVersion r version f).noticesKept :=
  finish_noticesKept (onContext_noticesKept (act_noticesKept h _ (by intro _; rfl) (by intro _; rfl)) _ _ (by intro _; rfl)
    (by intro _; rfl)) _ _ _

theorem takeSale_noticesKept {s : State} (h : s.noticesKept) (c : Context) (flight : InFlight) (coins : Coins)
    (quoteVersion : Option Nat) (r : FareResult) (version : Nat) (walk : Walk) :
    (s.takeSale c flight coins quoteVersion r version walk).noticesKept := by
  unfold State.takeSale
  split
  · split
    · exact finish_noticesKept h _ _ _
    · exact commitSale_noticesKept h _ _ _ _ _ _ _
  · split
    · exact finish_noticesKept h _ _ _
    · exact h

theorem takeTerminal_noticesKept {s : State} (h : s.noticesKept) (n request : Nat) (r : FareResult) :
    (s.takeTerminal n request r).noticesKept := by
  unfold State.takeTerminal
  split
  · exact h
  · split
    · exact h
    · split
      · exact h
      · split
        · split
          · exact finish_noticesKept h _ _ _
          · exact takeSale_noticesKept h _ _ _ _ _ _ _
          · exact takeSession_noticesKept h _ _ _ _ _
        · exact onContext_noticesKept h _ _ (by intro _; rfl) (by intro _; rfl)

theorem takeClaimed_noticesKept {s : State} (h : s.noticesKept) (n request : Nat) (r : FareResult) :
    (s.takeClaimed n request r).noticesKept := takeTerminal_noticesKept (s := s.scanAlong) h n request r

theorem takeReferral_noticesKept {s : State} (h : s.noticesKept) (number : Nat) (r : FareResult) (version : Nat)
    (walk : Walk) : (s.takeReferral number r version walk).noticesKept := by
  unfold State.takeReferral
  split
  · exact h
  · refine dropReferral_noticesKept (s := State.clearClaim _ _) ?_ _
    split
    · exact h
    · split
      · exact hold_noticesKept h _ _
      · exact hold_noticesKept (commitSession_noticesKept h _ _ _ _) _ _

theorem computationComplete_noticesKept {s : State} (h : s.noticesKept) : s.computationComplete.noticesKept := by
  have delivered (r : FareResult) : (s.deliver r).noticesKept := by
    unfold State.deliver
    split
    · split
      · exact takeClaimed_noticesKept h _ _ _
      · exact takeTerminal_noticesKept h _ _ _
    · exact takeReferral_noticesKept (s := s.scanAlong) h _ _ _ _
    · exact h
    · exact h
  unfold State.computationComplete
  split
  · exact h
  · rename_i k _
    obtain ⟨fare, served⟩ := serveFare_eq (s.deliver k.result)
    rw [served]
    exact delivered k.result

theorem withdraw_noticesKept {s : State} (h : s.noticesKept) (n request : Nat) : (s.withdraw n request).noticesKept := by
  have fare {u : State} (h : u.noticesKept) : (u.withdrawFare n request).noticesKept := by
    unfold State.withdrawFare
    split
    · exact takeTerminal_noticesKept (s := u.unqueueFare n request) h _ _ _
    · exact h
  have walk {u : State} (h : u.noticesKept) : (u.withdrawWalk n request).noticesKept := by
    unfold State.withdrawWalk
    split
    · exact takeClaimed_noticesKept (s := u.unqueueFare n request) h _ _ _
    · exact h
  have session {u : State} (h : u.noticesKept) : (u.withdrawSession n request).noticesKept := by
    unfold State.withdrawSession
    split
    · exact withdrawn_noticesKept (s := u.onPermits _) h n request
    · split
      · split
        · exact h
        · exact walk h
      · exact walk h
  unfold State.withdraw
  split
  · exact h
  · rename_i flight _
    split
    · have marked : (s.onContext n fun c => { c with inFlight := some { flight with withdrawn := true } }).noticesKept :=
        onContext_noticesKept h n _ (by intro _; rfl) (by intro _; rfl)
      simp only
      split
      · exact session marked
      · exact fare marked
      · exact fare marked
    · exact h

/-! ### What a terminal sends -/

theorem cancelRequest_noticesKept {s : State} (h : s.noticesKept) (n request : Nat) :
    (s.cancelRequest n request).noticesKept := by
  unfold State.cancelRequest
  split
  · exact handAnswer_noticesKept (dropReferral_noticesKept h _) _ _ _
  · exact handAnswer_noticesKept h _ _ _

theorem implicitCancel_noticesKept {s : State} (h : s.noticesKept) (n : Nat) : (s.implicitCancel n).noticesKept := by
  unfold State.implicitCancel
  split
  · exact dropReferral_noticesKept h _
  · exact h

theorem serveRequest_noticesKept {s : State} (h : s.noticesKept) (c : Context) (number : Nat) (request : TermRequest) :
    (s.serveRequest c number request).noticesKept := by
  have flies (kind : FlightKind) : (s.setInFlight c.number kind number).noticesKept :=
    onContext_noticesKept h c.number _ (by intro _; rfl) (by intro _; rfl)
  cases request with
  | quote amount => exact placeFare_noticesKept (flies _) _
  | sale coins version =>
    simp only [State.serveRequest]
    split
    · exact handAnswer_noticesKept h _ _ _
    · exact placeFare_noticesKept (flies _) _
  | session permit minutes =>
    simp only [State.serveRequest]
    split
    · exact handAnswer_noticesKept h _ _ _
    · exact placeOp_noticesKept (flies _) _
  | cancel => exact cancelRequest_noticesKept h _ _

theorem takeRequest_noticesKept {s : State} (h : s.noticesKept) (n number : Nat) (request : Option TermRequest) :
    (s.takeRequest n number request).noticesKept := by
  have answered (answer : Answer) := handAnswer_noticesKept h n number answer
  unfold State.takeRequest
  split
  · exact h
  · split
    · exact answered _
    · split
      · exact answered _
      · split
        · exact cancelRequest_noticesKept h _ _
        · split
          · exact serveRequest_noticesKept h _ _ _
          · split
            · exact answered _
            · exact serveRequest_noticesKept (implicitCancel_noticesKept h n) _ _ _

theorem doorOpened_noticesKept {s : State} (h : s.noticesKept) (n : Nat) (code : Option Nat) :
    (s.doorOpened n code).noticesKept := by
  have forced : (s.act n fun c => { c with faults := { c.faults with forcedDoor := true } }).noticesKept :=
    act_noticesKept h n (by intro _; rfl) (by intro _; rfl)
  unfold State.doorOpened
  simp only
  split
  · exact forced
  · split
    · exact act_noticesKept (s := s.onCash _) h n (by intro _; rfl) (by intro _; rfl)
    · exact forced

theorem boxLifted_noticesKept {s : State} (h : s.noticesKept) (n : Nat) : (s.boxLifted n).noticesKept := by
  unfold State.boxLifted
  split
  · exact h
  · refine act_noticesKept ?_ n (by intro _; rfl) (by intro _; rfl)
    split <;> exact h

theorem collectionEnded_noticesKept {s : State} (h : s.noticesKept) (n : Nat) : (s.collectionEnded n).noticesKept := by
  have look {u : State} (h : u.noticesKept) (number : Nat) : (u.lookAtRound number).noticesKept := by
    unfold State.lookAtRound
    split
    · exact h
    · split
      · exact notice_noticesKept (s := u.onCash _) h nofun
      · exact h
  unfold State.collectionEnded
  split
  · exact h
  · split
    · exact h
    · exact look (act_noticesKept h n (by intro _; rfl) (by intro _; rfl)) _

theorem Context.sense_kept (defaults : Thresholds) (event : Event) (c : Context) :
    (c.sense defaults event).number = c.number ∧ (c.sense defaults event).reports = c.reports := by
  cases event <;> exact ⟨rfl, rfl⟩

theorem handEvent_noticesKept {s : State} (h : s.noticesKept) (n : Nat) (event : Event) :
    (s.handEvent n event).noticesKept := by
  have sensed : (s.act n fun c => c.sense s.defaults event).noticesKept :=
    act_noticesKept h n (fun c => (c.sense_kept s.defaults event).1) fun c => (c.sense_kept s.defaults event).2
  cases event
  case doorOpen code => exact doorOpened_noticesKept h n code
  case doorClosed => exact collectionEnded_noticesKept h n
  case boxReplaced => exact boxLifted_noticesKept h n
  all_goals exact sensed

/-- A member joins a report set: it is not empty then. -/
theorem ReportSet.filled (r : ReportSet) :
    ({ r with events := true } : ReportSet).isEmpty = false ∧ ({ r with held := true } : ReportSet).isEmpty = false ∧
      ({ r with plate := true } : ReportSet).isEmpty = false := by
  simp [ReportSet.isEmpty]

theorem takeEvent_noticesKept {s : State} (h : s.noticesKept) (n number : Nat) (event : Event) :
    (s.takeEvent n number event).1.noticesKept := by
  unfold State.takeEvent
  split
  · exact h
  · split
    · exact h
    · split
      · exact report_noticesKept (onContext_noticesKept (handEvent_noticesKept h n event) n _ (by intro _; rfl)
          (by intro _; rfl)) n fun r => r.filled.1
      · exact report_noticesKept h n fun r => r.filled.2.1

theorem ackOrder_noticesKept {s : State} (h : s.noticesKept) (l : LineNo) (n : Nat) (content : OrderContent) :
    (s.ackOrder l n content).noticesKept := by
  cases content with
  | condition _ _ => exact h
  | clock _ => exact h
  | message _ => exact h
  | result held => exact onContext_noticesKept h n _ (by intro _; split <;> rfl) (by intro _; split <;> rfl)
  | plate block plate =>
    simp only [State.ackOrder]
    split
    · exact report_noticesKept (onContext_noticesKept (s := s.onLine l _) h n _ (by intro _; rfl) (by intro _; rfl)) n
        fun r => r.filled.2.2
    · exact h

theorem handFrame_noticesKept {s : State} (h : s.noticesKept) (l : LineNo) (e : Exchange) (frame : TermFrame) :
    (s.handFrame l e frame).noticesKept := by
  cases frame with
  | idle => exact endExchange_noticesKept h _ _
  | request number request => exact takeRequest_noticesKept (s := s.onLine l _) h _ _ _
  | event number event => exact takeEvent_noticesKept h e.terminal number event
  | ack body =>
    simp only [State.handFrame]
    split
    · exact endExchange_noticesKept (ackOrder_noticesKept h _ _ _) _ _
    · exact h
  | unknown => exact h

theorem frameDiscarded_noticesKept {s : State} (h : s.noticesKept) (l : LineNo) : (s.frameDiscarded l).noticesKept := by
  unfold State.frameDiscarded State.discardFrame
  split
  · split <;> exact h
  · exact h

theorem received_noticesKept {s : State} (h : s.noticesKept) (l : LineNo) (drop : Nat) (frame : TermFrame) :
    (s.received l drop frame).noticesKept := by
  unfold State.received State.discardFrame
  split
  · split <;> exact h
  · split
    · exact handFrame_noticesKept (goodFrame_noticesKept h _ _) _ _ _
    · exact rejectFrame_noticesKept h _ _ _

theorem receivedRaw_noticesKept {s : State} (h : s.noticesKept) (l : LineNo) (received : List RxChar) :
    (s.receivedRaw l received).noticesKept := by
  unfold State.receivedRaw State.discardFrame
  split
  · split <;> exact h
  · simp only
    split
    · exact rejectFrame_noticesKept h _ _ _
    · split
      · exact rejectFrame_noticesKept h _ _ _
      · exact received_noticesKept h _ _ _

/-! ### The lines -/

theorem sweep_noticesKept {s : State} (h : s.noticesKept) (l : LineNo) : (s.sweep l).noticesKept := by
  have effect (d : Disposition) : (s.sweepEffect l d).noticesKept := by
    cases d with
    | none => exact h
    | started => exact chooseIfIdle_noticesKept (s := s.onLine l _) h l
    | leg => exact paceEvent_noticesKept h l
    | overrun => exact paceEvent_noticesKept h l
  exact effect _

theorem lineStart_noticesKept {s : State} (h : s.noticesKept) (l : LineNo) : (s.lineStart l).noticesKept := by
  unfold State.lineStart
  split
  · exact h
  · exact choose_noticesKept (dropNotices_noticesKept (s := s.onLine l _) h fun _ => rfl) l

theorem lineStop_noticesKept {s : State} (h : s.noticesKept) (l : LineNo) : (s.lineStop l).noticesKept := by
  unfold State.lineStop
  split
  · exact h
  · exact map_contexts_noticesKept h (fun c => { c with owed := c.owed.take (s.line l) c.number }) (fun _ => rfl) fun _ => rfl

theorem paceTick_noticesKept {s : State} (h : s.noticesKept) (l : LineNo) : (s.paceTick l).noticesKept := by
  unfold State.paceTick
  simp only
  split
  · exact paceEvent_noticesKept (s := s.onLine l _) h l
  · exact h

theorem sent_noticesKept {s : State} (h : s.noticesKept) (l : LineNo) : (s.sent l).noticesKept := by
  unfold State.sent
  split
  · split
    · exact h
    · split
      case h_2 => exact endExchange_noticesKept h _ _
      all_goals exact h
  · exact h

theorem windowOver_noticesKept {s : State} (h : s.noticesKept) (l : LineNo) : (s.windowOver l).noticesKept := by
  unfold State.windowOver
  split
  · exact h
  · split
    · exact noReply_noticesKept h _ _ _
    · exact h

theorem serviceLimitOver_noticesKept {s : State} (h : s.noticesKept) (l : LineNo) :
    (s.serviceLimitOver l).noticesKept := by
  unfold State.serviceLimitOver
  split
  · exact h
  · split
    · split
      · exact h
      · exact withdraw_noticesKept (s := s.onLine l _) h _ _
    · exact h

theorem earliestStart_noticesKept {s : State} (h : s.noticesKept) (l : LineNo) : (s.earliestStart l).noticesKept := by
  unfold State.earliestStart
  split
  · split
    · exact chooseIfIdle_noticesKept (s := s.onLine l _) h l
    · exact h
    · exact h
  · exact h

theorem turnaroundOver_noticesKept {s : State} (h : s.noticesKept) (l : LineNo) : (s.turnaroundOver l).noticesKept := by
  unfold State.turnaroundOver
  split <;> exact h

theorem characterBegins_noticesKept {s : State} (h : s.noticesKept) (l : LineNo) : (s.characterBegins l).noticesKept := by
  unfold State.characterBegins
  split
  · exact h
  · split <;> exact h

/-! ### The host's requests on terminals -/

theorem createTerminal_noticesKept {s : State} (h : s.noticesKept) {f : TerminalSet} (fresh : s.context f.number = none) :
    (s.createTerminal f).noticesKept :=
  askOrder_noticesKept (askOrder_noticesKept (askOrder_noticesKept
    (report_noticesKept (insertContext_noticesKept h (c := (Context.create f).reevaluate s.defaults) fresh rfl) _
      fun _ => rfl) _ _) _ _) _ _

theorem changeTerminal_noticesKept {s : State} (h : s.noticesKept) (c : Context) (f : TerminalSet) :
    (s.changeTerminal c f).noticesKept := by
  have replaced : (s.onContext c.number fun c => c.replace f).noticesKept :=
    onContext_noticesKept h _ _ (by intro _; rfl) (by intro _; rfl)
  have moved : (if c.line = f.line ∧ c.drop = f.drop then s.onContext c.number fun c => c.replace f
      else (s.onContext c.number fun c => c.replace f).moveTerminal c.number c.line).noticesKept := by
    split
    · exact replaced
    · exact onContext_noticesKept replaced _ _ (by intro _; rfl) (by intro _; rfl)
  unfold State.changeTerminal
  simp only
  generalize (if c.line = f.line ∧ c.drop = f.drop then _ else _ : State) = u at moved ⊢
  have plated : (if c.zone = f.zone then u else u.askOrder c.number .plate).noticesKept := by
    split
    · exact moved
    · exact askOrder_noticesKept moved _ _
  split
  · exact plated
  · exact act_noticesKept plated _ (by intro _; rfl) (by intro _; rfl)

theorem terminalSet_noticesKept {s : State} (h : s.noticesKept) (f : TerminalSet) : (s.terminalSet f).noticesKept := by
  unfold State.terminalSet
  split
  · exact h
  · split
    · exact createTerminal_noticesKept h ‹_›
    · split
      · exact h
      · exact changeTerminal_noticesKept h _ f

theorem terminalRemove_noticesKept {s : State} (h : s.noticesKept) (n : Nat) : (s.terminalRemove n).noticesKept := by
  unfold State.terminalRemove
  split
  · exact h
  · split
    · exact h
    · exact deleteTerminal_noticesKept h _

theorem terminalGet_noticesKept {s : State} (h : s.noticesKept) (n : Nat) (clear : Bool) :
    (s.terminalGet n clear).noticesKept := by
  unfold State.terminalGet
  split
  · exact h
  · cases clear
    · exact h
    · exact onContext_noticesKept h n (fun c => { c with errors := .zero }) (by intro _; rfl) (by intro _; rfl)

theorem terminalOrder_noticesKept {s : State} (h : s.noticesKept) (n : Nat) (order : Order) :
    (s.terminalOrder n order).noticesKept := by
  have suspended (c : Context) (b : Bool) : (s.setSuspended c b).noticesKept := by
    unfold State.setSuspended
    split
    · exact h
    · exact act_noticesKept h _ (by intro _; rfl) (by intro _; rfl)
  unfold State.terminalOrder
  split
  · exact h
  · split
    · unfold State.endCollection
      split
      · exact h
      · exact collectionEnded_noticesKept h _
    · exact suspended _ _
    · exact suspended _ _
    · rename_i c _ _ _
      unfold State.sendMessage
      simp only
      split
      · exact h
      · split
        · exact h
        · exact chooseIfIdle_noticesKept (s := s.onLine c.line _) h _

/-! ### The host's other requests -/

theorem noticeTake_noticesKept {s : State} (h : s.noticesKept) : s.noticeTake.noticesKept := by
  unfold State.noticeTake
  split
  · exact h
  · exact emptyReports_noticesKept h ‹_›

theorem faultClear_noticesKept {s : State} (h : s.noticesKept) (n : Nat) (named : FaultSet) :
    (s.faultClear n named).noticesKept := by
  unfold State.faultClear
  split
  · exact h
  · exact act_noticesKept h _ (by intro _; rfl) (by intro _; rfl)

theorem setDefaults_noticesKept {s : State} (h : s.noticesKept) (t : Thresholds) : (s.setDefaults t).noticesKept :=
  foldl_noticesKept (fun h _ => act_noticesKept h _ (by intro _; rfl) (by intro _; rfl)) _
    (s := { s with defaults := t }) h

theorem override_noticesKept {s : State} (h : s.noticesKept) (c : Context) (o : Option Thresholds) :
    (s.override c o).noticesKept := act_noticesKept h _ (by intro _; rfl) (by intro _; rfl)

theorem overrideSet_noticesKept {s : State} (h : s.noticesKept) (n : Nat) (t : Thresholds) :
    (s.overrideSet n t).noticesKept := by
  unfold State.overrideSet State.owned
  split
  · exact h
  · split
    · exact h
    · exact override_noticesKept h _ _

theorem overrideDrop_noticesKept {s : State} (h : s.noticesKept) (n : Nat) : (s.overrideDrop n).noticesKept := by
  unfold State.overrideDrop
  split
  · exact h
  · split
    · exact h
    · exact override_noticesKept h _ _

theorem switchNow_noticesKept {s : State} (h : s.noticesKept) : s.switchNow.noticesKept := by
  unfold State.switchNow
  split
  · exact switchover_noticesKept h
  · exact h

theorem clockSet_noticesKept {s : State} (h : s.noticesKept) (t : Instant) : (s.clockSet t).noticesKept :=
  askAll_noticesKept (presentMinute_noticesKept (s := s.timeSet t) h) .clock

/-! ### Every command -/

theorem acceptFrame_noticesKept {s : State} (h : s.noticesKept) (tag kind : Byte) {take : State → State}
    (takes : ∀ {u : State}, u.noticesKept → (take u).noticesKept) : (s.acceptFrame tag kind take).noticesKept := by
  unfold State.acceptFrame
  split
  · simp only
    split
    · exact h
    · exact takes h
  · exact h

theorem request_noticesKept {α : Type} {tag : Byte} {kind : Nat} {read : State → Except Nat α} {act : α → State → State}
    {s : State} (h : s.noticesKept) (acts : ∀ a (u : State), u.noticesKept → (act a u).noticesKept) :
    (s.request tag kind read act).noticesKept :=
  acceptFrame_noticesKept h _ _ fun {u} hu => by
    unfold State.owned
    split
    · exact hu
    · exact acts _ u hu

theorem working_noticesKept {act : State → State} {s : State} (h : s.noticesKept)
    (acts : ∀ {u : State}, u.noticesKept → (act u).noticesKept) : (s.working act).noticesKept := by
  unfold State.working
  split
  · exact acts h
  · exact h

theorem ifOpen_noticesKept {s : State} (h : s.noticesKept) (f : Link → Link) : (s.ifOpen f).noticesKept := by
  unfold State.ifOpen
  split <;> exact h

/-- What a command leaves is the state it answers. -/
theorem next_noticesKept {u t : State} (e : Host.Outcome.next u = (.next t : Host.Outcome State Fault Refusal))
    (h : u.noticesKept) : t.noticesKept := by
  cases e
  exact h

/-- Every command keeps the invariant: a case for each, those of the requests that change neither contexts nor notices by their
branches. -/
theorem exec_noticesKept (i : Instr) {s t : State} (h : s.noticesKept) (e : exec i s = .next t) : t.noticesKept := by
  cases i
  case clockSet => exact next_noticesKept e (request_noticesKept h fun _ _ hu => clockSet_noticesKept hu _)
  case clockGet | calendarList | tariffGet | bankCopy | referralSet | referralList | liftList | thresholdDefaultGet
      | lineGet | pollListGet | partStatus | restart =>
    exact next_noticesKept e (request_noticesKept h fun _ _ hu => hu)
  case calendarPut =>
    exact next_noticesKept e (request_noticesKept h fun _ _ hu => by unfold State.calendarPut; split <;> exact hu)
  case calendarDrop =>
    exact next_noticesKept e (request_noticesKept h fun _ _ hu => by unfold State.calendarDrop; split <;> exact hu)
  case tariffPut =>
    exact next_noticesKept e (request_noticesKept h fun _ _ hu => by unfold State.tariffPut; split <;> exact hu)
  case tariffDrop =>
    exact next_noticesKept e (request_noticesKept h fun _ _ hu => by
      unfold State.tariffDrop; split <;> [exact hu; (split <;> exact hu)])
  case switchAt =>
    exact next_noticesKept e (request_noticesKept h fun _ _ hu => by
      unfold State.switchAt; split <;> [exact hu; (split <;> exact hu)])
  case switchNow => exact next_noticesKept e (request_noticesKept h fun _ _ hu => switchNow_noticesKept hu)
  case switchCancel =>
    exact next_noticesKept e (request_noticesKept h fun _ _ hu => by unfold State.switchCancel; split <;> exact hu)
  case fareTrial => exact next_noticesKept e (request_noticesKept h fun _ _ hu => placeFare_noticesKept hu _)
  case terminalSet => exact next_noticesKept e (request_noticesKept h fun _ _ hu => terminalSet_noticesKept hu _)
  case terminalRemove => exact next_noticesKept e (request_noticesKept h fun _ _ hu => terminalRemove_noticesKept hu _)
  case terminalGet => exact next_noticesKept e (request_noticesKept h fun _ _ hu => terminalGet_noticesKept hu _ _)
  case endCollection | suspend | resume | message =>
    exact next_noticesKept e (request_noticesKept h fun _ _ hu => terminalOrder_noticesKept hu _ _)
  case permitLoad | permitChange | permitDrop | permitGet | permitScan | referralAnswer =>
    exact next_noticesKept e (request_noticesKept h fun _ _ hu => placeOp_noticesKept hu _)
  case countEnter =>
    exact next_noticesKept e (request_noticesKept h fun _ _ hu => by unfold State.countEnter; split <;> exact hu)
  case roundOpen =>
    exact next_noticesKept e (request_noticesKept h fun _ _ hu => by
      unfold State.roundOpen; split <;> [exact hu; (split <;> [exact hu; (split <;> exact hu)])])
  case roundBuild =>
    exact next_noticesKept e (request_noticesKept h fun _ _ hu => by
      unfold State.roundBuild; split <;> [exact hu; (split <;> exact hu)])
  case roundClose =>
    exact next_noticesKept e (request_noticesKept h fun _ _ hu => by
      unfold State.roundClose; split <;> [exact hu; (split <;> exact hu)])
  case roundGet =>
    exact next_noticesKept e (request_noticesKept h fun _ _ hu => by unfold State.roundGet; split <;> exact hu)
  case faultClear => exact next_noticesKept e (request_noticesKept h fun _ _ hu => faultClear_noticesKept hu _ _)
  case thresholdDefaultSet => exact next_noticesKept e (request_noticesKept h fun _ _ hu => setDefaults_noticesKept hu _)
  case thresholdOverrideSet => exact next_noticesKept e (request_noticesKept h fun _ _ hu => overrideSet_noticesKept hu _ _)
  case thresholdOverrideDrop => exact next_noticesKept e (request_noticesKept h fun _ _ hu => overrideDrop_noticesKept hu _)
  case lineSet =>
    exact next_noticesKept e (request_noticesKept h fun _ _ hu => by unfold State.lineSet; split <;> exact hu)
  case lineStart => exact next_noticesKept e (request_noticesKept h fun _ _ hu => lineStart_noticesKept hu _)
  case lineStop => exact next_noticesKept e (request_noticesKept h fun _ _ hu => lineStop_noticesKept hu _)
  case pollListPut =>
    exact next_noticesKept e (request_noticesKept h fun _ _ hu => by unfold State.pollListPut; split <;> exact hu)
  case sweep => exact next_noticesKept e (request_noticesKept h fun _ _ hu => sweep_noticesKept hu _)
  case noticeTake => exact next_noticesKept e (request_noticesKept h fun _ _ hu => noticeTake_noticesKept hu)
  case quote | sale | session | cancel | doorOpen | doorClosed | boxReplaced | paperOut | paperLoaded |
      printerFault | printFailed | printerOk | coinPathFault | coinPathOk | idle | ack =>
    exact next_noticesKept e (working_noticesKept h fun hu => received_noticesKept hu _ _ _)
  case paceTick => exact next_noticesKept e (working_noticesKept h fun hu => paceTick_noticesKept hu _)
  case computationComplete => exact next_noticesKept e (working_noticesKept h computationComplete_noticesKept)
  case lookupComplete => exact next_noticesKept e (working_noticesKept h completeLookup_noticesKept)
  case recordInsertion => exact next_noticesKept e (working_noticesKept h insertStep_noticesKept)
  case permitOperationComplete => exact next_noticesKept e (working_noticesKept h completeOp_noticesKept)
  case referralDeadlineExpiry => exact next_noticesKept e (working_noticesKept h fun hu => expireReferral_noticesKept hu _)
  case rejectedFrame => exact next_noticesKept e (working_noticesKept h fun hu => receivedRaw_noticesKept hu _ _)
  case frameTransmissionComplete => exact next_noticesKept e (working_noticesKept h fun hu => sent_noticesKept hu _)
  case turnaroundExpiry => exact next_noticesKept e (working_noticesKept h fun hu => turnaroundOver_noticesKept hu _)
  case responseWindowExpiry => exact next_noticesKept e (working_noticesKept h fun hu => windowOver_noticesKept hu _)
  case serviceLimitExpiry => exact next_noticesKept e (working_noticesKept h fun hu => serviceLimitOver_noticesKept hu _)
  case lineFrameDiscarded => exact next_noticesKept e (working_noticesKept h fun hu => frameDiscarded_noticesKept hu _)
  case earliestStartReached => exact next_noticesKept e (working_noticesKept h fun hu => earliestStart_noticesKept hu _)
  case characterBeginsToArrive => exact next_noticesKept e (working_noticesKept h fun hu => characterBegins_noticesKept hu _)
  case startComplete =>
    exact next_noticesKept e (working_noticesKept h fun hu => by unfold State.startComplete; split <;> exact hu)
  case replyTransmissionComplete => exact next_noticesKept e (working_noticesKept h id)
  case linkFrameDiscarded | frameLimitExpiry | frameMarkerReceived => exact next_noticesKept e (ifOpen_noticesKept h _)
  case unknownKind =>
    exact next_noticesKept e (by split <;> [exact h; exact acceptFrame_noticesKept h _ _ fun hu => hu])
  case overlap tag kind =>
    refine next_noticesKept e ?_
    unfold State.overlapped
    split
    · exact h
    · exact acceptFrame_noticesKept h _ _ fun hu => hu
  case secondsEvent => exact next_noticesKept e (secondsEvent_noticesKept h)
  case coldStart => exact next_noticesKept e (coldStart_noticesKept s)
  case powerStart => exact next_noticesKept e (by split <;> [exact powerStart_noticesKept h; exact coldStart_noticesKept s])
  case warmStart => exact next_noticesKept e (working_noticesKept h warmStart_noticesKept)
  case mainSupplyLoss => exact next_noticesKept e h
  case retentionSupplyLoss => exact next_noticesKept e (by split <;> exact h)

/-- Settles O3: every command keeps the contexts in order, no notice kind twice and a terminal's entry exactly while it has
reports, and an idle step changes nothing. -/
theorem noticesStandForReports : Obligations.NoticesStandForReports := by
  intro s t h e
  unfold step at e
  split at e
  · exact next_noticesKept e h
  · rename_i command rest _
    exact exec_noticesKept command (s := { s with pending := rest }) h e

end Sys2Proof.Machine
end

section
/-! The host's requests that read or end a terminal's context (O27, O28), and NOTICE TAKE (O45). -/

namespace Sys2Proof.Machine

open Sys2Proof

/-! ### TERMINAL GET (R63) -/

theorem readTerminalGet_bytes {n : Nat} (h : n ≤ 127) {mark : Byte} (hm : mark.toNat ≤ 1) :
    readTerminalGet [byte n, mark] = .ok (n, mark.toNat == 1) := by
  have number0 : number [byte n, mark] 0 1 = n :=
    (number_byte [] [mark] (byte n)).trans (Nat.mod_eq_of_lt (by omega))
  have number1 : number [byte n, mark] 1 1 = mark.toNat := number_byte [byte n] [] mark
  simp [readTerminalGet, sized, checked, firstBad, within, number0, number1, h, hm]

theorem exec_terminalGet {s : State} {n : Nat} (ready : s.ready = true) (hn : n ≤ 127) (tag : Byte) {mark : Byte}
    (hm : mark.toNat ≤ 1) :
    exec (.terminalGet tag [byte n, mark]) s = .next ((s.accepted tag 16).terminalGet n (mark.toNat == 1)) := by
  simp only [exec, execTerminalGet, State.request_ready ready, readTerminalGet_bytes hn hm, State.owned_ok]
  rfl

/-- Settles O28: the reply is read from the context before CLEAR sets its counters to 0. -/
theorem terminalGetReadsAContext : Obligations.TerminalGetReadsAContext := by
  intro s tag n ready hn
  have zero : (0 : Byte).toNat ≤ 1 := by decide
  have one : (1 : Byte).toNat ≤ 1 := by decide
  rw [exec_terminalGet ready hn tag zero, exec_terminalGet ready hn tag one]
  refine ⟨fun absent => ?_, fun c hc => ?_⟩
  · simp [State.terminalGet, absent]
  · simp only [State.terminalGet, State.accepted_context, hc]
    exact ⟨rfl, rfl⟩

/-! ### TERMINAL REMOVE (R62, R99, R119) -/

theorem exec_terminalRemove {s : State} {n : Nat} (ready : s.ready = true) (hn : n ≤ 127) (tag : Byte) :
    exec (.terminalRemove tag [byte n]) s = .next ((s.accepted tag 15).terminalRemove n) := by
  have read : readTerminal [byte n] = .ok n := by
    have number0 : number [byte n] 0 1 = n := (number_byte [] [] (byte n)).trans (Nat.mod_eq_of_lt (by omega))
    simp [readTerminal, sized, checked, firstBad, within, number0, hn]
  simp only [exec, execTerminalRemove, State.request_ready ready, read, State.owned_ok]
  rfl

/-- What stands against a removal (R62 checks 2 to 5). -/
theorem terminalRemove_refused {s : State} {n : Nat} {c : Context} (hc : s.context n = some c)
    (stands : c.tally.isEmpty = false ∨ s.cash.roundOf n ≠ none ∨ c.inFlight ≠ none ∨ (s.line c.line).busyWith n = true) :
    s.terminalRemove n = s.reply .state := by
  have held : (!c.tally.isEmpty || (s.cash.roundOf n).isSome || c.inFlight.isSome || (s.line c.line).busyWith n) = true := by
    simpa [Option.isSome_iff_ne_none, or_assoc] using stands
  simp [State.terminalRemove, hc, held]

theorem terminalRemove_deletes {s : State} {n : Nat} {c : Context} (hc : s.context n = some c)
    (empty : c.tally.isEmpty = true) (unlisted : s.cash.roundOf n = none) (idle : c.inFlight = none)
    (free : (s.line c.line).busyWith n = false) : s.terminalRemove n = (s.deleteTerminal c).done .plain := by
  simp [State.terminalRemove, hc, empty, unlisted, idle, free]

/-- A WAITING referral goes and a DECIDED one is detached (R99). -/
theorem detach_eq (n : Nat) (list : List Referral) :
    detach n list = (list.filter fun r => r.terminal != n || r.decision.isSome).map fun r =>
      if r.terminal = n then { r with detached := true } else r := by
  refine congrArg (List.map _) (List.filter_congr fun r _ => ?_)
  cases r.decision <;> simp [bne]

/-- Settles O27: each check that stands is the one that refuses; with none the context, its entries and its WAITING referral
go. -/
theorem terminalRemoveDeletesAContext : Obligations.TerminalRemoveDeletesAContext := by
  intro s tag n ready hn
  rw [exec_terminalRemove ready hn tag]
  refine ⟨fun absent => ?_, fun c hc stands => ?_, fun c hc empty unlisted idle free => ?_⟩
  · simp [State.terminalRemove, absent]
  · rw [terminalRemove_refused (s := s.accepted tag 15) hc stands]
    rfl
  · obtain rfl := State.context_number hc
    rw [terminalRemove_deletes (s := s.accepted tag 15) hc empty unlisted idle free]
    have context (m : Nat) : ((s.accepted tag 15).deleteTerminal c).context m =
        if m = c.number then none else s.context m := context_removed s c.number m
    refine ⟨_, rfl, ?_, fun m other => ?_, ?_, rfl, rfl, ?_, rfl, rfl, rfl, rfl, rfl, rfl, rfl, rfl, rfl, rfl, rfl⟩
    · exact (context c.number).trans (if_pos rfl)
    · exact (context m).trans (if_neg other)
    · show (((s.accepted tag 15).onLine c.line fun L => L.without c.number).line c.line).directed = _
      rw [State.line_onLine, if_pos rfl]
      rfl
    · show ({ s.permits with referrals := detach c.number s.permits.referrals } : Permits) = _
      rw [detach_eq]

/-! ### NOTICE TAKE (R77, R174, R175) -/

theorem exec_noticeTake {s : State} (ready : s.ready = true) (tag : Byte) :
    exec (.noticeTake tag []) s = .next (s.accepted tag 44).noticeTake := by
  have read : readNothing [] = .ok () := rfl
  simp only [exec, execNoticeTake, State.request_ready ready, read, State.owned_ok]
  rfl

theorem noticeTake_oldest {s : State} {e : Notice} {rest : List Notice} (oldest : s.notices = e :: rest) :
    s.noticeTake = ((s.setNotices rest).emptyReports e.kind).done (s.noticeFields e rest.length) := by
  simp [State.noticeTake, oldest]

/-- Settles O45: the oldest entry decides what is read, and a terminal's empties its reports and events in the same act. -/
theorem noticeTakeEmptiesTheReports : Obligations.NoticeTakeEmptiesTheReports := by
  intro s tag ready
  rw [exec_noticeTake ready tag]
  refine ⟨fun none_ => ?_, fun n c count rest oldest hc => ?_, fun kind count rest fields oldest reads => ?_⟩
  · simp [State.noticeTake, none_]
  · rw [noticeTake_oldest (s := s.accepted tag 44) oldest]
    have emptied := onContext_touches ((s.accepted tag 44).setNotices rest) n
      (fun c => { c with reports := .empty, events := [] }) (by intro _; rfl) c.line
    refine ⟨_, rfl, rfl, rfl, ?_, emptied.contexts, ?_, rfl, rfl, rfl, rfl, rfl, rfl, rfl, rfl, rfl, rfl, rfl, rfl⟩
    · exact (State.context_onContext_self _ n _ (by intro _; rfl)).trans (congrArg (Option.map _) hc)
    · simp only [State.noticeFields, State.accepted_context, hc]
      rfl
  · rw [noticeTake_oldest (s := s.accepted tag 44) oldest]
    rcases reads with ⟨l, rfl, rfl⟩ | ⟨l, rfl, rfl⟩ | ⟨rfl, rfl⟩ | ⟨rfl, rfl⟩ | ⟨rfl, rfl⟩
    · rfl
    · rfl
    · rfl
    · have waiting : (fun r : Referral => r.decision == none) = fun r => r.decision.isNone := by
        funext r
        cases r.decision <;> rfl
      rw [waiting]
      rfl
    · rfl

end Sys2Proof.Machine
end

section
/-! TERMINAL SET (O26): an order that stands for a terminal goes on standing (R161), the three orders of a new context (R60), and
the changes made to a context that stands, in their order (R61; log 14). -/

namespace Sys2Proof.Machine

open Sys2Proof

/-! ### Orders that stand (R161) -/

/-- An order of a kind stands for a configured terminal: owed, in its line's directed queue, or begun in its line's exchange. -/
def State.stands (s : State) (n : Nat) (kind : OrderKind) : Prop :=
  ∃ c, s.context n = some c ∧
    (c.owed.has kind = true ∨ (s.line c.line).bears n kind fun frame => frame.orders kind = true)

theorem State.stands.ordered {s : State} {n : Nat} {kind : OrderKind} (h : s.stands n kind) {c : Context}
    (hc : s.context n = some c) : s.ordered c kind := by
  obtain ⟨d, hd, stands⟩ := h
  obtain rfl := Option.some.inj (hd.symm.trans hc)
  exact stands.imp_right fun bears => Line.bears.ordered bears (State.context_number hd) fun _ => id

/-- What an automatic order carries is an ORDER of its kind. -/
theorem carries_orders {s : State} {c : Context} {kind : OrderKind} (automatic : ∀ text, kind ≠ .message text)
    {frame : SentFrame} (h : s.carries c kind frame) : frame.orders kind = true := by
  cases kind with
  | message text => exact absurd rfl (automatic text)
  | condition | clock | result | plate => rw [show frame = _ from h]; rfl

/-- An automatic order asked for stands. -/
theorem askOrder_asked {s : State} {n : Nat} {c : Context} {kind : OrderKind} (automatic : ∀ text, kind ≠ .message text)
    (hc : s.context n = some c) : (s.askOrder n kind).stands n kind := by
  obtain ⟨o, ho, stands⟩ := askOrder_stands automatic hc
  refine ⟨_, ho, stands.imp_right fun bears => bears.imp_right ?_⟩
  rintro ⟨state, e, exchange, terminal, carried⟩
  exact ⟨state, e, exchange, terminal, carries_orders automatic carried⟩

/-- It goes on standing whatever is asked for next. -/
theorem askOrder_keeps_stands {s : State} {n : Nat} {kind : OrderKind} (automatic : ∀ text, kind ≠ .message text)
    (h : s.stands n kind) (m : Nat) (other : OrderKind) : (s.askOrder m other).stands n kind := by
  obtain ⟨c, hc, stands⟩ := h
  obtain ⟨o, ho, more⟩ := (askOrder_onlyOwes s m other).some hc
  exact ⟨_, ho, stands.imp (more kind) fun bears =>
    askOrder_bears hc (fun _ => carries_orders automatic) bears m other⟩

/-- An act that leaves a terminal's line and owed orders alone leaves its orders standing. -/
theorem act_keeps_stands {s : State} {n : Nat} {kind : OrderKind} (automatic : ∀ text, kind ≠ .message text)
    (h : s.stands n kind) {f : Context → Context} (number : ∀ c, (f c).number = c.number)
    (line : ∀ c, (f c).line = c.line) (owed : ∀ c, (f c).owed = c.owed) : (s.act n f).stands n kind := by
  obtain ⟨c, hc, stands⟩ := h
  have changed : (s.onContext n f).context n = some (f c) := by
    rw [State.context_onContext_self s n f number, hc]
    rfl
  have stands : (f c).owed.has kind = true ∨ (s.line (f c).line).bears n kind fun frame => frame.orders kind = true := by
    rw [owed, line]
    exact stands
  unfold State.act
  simp only
  split
  · exact ⟨f c, changed, stands⟩
  · refine askOrder_keeps_stands automatic ⟨_, (report_context _ n _).trans (congrArg (Option.map _) changed), ?_⟩ n _
    rw [report_line]
    exact stands

/-! ### Orders asked for on a line that takes none at once (R161) -/

/-- On a line in use that is not IDLE the entry joins the queue, where there is room. -/
theorem askOrder_queues {s : State} {n : Nat} {c : Context} {kind : OrderKind} (hc : s.context n = some c)
    (sounds : c.faults.silent = false) (unowed : c.owed.has kind = false) (free : (s.line c.line).holds n kind = false)
    (used : (s.line c.line).halted = false) (busy : (s.line c.line).state ≠ .idle)
    (room : (s.line c.line).directed.length < Config.directedCapacity) :
    s.askOrder n kind = s.withLine c.line ((s.line c.line).queued n [kind]) := by
  have waits : ((s.withLine c.line ((s.line c.line).queued n [kind])).line c.line).state ≠ .idle := by
    rw [State.line_withLine]
    exact busy
  simp only [State.askOrder, hc, free, unowed, sounds, used, Nat.not_le.mpr room, Bool.false_eq_true, if_false]
  exact chooseIfIdle_busy waits

/-- On a STOPPED or STOPPING line it is owed. -/
theorem askOrder_owes {s : State} {n : Nat} {c : Context} {kind : OrderKind} (hc : s.context n = some c)
    (unowed : c.owed.has kind = false) (free : (s.line c.line).holds n kind = false)
    (halted : (s.line c.line).halted = true) : s.askOrder n kind = s.owe n kind := by
  simp only [State.askOrder, hc, free, unowed, halted, Bool.false_eq_true, if_false, if_true, ite_self]

theorem owe_context {s : State} {n : Nat} {c : Context} (hc : s.context n = some c) (kind : OrderKind) :
    (s.owe n kind).context n = some { c with owed := c.owed.set kind true } := by
  rw [State.owe, State.context_onContext_self s n _ (by intro _; rfl), hc]
  rfl

/-! ### A context is created (R60) -/

/-- The context of R60 with the fault set of its first re-evaluation. -/
def State.newContext (s : State) (f : TerminalSet) : Context := (Context.create f).reevaluate s.defaults

/-- The state with the new context, its change of condition reported, before its orders are asked for. -/
def State.introduced (s : State) (f : TerminalSet) : State :=
  ({ s with contexts := insertContext (s.newContext f) s.contexts } : State).report f.number fun r => { r with condition := true }

/-- The new context once CONDITION has been reported. -/
def State.introduction (s : State) (f : TerminalSet) : Context :=
  { s.newContext f with reports := { ReportSet.empty with condition := true } }

theorem createTerminal_eq (s : State) (f : TerminalSet) :
    s.createTerminal f =
      (((s.introduced f).askOrder f.number .condition).askOrder f.number .plate).askOrder f.number .clock := rfl

theorem introduced_context {s : State} {f : TerminalSet} (fresh : s.context f.number = none) :
    (s.introduced f).context f.number = some (s.introduction f) ∧
      ∀ m, m ≠ f.number → (s.introduced f).context m = s.context m := by
  have inserted := context_insertContext (c := s.newContext f) fresh
  refine ⟨?_, fun m other => ?_⟩
  · exact (report_context _ _ _).trans (congrArg (Option.map _) ((inserted f.number).trans (if_pos rfl)))
  · exact ((report_touches _ _ _ 0).contexts m other).trans ((inserted m).trans (if_neg (Ne.symm other)))

theorem introduced_notices {s : State} {f : TerminalSet} (fresh : s.context f.number = none) :
    (s.introduced f).notices = s.notices ++ [{ kind := .terminal f.number, count := 1 }] := by
  have inserted := (context_insertContext (c := s.newContext f) fresh f.number).trans (if_pos rfl)
  exact (report_condition_notices inserted).trans (if_pos rfl)

theorem introduced_line (s : State) (f : TerminalSet) (l : LineNo) : (s.introduced f).line l = s.line l :=
  report_line _ _ _ _

theorem introduced_only (s : State) (f : TerminalSet) : OnlyTerminals s (s.introduced f) := by
  obtain ⟨cs, ls, ns, a, e⟩ :=
    report_only { s with contexts := insertContext (s.newContext f) s.contexts } f.number fun r => { r with condition := true }
  exact ⟨cs, ls, ns, a, e⟩

/-- The fault set of a new context (R130): a box and a paper roll of no room to spare are at their thresholds. -/
theorem introduction_faults (s : State) (f : TerminalSet) :
    (s.introduction f).faults =
      { forcedDoor := false, silent := false, printer := false, paperOut := false, coinPath := false
        boxFull := decide (min s.defaults.full f.boxCapacity = 0)
        boxNearFull := decide (min s.defaults.nearFull (min s.defaults.full f.boxCapacity) = 0)
        paperLow := decide (f.paperCapacity ≤ s.defaults.paperLow) } := by
  simp [State.introduction, State.newContext, Context.reevaluate, Context.inForce, Context.create, FaultSet.empty,
    Tally.empty]

/-- What the creation leaves: the context but for its owed orders, its entry in the Notice Queue, and its three orders. -/
theorem createTerminal_leaves {s : State} {f : TerminalSet} (fresh : s.context f.number = none) :
    (∃ o, (s.createTerminal f).context f.number = some { s.introduction f with owed := o }) ∧
      (s.createTerminal f).notices = s.notices ++ [{ kind := .terminal f.number, count := 1 }] ∧
      ((s.createTerminal f).stands f.number .condition ∧ (s.createTerminal f).stands f.number .plate ∧
        (s.createTerminal f).stands f.number .clock) ∧
      OnlyTerminals s (s.createTerminal f) ∧ s.onlyAt (s.createTerminal f) f.number f.line := by
  obtain ⟨introduced, others⟩ := introduced_context fresh
  have notices := introduced_notices fresh
  have lines := introduced_line s f
  have only := introduced_only s f
  rw [createTerminal_eq]
  generalize s.introduced f = r at introduced others notices lines only
  have touched := askOrder_touches introduced .condition
  have asked := askOrder_asked (kind := .condition) nofun introduced
  obtain ⟨o1, h1⟩ := askOrder_context r f.number .condition
  rw [introduced, Option.map_some] at h1
  rw [← askOrder_notices r f.number .condition] at notices
  generalize r.askOrder f.number .condition = u at touched asked h1 notices
  have touched := touched.trans (askOrder_touches h1 .plate)
  have asked2 := askOrder_asked (kind := .plate) nofun h1
  have asked := askOrder_keeps_stands (kind := .condition) nofun asked f.number .plate
  obtain ⟨o2, h2⟩ := askOrder_context u f.number .plate
  rw [h1, Option.map_some] at h2
  rw [← askOrder_notices u f.number .plate] at notices
  generalize u.askOrder f.number .plate = v at touched asked asked2 h2 notices
  have touched := touched.trans (askOrder_touches h2 .clock)
  obtain ⟨o3, h3⟩ := askOrder_context v f.number .clock
  rw [h2, Option.map_some] at h3
  refine ⟨⟨_, h3⟩, (askOrder_notices v f.number .clock).trans notices,
    ⟨askOrder_keeps_stands (kind := .condition) nofun asked f.number .clock,
      askOrder_keeps_stands (kind := .plate) nofun asked2 f.number .clock, askOrder_asked (kind := .clock) nofun h2⟩,
    only.trans touched.only, fun m other => ?_, fun l other => ?_⟩
  · exact (touched.contexts m other).trans (others m other)
  · exact (touched.lines l other).trans (lines l)

/-- A line without an entry of a terminal holds no order for it. -/
theorem Line.holds_of_absent {L : Line} {n : Nat} (absent : ∀ x ∈ L.directed, x.terminal ≠ n) (kind : OrderKind) :
    L.holds n kind = false := by
  simpa [Line.holds] using fun x hx same => absurd same (absent x hx)

/-- At a line in use that is not IDLE the three orders join the queue. -/
theorem createTerminal_queues {s : State} {f : TerminalSet} (fresh : s.context f.number = none)
    (used : (s.line f.line).halted = false) (busy : (s.line f.line).state ≠ .idle)
    (room : (s.line f.line).directed.length ≤ 13) (absent : ∀ x ∈ (s.line f.line).directed, x.terminal ≠ f.number) :
    (s.createTerminal f).context f.number = some (s.introduction f) ∧
      (s.createTerminal f).line f.line = (s.line f.line).queued f.number [.condition, .plate, .clock] := by
  obtain ⟨introduced, -⟩ := introduced_context fresh
  have line := introduced_line s f f.line
  rw [createTerminal_eq]
  generalize s.introduced f = r at introduced line
  have queue {u : State} (hc : u.context f.number = some (s.introduction f)) {kinds : List OrderKind}
      (hl : u.line f.line = (s.line f.line).queued f.number kinds) (short : kinds.length ≤ 2) {kind : OrderKind}
      (new : kind ∉ kinds) :
      (u.askOrder f.number kind).context f.number = some (s.introduction f) ∧
        (u.askOrder f.number kind).line f.line = (s.line f.line).queued f.number (kinds ++ [kind]) := by
    have free : (u.line f.line).holds f.number kind = false := by
      rw [hl, ← Bool.not_eq_true, Line.holds_queued, Line.holds_of_absent absent]
      simpa using new
    have fits : (u.line f.line).directed.length < Config.directedCapacity := by
      rw [hl]
      simp [Line.queued, Config.directedCapacity]
      omega
    have inUse : (u.line f.line).halted = false := by
      rw [hl]
      exact used
    have waits : (u.line f.line).state ≠ .idle := by
      rw [hl]
      exact busy
    rw [askOrder_queues hc rfl (by cases kind <;> rfl) free inUse waits fits]
    refine ⟨hc, (State.line_withLine _ _ _).trans ?_⟩
    rw [show u.line (s.introduction f).line = _ from hl, Line.queued_queued]
  have begun : r.line f.line = (s.line f.line).queued f.number [] := by rw [line, Line.queued_nil]
  obtain ⟨h1, l1⟩ := queue introduced begun (by decide) (kind := .condition) (by simp)
  obtain ⟨h2, l2⟩ := queue h1 l1 (by decide) (kind := .plate) (by simp)
  exact queue h2 l2 (by decide) (kind := .clock) (by simp)

/-- At a STOPPED or STOPPING line they are owed. -/
theorem createTerminal_owes {s : State} {f : TerminalSet} (fresh : s.context f.number = none)
    (halted : (s.line f.line).halted = true) (absent : ∀ x ∈ (s.line f.line).directed, x.terminal ≠ f.number) :
    (s.createTerminal f).context f.number =
        some { s.introduction f with owed := { condition := true, clock := true, result := false, plate := true } } ∧
      (s.createTerminal f).line f.line = s.line f.line := by
  obtain ⟨introduced, -⟩ := introduced_context fresh
  have line := introduced_line s f f.line
  rw [createTerminal_eq]
  generalize s.introduced f = r at introduced line
  have owes {u : State} {o : OwedOrders} (hc : u.context f.number = some { s.introduction f with owed := o })
      (hl : u.line f.line = s.line f.line) {kind : OrderKind} (unowed : o.has kind = false) :
      (u.askOrder f.number kind).context f.number = some { s.introduction f with owed := o.set kind true } ∧
        (u.askOrder f.number kind).line f.line = s.line f.line := by
    have free : (u.line f.line).holds f.number kind = false := by
      rw [hl]
      exact Line.holds_of_absent absent kind
    have stopped : (u.line f.line).halted = true := by
      rw [hl]
      exact halted
    rw [askOrder_owes hc unowed free stopped]
    exact ⟨owe_context hc kind, hl⟩
  obtain ⟨h1, l1⟩ := owes (o := .none) introduced line (kind := .condition) rfl
  obtain ⟨h2, l2⟩ := owes h1 l1 (kind := .plate) rfl
  exact owes h2 l2 (kind := .clock) rfl

/-! ### A context is changed (R61) -/

/-- The state once the fields are replaced, and what the former line's queue held is owed when the line or drop has changed. -/
def State.moved (s : State) (c : Context) (f : TerminalSet) : State :=
  if c.line = f.line ∧ c.drop = f.drop then s.onContext c.number fun c => c.replace f
  else (s.onContext c.number fun c => c.replace f).moveTerminal c.number c.line

/-- The state once a PLATE has been asked for when the zone has changed. -/
def State.plated (s : State) (c : Context) (f : TerminalSet) : State :=
  if c.zone = f.zone then s.moved c f else (s.moved c f).askOrder c.number .plate

theorem changeTerminal_eq (s : State) (c : Context) (f : TerminalSet) :
    s.changeTerminal c f =
      if c.boxCapacity = f.boxCapacity ∧ c.paperCapacity = f.paperCapacity then s.plated c f
      else (s.plated c f).act c.number fun c => c.reevaluate s.defaults := rfl

/-- What the former line's queue held is owed. -/
theorem moved_apart {s : State} {c : Context} (hc : s.context c.number = some c) {f : TerminalSet}
    (apart : ¬(c.line = f.line ∧ c.drop = f.drop)) :
    (s.moved c f).context c.number = some { c.replace f with owed := c.owed.take (s.line c.line) c.number } ∧
      (s.moved c f).line c.line = (s.line c.line).without c.number := by
  have replaced : (s.onContext c.number fun c => c.replace f).context c.number = some (c.replace f) :=
    (State.context_onContext_self s _ _ (by intro _; rfl)).trans (congrArg (Option.map _) hc)
  rw [State.moved, if_neg apart]
  refine ⟨(State.context_onContext_self _ _ _ (by intro _; rfl)).trans (congrArg (Option.map _) replaced), ?_⟩
  rw [State.moveTerminal, State.line_onLine, if_pos rfl]
  rfl

theorem moved_leaves {s : State} {c : Context} (hc : s.context c.number = some c) (f : TerminalSet) :
    (∃ o, (s.moved c f).context c.number = some { c.replace f with owed := o }) ∧
      Touches s (s.moved c f) c.number c.line := by
  have replaces := onContext_touches s c.number (fun c => c.replace f) (by intro _; rfl) c.line
  by_cases same : c.line = f.line ∧ c.drop = f.drop
  · rw [State.moved, if_pos same]
    exact ⟨⟨c.owed, (State.context_onContext_self s _ _ (by intro _; rfl)).trans (congrArg (Option.map _) hc)⟩, replaces⟩
  · refine ⟨⟨_, (moved_apart hc same).1⟩, ?_⟩
    rw [State.moved, if_neg same]
    exact (replaces.trans (onContext_touches _ _ _ (by intro _; rfl) _)).trans (onLine_touches _ _ _ _)

theorem plated_leaves {s : State} {c : Context} (hc : s.context c.number = some c) (f : TerminalSet) :
    (∃ o, (s.plated c f).context c.number = some { c.replace f with owed := o }) ∧
      Touches (s.moved c f) (s.plated c f) c.number f.line ∧
      (c.zone ≠ f.zone → (s.plated c f).stands c.number .plate) := by
  obtain ⟨⟨o, ho⟩, -⟩ := moved_leaves hc f
  unfold State.plated
  split
  · rename_i same
    exact ⟨⟨o, ho⟩, Touches.refl _ _ _, fun other => absurd same other⟩
  · obtain ⟨p, hp⟩ := askOrder_context (s.moved c f) c.number .plate
    rw [ho] at hp
    exact ⟨⟨_, hp⟩, askOrder_touches ho .plate, fun _ => askOrder_asked (kind := .plate) nofun ho⟩

/-- The fault set after the change: re-evaluated when a capacity has changed (R61, R130). -/
def Context.refitted (c : Context) (defaults : Thresholds) (f : TerminalSet) : Context :=
  if c.boxCapacity = f.boxCapacity ∧ c.paperCapacity = f.paperCapacity then c.replace f
  else (c.replace f).reevaluate defaults

/-- Of the replaced context only the fault set depends on the re-evaluation. -/
theorem Context.refitted_eq (c : Context) (defaults : Thresholds) (f : TerminalSet) :
    c.refitted defaults f = { c.replace f with faults := (c.refitted defaults f).faults } := by
  unfold Context.refitted
  split <;> rfl

theorem Context.refitted_faults (c : Context) (defaults : Thresholds) (f : TerminalSet) :
    (c.refitted defaults f).faults =
      if f.boxCapacity = c.boxCapacity ∧ f.paperCapacity = c.paperCapacity then c.faults
      else { c.faults with
        boxFull := decide (((c.replace f).inForce defaults).full ≤ c.tally.coinTotal)
        boxNearFull := decide (((c.replace f).inForce defaults).nearFull ≤ c.tally.coinTotal)
        paperLow := decide ((c.replace f).paperRemaining ≤ ((c.replace f).inForce defaults).paperLow) } := by
  by_cases same : c.boxCapacity = f.boxCapacity ∧ c.paperCapacity = f.paperCapacity
  · rw [Context.refitted, if_pos same, if_pos ⟨same.1.symm, same.2.symm⟩]
    rfl
  · rw [Context.refitted, if_neg same, if_neg fun other => same ⟨other.1.symm, other.2.symm⟩]
    rfl

/-- Paper remaining is lowered to a lower capacity (R61). -/
theorem Context.replace_paper {c : Context} {f : TerminalSet} (fits : c.paperRemaining ≤ c.paperCapacity) :
    (c.replace f).paperRemaining = min c.paperRemaining f.paperCapacity := by
  show (if f.paperCapacity = c.paperCapacity then c.paperRemaining else min c.paperRemaining f.paperCapacity) = _
  split
  · omega
  · rfl

/-- What the change leaves: the context but for its owed orders, with a change of condition reported. -/
theorem changeTerminal_leaves {s : State} {c : Context} (hc : s.context c.number = some c) (f : TerminalSet) :
    (∃ o, (s.changeTerminal c f).context c.number =
      some { c.refitted s.defaults f with
        reports := { c.reports with
          condition := c.reports.condition || (c.refitted s.defaults f).condition != c.condition }
        owed := o }) ∧
      Touches (s.moved c f) (s.changeTerminal c f) c.number f.line ∧
      (c.zone ≠ f.zone → (s.changeTerminal c f).stands c.number .plate) := by
  obtain ⟨⟨o, ho⟩, touched, stands⟩ := plated_leaves hc f
  rw [changeTerminal_eq, Context.refitted]
  split
  · have same : (c.replace f).condition = c.condition := rfl
    refine ⟨⟨o, ?_⟩, touched, stands⟩
    rw [ho, same]
    simp [Context.replace]
  · obtain ⟨p, hp⟩ := act_context ho (fun c => c.reevaluate s.defaults) fun _ => rfl
    have told : decide (((c.replace f).reevaluate s.defaults).condition ≠ c.condition) =
        (((c.replace f).reevaluate s.defaults).condition != c.condition) := by
      by_cases same : ((c.replace f).reevaluate s.defaults).condition = c.condition <;> simp [same]
    rw [← told]
    exact ⟨⟨p, hp⟩, touched.trans (act_touches ho _ fun _ => rfl), fun other =>
      act_keeps_stands (kind := .plate) nofun (stands other) (fun _ => rfl) (fun _ => rfl) fun _ => rfl⟩

/-! ### TERMINAL SET (R59 to R61) -/

theorem exec_terminalSet {s : State} {body : List Byte} {f : TerminalSet} (ready : s.ready = true)
    (read : readTerminalSet s.overrideOf body = .ok f) (tag : Byte) :
    exec (.terminalSet tag body) s = .next ((s.accepted tag 14).terminalSet f) := by
  have accepted : readTerminalSet (s.accepted tag 14).overrideOf body = .ok f := read
  rw [exec, execTerminalSet, State.request_ready ready]
  exact congrArg (fun r => Host.Outcome.next ((s.accepted tag 14).owned r fun f s => s.terminalSet f)) accepted

/-- A reply handed over once a request has changed terminals alone: the Link Port has the reply, the rest is as it was. -/
theorem OnlyTerminals.answered {s u : State} {tag kind : Byte} (h : OnlyTerminals (s.accepted tag kind) u)
    (fields : DoneFields) :
    (u.done fields).link = s.link.answered tag kind (.done fields) ∧ (u.done fields).permits = s.permits ∧
      (u.done fields).cash = s.cash ∧ (u.done fields).fare = s.fare ∧ s.sameStore (u.done fields) := by
  obtain ⟨_, _, _, _, rfl⟩ := h
  exact ⟨rfl, rfl, rfl, rfl, rfl, rfl, rfl, rfl, rfl, rfl, rfl, rfl⟩

/-- The checks of TERMINAL SET, in order (R59). -/
theorem terminalSet_checked {s : State} {f : TerminalSet} :
    (s.dropTaken f = true → s.terminalSet f = s.reply .duplicate) ∧
      (s.dropTaken f = false → s.context f.number = none →
        s.terminalSet f = (s.createTerminal f).done (.terminalSet true)) ∧
      ∀ c, s.dropTaken f = false → s.context f.number = some c →
        s.terminalSet f = if s.engaged c then s.reply .state else (s.changeTerminal c f).done (.terminalSet false) := by
  unfold State.terminalSet
  refine ⟨fun taken => if_pos taken, fun untaken fresh => ?_, fun c untaken hc => ?_⟩
  · simp only [untaken, fresh, Bool.false_eq_true, if_false]
  · simp only [untaken, hc, Bool.false_eq_true, if_false]

/-- Settles O26: the three orders of a new context are asked for one after another and each goes on standing, and a change
is made in the order of R61. -/
theorem terminalSetCreatesAndChanges : Obligations.TerminalSetCreatesAndChanges := by
  refine ⟨fun s tag body f ready read fresh untaken => ?_, fun s tag body f c ready read hc => ?_⟩
  · obtain ⟨-, creates, -⟩ := terminalSet_checked (s := s.accepted tag 14) (f := f)
    obtain ⟨⟨o, context⟩, notices, ⟨condition, plate, clock⟩, only, others, lines⟩ :=
      createTerminal_leaves (s := s.accepted tag 14) fresh
    obtain ⟨link, permits, cash, fare, store⟩ := only.answered (.terminalSet true)
    rw [exec_terminalSet ready read, creates untaken fresh]
    refine ⟨_, _, rfl, context, rfl, rfl, rfl, rfl, rfl, rfl, rfl, rfl,
      introduction_faults _ f, rfl, rfl, rfl, rfl, rfl, rfl, rfl, ⟨{ kind := .terminal f.number, count := 1 }, ?_, rfl⟩,
      rfl, rfl, rfl, rfl, rfl, rfl, ⟨condition.ordered context, plate.ordered context, clock.ordered context⟩,
      fun used busy room absent => ?_, fun halted absent => ?_, ⟨others, lines⟩, link, permits, cash, fare, store⟩
    · show _ ∈ ((s.accepted tag 14).createTerminal f).notices
      rw [notices]
      simp
    · obtain ⟨queued, line⟩ := createTerminal_queues (s := s.accepted tag 14) fresh used busy room absent
      have owed := congrArg (Option.map (·.owed)) (context.symm.trans queued)
      exact ⟨Option.some.inj owed, line⟩
    · obtain ⟨owes, line⟩ := createTerminal_owes (s := s.accepted tag 14) fresh halted absent
      have owed := congrArg (Option.map (·.owed)) (context.symm.trans owes)
      exact ⟨Option.some.inj owed, line⟩
  · obtain ⟨refuses, -, goesOn⟩ := terminalSet_checked (s := s.accepted tag 14) (f := f)
    have number : c.number = f.number := State.context_number hc
    rw [exec_terminalSet ready read]
    refine ⟨fun taken => ?_, fun untaken engaged => ?_, fun untaken free => ?_⟩
    · rw [refuses taken]
      rfl
    · rw [goesOn c untaken hc, if_pos (by exact engaged)]
      rfl
    · obtain ⟨u, hu⟩ : ∃ u, u = s.accepted tag 14 := ⟨_, rfl⟩
      have own : u.context c.number = some c := by
        rw [hu, number]
        exact hc
      have unengaged : ¬u.engaged c = true := by
        rw [hu]
        exact Bool.eq_false_iff.mp free
      rw [goesOn c untaken hc, ← hu, if_neg unengaged]
      have defaults : u.defaults = s.defaults := by rw [hu]; rfl
      have line (l : LineNo) : u.line l = s.line l := by rw [hu]; rfl
      obtain ⟨-, moves⟩ := moved_leaves own f
      obtain ⟨⟨o, context⟩, touched, stands⟩ := changeTerminal_leaves own f
      have only : OnlyTerminals (s.accepted tag 14) (u.changeTerminal c f) := hu ▸ moves.only.trans touched.only
      obtain ⟨link, permits, cash, fare, store⟩ := only.answered (.terminalSet false)
      rw [defaults, number] at context
      rw [number] at stands
      generalize hr : c.refitted s.defaults f = r at context
      have refitted := c.refitted_eq s.defaults f
      rw [hr] at refitted
      refine ⟨_, _, rfl, context, ?_, fun fits => ?_, ?_, ?_, fun other => (stands (Ne.symm other)).ordered context,
        fun apart zone box paper => ?_, fun l former new => ?_, fun m other => ?_, link, permits, cash, fare, store⟩
      · rw [refitted]
        rfl
      · rw [refitted]
        exact Context.replace_paper fits
      · rw [refitted, ← hr]
        exact c.refitted_faults s.defaults f
      · rfl
      · have moved : u.changeTerminal c f = u.moved c f := by
          rw [changeTerminal_eq, if_pos ⟨box.symm, paper.symm⟩, State.plated, if_pos zone.symm]
        obtain ⟨owes, empties⟩ := moved_apart own (f := f) fun ⟨line, drop⟩ => apart.elim (absurd line.symm) (absurd drop.symm)
        rw [moved] at context ⊢
        rw [line, number] at owes empties
        exact ⟨congrArg Context.owed (Option.some.inj (context.symm.trans owes)), empties,
          fun l other => (moves.lines l other).trans (line l)⟩
      · exact ((touched.lines l new).trans (moves.lines l former)).trans (line l)
      · rw [← number] at other
        exact ((touched.contexts m other).trans (moves.contexts m other)).trans (by rw [hu]; rfl)

end Sys2Proof.Machine
end

section
/-! SALE and QUOTE results (O24): the checks of a sale, its commit, and the answers that commit nothing. -/

namespace Sys2Proof.Machine

open Sys2Proof

/-! ### The delivery of a QUOTE's or SALE's result (R50) -/

section Results

variable {s : State} {k : Computation} {n request : Nat} {c : Context}

/-- The result of a terminal's request that is no SESSION is taken by the Terminal Table. -/
theorem exec_terminalResult (on : s.mainSupply = true) (computing : s.fare.computing = some k)
    (returns : k.entry.returnTo = .terminal n request) (other : k.entry.kind ≠ .session) :
    ∃ fare, exec .computationComplete s = .next { s.takeTerminal n request k.result with fare := fare } := by
  obtain ⟨fare, run⟩ := exec_computationComplete on computing
  refine ⟨fare, ?_⟩
  rw [run]
  simp [State.deliver, returns, other]

/-- What is left of a state of which the taking of a result changes terminals alone. -/
theorem OnlyTerminals.served {t : State} (h : OnlyTerminals s t) (fare : FareEngine) :
    ({ t with fare := fare } : State).permits = s.permits ∧ ({ t with fare := fare } : State).cash = s.cash ∧
      ({ t with fare := fare } : State).link = s.link ∧ s.sameStore { t with fare := fare } := by
  obtain ⟨_, _, _, _, rfl⟩ := h
  exact ⟨rfl, rfl, rfl, rfl, rfl, rfl, rfl, rfl, rfl, rfl, rfl⟩

/-- A result that only ends the request in flight with an answer (R58). -/
theorem result_answered (on : s.mainSupply = true) (computing : s.fare.computing = some k)
    (returns : k.entry.returnTo = .terminal n request) (other : k.entry.kind ≠ .session) (hc : s.context n = some c)
    {answer : Answer} (taken : s.takeTerminal n request k.result = s.finish n request answer) :
    ∃ t, exec .computationComplete s = .next t ∧ t.context n = some { c with inFlight := none } ∧
      s.answers t c.line n request answer ∧ s.onlyAt t n c.line ∧ t.notices = s.notices ∧ t.permits = s.permits ∧
      t.cash = s.cash ∧ t.link = s.link ∧ s.sameStore t := by
  obtain ⟨fare, run⟩ := exec_terminalResult on computing returns other
  rw [taken] at run
  have touched := finish_touches hc request answer
  exact ⟨_, run, (finish_context s n request answer).trans (congrArg (Option.map _) hc), finish_answers hc request answer,
    touched.onlyAt, finish_notices s n request answer, touched.only.served fare⟩

/-! ### QUOTE results (R67) -/

theorem takeTerminal_quote (hc : s.context n = some c)
    (flight : c.inFlight = some { kind := .quote, number := request, withdrawn := false }) :
    s.takeTerminal n request k.result = s.finish n request (quoteAnswer c.condition k.copy.version k.walk) := by
  simp [State.takeTerminal, hc, flight]

theorem quoteAnswer_computed (version : Nat) (f : Figures) :
    quoteAnswer .inService version (.computed f) =
      .quoted f.expiry f.charged f.unused f.minutes f.freeStart f.ending version := rfl

theorem quoteAnswer_reason {walk : Walk} {reason : Reason} (h : walk.reason = some reason) (version : Nat) :
    quoteAnswer .inService version walk = .refused reason := by
  cases walk with
  | computed f => nomatch h
  | zoneNotTariffed | belowMinimum | zoneNotPermitted | freeParking start | insufficient start =>
    obtain rfl := Option.some.inj h
    rfl

/-- In no other condition does the walk matter. -/
theorem quoteAnswer_closed {condition : Condition} (out : condition ≠ .inService) (version : Nat) (walk : Walk) :
    quoteAnswer condition version walk = .refused (if condition = .restricted then .coinsClosed else .notInService) := by
  cases condition with
  | inService => exact absurd rfl out
  | restricted | unconfigured | inCollection | suspended | outOfService => rfl

/-! ### SALE results (R69, R70) -/

/-- The checks of a sale as the statement has them are the model's. -/
theorem saleRefusal_eq {f : Figures} (walk : k.walk = .computed f) :
    saleRefusal s.clock.valid c.condition = s.saleFails c k.walk := by
  simp only [State.saleFails, walk, saleRefusal, Bool.not_eq_true']

theorem takeTerminal_sale {coins : Coins} {quote : Option Nat} (hc : s.context n = some c)
    (flight : c.inFlight = some { kind := .sale coins quote, number := request, withdrawn := false }) :
    s.takeTerminal n request k.result =
      s.takeSale c { kind := .sale coins quote, number := request, withdrawn := false } coins quote k.result k.copy.version
        k.walk := by
  simp [State.takeTerminal, hc, flight]

/-- A sale that fails a check is refused with that check's reason (R69). -/
theorem takeSale_refused {coins : Coins} {quote : Option Nat} {flight : InFlight} {reason : Reason}
    (fails : s.saleFails c k.walk = some reason) :
    s.takeSale c flight coins quote k.result k.copy.version k.walk = s.finish c.number flight.number (.refused reason) := by
  cases walk : k.walk with
  | computed f =>
    rw [← saleRefusal_eq walk] at fails
    simp [State.takeSale, fails]
  | zoneNotTariffed | belowMinimum | zoneNotPermitted | freeParking start | insufficient start =>
    rw [walk] at fails
    have reason_ : k.walk.reason = some reason := by rw [walk]; exact fails
    rw [walk] at reason_
    simp only [State.takeSale, reason_]

/-- The context of a terminal whose serial, tally and paper a sale has changed (R70 steps 1 to 3). -/
def Context.sold (c : Context) (defaults : Thresholds) (coins : Coins) : Context :=
  ({ c with serial := nextSerial c.serial, tally := c.tally.add coins } : Context).usePaper defaults

/-- The ticket of a sale (R70 step 4). -/
def saleTicket (c : Context) (k : Computation) (f : Figures) (quote : Option Nat) : Ticket :=
  k.result.ticket k.copy.version f c.number (nextSerial c.serial) (quote.any (· != k.copy.version)) false none

/-- A sale that passes every check: the commit, the last ticket and the answer (R70). -/
theorem takeSale_committed {coins : Coins} {quote : Option Nat} {flight : InFlight} {f : Figures} (walk : k.walk = .computed f)
    (passes : s.saleFails c k.walk = none) :
    s.takeSale c flight coins quote k.result k.copy.version k.walk =
      ((s.act c.number fun d => ({ d with serial := nextSerial c.serial, tally := d.tally.add coins } : Context).usePaper
          s.defaults).onContext c.number fun d => { d with last := some (flight.number, saleTicket c k f quote) }).finish
        c.number flight.number (.ticket (saleTicket c k f quote)) := by
  rw [← saleRefusal_eq walk] at passes
  simp only [State.takeSale, walk, passes, State.commitSale]
  cases quote with
  | none | some version => rfl

/-- PAPER OUT after a ticket (R124). -/
theorem Context.sold_paperOut (c : Context) (defaults : Thresholds) (coins : Coins) :
    (c.sold defaults coins).faults.paperOut = true ↔
      c.faults.paperOut = true ∨ (c.sold defaults coins).paperRemaining = 0 := by
  show (c.faults.paperOut || c.paperRemaining - 1 == 0) = true ↔ _ ∨ c.paperRemaining - 1 = 0
  rw [Bool.or_eq_true, beq_iff_eq]

/-- What a commit leaves: the terminal's context but for its reports and owed orders, and the line's answer. -/
theorem sale_committed {coins : Coins} {quote : Option Nat} {f : Figures} (on : s.mainSupply = true)
    (computing : s.fare.computing = some k) (returns : k.entry.returnTo = .terminal n request)
    (other : k.entry.kind ≠ .session) (hc : s.context n = some c)
    (flight : c.inFlight = some { kind := .sale coins quote, number := request, withdrawn := false })
    (walk : k.walk = .computed f) (passes : s.saleFails c k.walk = none) :
    ∃ t reports owed, exec .computationComplete s = .next t ∧
      t.context n = some { c.sold s.defaults coins with
        reports := reports, owed := owed, last := some (request, saleTicket c k f quote), inFlight := none } ∧
      s.answers t c.line n request (.ticket (saleTicket c k f quote)) ∧ s.onlyAt t n c.line ∧ t.permits = s.permits ∧
      t.cash = s.cash ∧ t.link = s.link ∧ s.sameStore t := by
  obtain rfl := State.context_number hc
  obtain ⟨fare, run⟩ := exec_terminalResult on computing returns other
  rw [takeTerminal_sale hc flight, takeSale_committed walk passes] at run
  let commit (d : Context) : Context :=
    ({ d with serial := nextSerial c.serial, tally := d.tally.add coins } : Context).usePaper s.defaults
  obtain ⟨o, counted⟩ := act_context hc commit fun _ => rfl
  have touched := act_touches hc commit fun _ => rfl
  have kept := act_keepsExchange s c.number commit c.line
  generalize s.act c.number commit = u at run counted touched kept
  have noted := (State.context_onContext_self u c.number
    (fun d => { d with last := some (request, saleTicket c k f quote) }) fun _ => rfl).trans (congrArg (Option.map _) counted)
  have touched := (touched.trans (onContext_touches u c.number _ (by intro _; rfl) _)).trans
    (finish_touches noted request (.ticket (saleTicket c k f quote)))
  refine ⟨_, { c.reports with condition := c.reports.condition || decide ((commit c).condition ≠ c.condition) }, o, run, ?_, ?_,
    touched.onlyAt, touched.only.served fare⟩
  · exact (finish_context _ c.number request _).trans (congrArg (Option.map _) noted)
  · exact answers_of_kept kept (finish_answers noted request _)

end Results

/-- Settles O24: the model's checks are the statement's, and the commit is one act of the terminal before its answer. -/
theorem salesAreCommittedOrRefused : Obligations.SalesAreCommittedOrRefused := by
  intro s k n request c on computing returns hc
  have number := State.context_number hc
  refine ⟨fun coins quote f sale flight walk passes => ?_, fun coins quote reason sale flight fails => ?_,
    fun quote flight => ?_, fun kind other flight => ?_⟩
  · have other : k.entry.kind ≠ .session := by rw [sale]; nofun
    obtain ⟨t, reports, owed, run, context, answers, only, store⟩ :=
      sale_committed on computing returns other hc flight walk passes
    refine ⟨t, _, _, run, context, rfl, rfl, rfl, c.sold_paperOut s.defaults coins, rfl, ?_, rfl, answers, rfl, rfl, rfl, rfl,
      only, store⟩
    rw [saleTicket, number, FareResult.ticket, Computation.walk_start walk]
    rfl
  · have other : k.entry.kind ≠ .session := by rw [sale]; nofun
    exact result_answered on computing returns other hc
      ((takeTerminal_sale hc flight).trans ((takeSale_refused fails).trans (by rw [number])))
  · have other : k.entry.kind ≠ .session := by rw [quote]; nofun
    obtain ⟨t, run, context, answers, only, notices, permits, cash, link, store⟩ :=
      result_answered on computing returns other hc (takeTerminal_quote hc flight)
    refine ⟨t, run, context, fun f in_ walk => ?_, fun reason in_ fails => ?_, fun restricted => ?_, fun out open_ => ?_,
      only, notices, permits, cash, link, store⟩
    · rwa [in_, walk, quoteAnswer_computed] at answers
    · rwa [in_, quoteAnswer_reason fails] at answers
    · rwa [restricted, quoteAnswer_closed (condition := .restricted) nofun, if_pos rfl] at answers
    · rwa [quoteAnswer_closed out, if_neg open_] at answers
  · obtain ⟨fare, run⟩ := exec_terminalResult on computing returns other
    rw [takeTerminal_marked hc flight rfl rfl] at run
    have touched := onContext_touches s n (fun c => { c with inFlight := none }) (by intro _; rfl) c.line
    exact ⟨_, run, (State.context_onContext_self s n _ (by intro _; rfl)).trans (congrArg (Option.map _) hc),
      touched.contexts, rfl, rfl, touched.only.served fare⟩

end Sys2Proof.Machine
end

section
/-! Requests of terminals (O49, O50): a request received sets its exchange to wait for the answer, and is then answered at once,
or takes the terminal's referral off the list, or is placed (R64 to R66, R95). -/

namespace Sys2Proof.Machine

open Sys2Proof

/-! ### A request is received (R147) -/

/-- The exchange that waits for the answer to a request. -/
def Exchange.asking (e : Exchange) (number : Nat) (r : Option TermRequest) : Exchange :=
  { e with phase := .engine, taken := some (.request number r) }

/-- The line whose exchange waits for the answer to a request. -/
def Line.asking (L : Line) (e : Exchange) (number : Nat) (r : Option TermRequest) : Line :=
  { L with
    state := if L.state = .stopping then .stopping else .awaitEngine
    exchange := some (e.asking number r) }

/-- The state once a good frame's request has been taken from the line, before the request is looked at. -/
def State.asked (s : State) (l : LineNo) (e : Exchange) (number : Nat) (r : Option TermRequest) : State :=
  (s.goodFrame l e.terminal).onLine l fun L => L.asking e number r

/-- The commands of a request, a malformed one being `none` (R64). -/
inductive Requests (l : LineNo) (drop number : Byte) (rest : List Byte) : Instr → Option TermRequest → Prop where
  | quote {r} : readQuote rest = some r → Requests l drop number rest (.quote l drop number rest) r
  | sale {r} : readSale rest = some r → Requests l drop number rest (.sale l drop number rest) r
  | session {r} : readSession rest = some r → Requests l drop number rest (.session l drop number rest) r
  | cancel : Requests l drop number rest (.cancel l drop number []) (some .cancel)

theorem received_request {s : State} {l : LineNo} {e : Exchange} {c : Context} {drop number : Byte} (awaits : s.awaits l e c)
    (poll : e.frame = .poll) (own : drop.toNat = e.drop) (r : Option TermRequest) :
    s.working (fun s => s.received l drop.toNat (requestFrame number (some r))) =
      (s.asked l e number.toNat r).takeRequest e.terminal number.toNat r := by
  obtain ⟨on, listening, -⟩ := awaits
  simp only [State.working, on, State.received, listening, own, poll, SentFrame.expects, requestFrame, and_self, if_true]
  rfl

theorem exec_request {s : State} {l : LineNo} {e : Exchange} {c : Context} {drop number : Byte} {rest : List Byte} {i : Instr}
    {r : Option TermRequest} (requests : Requests l drop number rest i r) (awaits : s.awaits l e c) (poll : e.frame = .poll)
    (own : drop.toNat = e.drop) :
    exec i s = .next ((s.asked l e number.toNat r).takeRequest e.terminal number.toNat r) := by
  rw [← received_request awaits poll own r]
  cases requests with
  | quote read | sale read | session read => rw [← read]; rfl
  | cancel => rfl

/-- A terminal's exchange waits for the answer to its request; of the rest only that terminal and its line may have changed. -/
structure Asked (s w : State) (l : LineNo) (c : Context) (e : Exchange) (number : Nat) (r : Option TermRequest) : Prop where
  touched : Touches s w e.terminal l
  context : w.context e.terminal = some c
  line : c.line = l
  state : (w.line l).state = if (s.line l).state = .stopping then .stopping else .awaitEngine
  exchange : (w.line l).exchange = some (e.asking number r)

theorem Line.listening_exchange {L : Line} {e : Exchange} (h : L.listening = some e) : L.exchange = some e := by
  unfold Line.listening at h
  exact (Option.filter_eq_some_iff.mp h).1

/-- The request of a terminal that is not SILENT. -/
theorem asked_of_hears {s : State} {l : LineNo} {e : Exchange} {c : Context} (hears : s.hears l e c) (number : Nat)
    (r : Option TermRequest) :
    Asked s (s.asked l e number r) l c e number r ∧ (s.asked l e number r).notices = s.notices := by
  obtain ⟨⟨-, -, -, hc, line⟩, sounds⟩ := hears
  obtain ⟨touched, turned, context, notices⟩ := goodFrame_leaves hc sounds l
  refine ⟨⟨touched.trans (onLine_touches _ l _ _), context, line, ?_, ?_⟩, notices⟩
  · rw [State.asked, State.line_onLine, if_pos rfl, turned]
    rfl
  · rw [State.asked, State.line_onLine, if_pos rfl]
    rfl

/-! ### SILENT is removed (R125, R150) -/

/-- An order asked for changes of its terminal at most that the order is owed. -/
theorem askOrder_owed {s : State} {n : Nat} {c : Context} (hc : s.context n = some c) (kind : OrderKind) :
    (s.askOrder n kind).context n = some c ∨
      (s.askOrder n kind).context n = some { c with owed := c.owed.set kind true } := by
  have queued (L : Line → Line) : ((s.onLine c.line L).chooseIfIdle c.line).context n = some c :=
    ((chooseIfIdle_only _ _).context n).trans hc
  simp only [State.askOrder, hc]
  repeat' split
  · exact .inl hc
  · exact .inl hc
  · exact .inr (owe_context hc kind)
  · exact .inr (owe_context hc kind)
  · exact .inr (owe_context hc kind)
  · exact .inl (queued _)

/-- What a good frame leaves of its terminal, whatever stands in the directed queue: a change of condition is reported, and the
CONDITION order stands. -/
theorem goodFrame_unsilences {s : State} {l : LineNo} {n : Nat} {c : Context} (hc : s.context n = some c) (line : c.line = l) :
    Touches s (s.goodFrame l n) n l ∧ KeepsExchange s (s.goodFrame l n) l ∧
      (s.goodFrame l n).notices = s.noticesOnceHeard c ∧
      ∃ o, (s.goodFrame l n).context n = some { c.unsilenced with owed := o } ∧ (o = c.owed ∨ o = c.owedOnceHeard) ∧
        (c.revived = true → (s.goodFrame l n).stands n .condition) := by
  obtain ⟨v, hv⟩ : ∃ v, v = s.onLine l fun L => { L with turnaround := true } := ⟨_, rfl⟩
  have turned : Touches s v n l := hv ▸ onLine_touches s l _ n
  have same : KeepsExchange s v l := fun _ => by
    rw [hv, State.line_onLine, if_pos rfl]
    exact ⟨rfl, rfl⟩
  have hcv : v.context n = some c := by rw [hv]; exact hc
  have notices : v.notices = s.notices := by rw [hv]; rfl
  have act : s.goodFrame l n = v.act n Context.heard := by rw [hv]; rfl
  have heard : (v.onContext n Context.heard).context n = some c.heard := by
    rw [State.context_onContext_self v n _ (by intro _; rfl), hcv]
    rfl
  have touched := turned.trans (line ▸ act_touches hcv Context.heard (by intro _; rfl))
  rw [act]
  refine ⟨touched, same.trans (act_keepsExchange v n _ l), ?_⟩
  cases revived : c.revived with
  | false =>
    have quiet : c.heard.condition = c.condition := by simpa [Context.revived] using revived
    rw [act_quiet hcv Context.heard (by intro _; rfl) quiet]
    refine ⟨?_, c.owed, ?_, .inl rfl, nofun⟩
    · simp [State.noticesOnceHeard, revived, ← notices]
    · rw [heard, Context.unsilenced, revived, Bool.or_false]
      rfl
  | true =>
    have changed : c.heard.condition ≠ c.condition := by simpa [Context.revived] using revived
    obtain ⟨r, hr⟩ : ∃ r, r = (v.onContext n Context.heard).report n fun r => { r with condition := true } := ⟨_, rfl⟩
    have asked : v.act n Context.heard = r.askOrder n .condition := by
      rw [hr]
      simp [State.act, State.condition, heard, hcv, changed]
    have told : r.context n = some c.unsilenced := by
      rw [hr, report_context, heard, Context.unsilenced, revived, Bool.or_true]
      rfl
    have once : c.owedOnceHeard = c.unsilenced.owed.set .condition true := by
      rw [Context.owedOnceHeard, revived, Bool.or_true]
      rfl
    rw [asked]
    refine ⟨?_, ?_⟩
    · rw [askOrder_notices, hr, report_condition_notices heard, State.noticesOnceHeard, revived, State.context_number hc,
        ← notices]
      simp
      rfl
    · have stands := askOrder_asked (kind := .condition) nofun told
      rcases askOrder_owed told .condition with kept | owed
      · exact ⟨c.owed, kept, .inl rfl, fun _ => stands⟩
      · exact ⟨_, owed, .inr once.symm, fun _ => stands⟩

/-- The request of a terminal that may be SILENT. -/
theorem asked_of_awaits {s : State} {l : LineNo} {e : Exchange} {c : Context} (awaits : s.awaits l e c)
    (poll : e.frame = .poll) (number : Nat) (r : Option TermRequest) :
    ∃ o, Asked s (s.asked l e number r) l { c.unsilenced with owed := o } e number r ∧ (o = c.owed ∨ o = c.owedOnceHeard) ∧
      (s.asked l e number r).notices = s.noticesOnceHeard c ∧
      (c.revived = true → o.condition = true ∨ ((s.asked l e number r).line l).holds e.terminal .condition = true) := by
  obtain ⟨-, listening, busy, hc, line⟩ := awaits
  obtain ⟨touched, kept, notices, o, context, owed, stands⟩ := goodFrame_unsilences hc line
  obtain ⟨state, exchange⟩ := kept busy
  refine ⟨o, ⟨touched.trans (onLine_touches _ l _ _), context, line, ?_, ?_⟩, owed, notices, fun revived => ?_⟩
  · rw [State.asked, State.line_onLine, if_pos rfl]
    exact (congrArg (fun x => if x = LineState.stopping then LineState.stopping else .awaitEngine) state)
  · rw [State.asked, State.line_onLine, if_pos rfl]
    rfl
  · rw [State.asked, State.line_onLine, if_pos rfl]
    rcases (stands revived).ordered context with owes | queued | ⟨x, hx, -, orders⟩
    · exact .inl owes
    · right
      rw [show ({ c.unsilenced with owed := o } : Context).line = l from line] at queued
      rw [show ({ c.unsilenced with owed := o } : Context).number = e.terminal from State.context_number context] at queued
      exact queued
    · rw [show ({ c.unsilenced with owed := o } : Context).line = l from line, exchange,
        Line.listening_exchange listening] at hx
      obtain rfl := Option.some.inj hx
      rw [poll] at orders
      exact nomatch orders

/-! ### What becomes of it -/

/-- The state whose list a referral has left, if it was WAITING. -/
def State.unlisted (s : State) (referrals : List Referral) : State :=
  { s with permits := { s.permits with referrals := referrals } }

section

variable {s w : State} {l : LineNo} {c : Context} {e : Exchange} {number : Nat} {r : Option TermRequest}

theorem Line.answer_exchange (L : Line) (e : Exchange) (number : Nat) (answer : Answer) :
    (L.answer e number answer).exchange = some { e with phase := .answer, answer := some (number, answer) } := by
  cases turned : L.turnaround <;> simp [Line.answer, Line.transmit, turned]

theorem Line.answer_state (L : Line) (e : Exchange) (number : Nat) (answer : Answer) :
    (L.answer e number answer).state = if L.state = .stopping then .stopping else .awaitReply := by
  cases turned : L.turnaround <;> simp [Line.answer, Line.transmit, turned]

/-- An answer handed over at once (R148). -/
theorem Asked.answered (h : Asked s w l c e number r) (answer : Answer) :
    let t := w.handAnswer e.terminal number answer
    t.context e.terminal = some c ∧
      (t.line l).exchange = some (e.answering (.request number r) number answer) ∧
      (t.line l).state = (if (s.line l).state = .stopping then .stopping else .awaitReply) ∧ s.onlyAt t e.terminal l ∧
      t.fare = s.fare ∧ t.permits = s.permits ∧ t.cash = s.cash ∧ t.link = s.link ∧ t.notices = w.notices ∧
      s.sameStore t := by
  have hand : w.handAnswer e.terminal number answer = w.onLine l fun L => L.answer (e.asking number r) number answer := by
    simp [State.handAnswer, h.context, h.line, h.exchange, Exchange.asking, FromTerminal.isRequest]
  have touched := h.touched.trans (onLine_touches w l (fun L => L.answer (e.asking number r) number answer) e.terminal)
  obtain ⟨cash, permits, fare, link, store⟩ := touched.only.store
  rw [hand]
  refine ⟨h.context, ?_, ?_, touched.onlyAt, fare, permits, cash, link, rfl, store⟩
  · rw [State.line_onLine, if_pos rfl, Line.answer_exchange]
    rfl
  · rw [State.line_onLine, if_pos rfl, Line.answer_state, h.state]
    split <;> rfl

theorem OnlyTerminals.fareWith {t : State} (h : OnlyTerminals s t) (entry : FareEntry) : t.fareWith entry = s.fareWith entry := by
  obtain ⟨_, _, _, _, rfl⟩ := h
  rfl

theorem Asked.setInFlight (h : Asked s w l c e number r) (flight : FlightKind) :
    Asked s (w.setInFlight e.terminal flight number) l
      { c with inFlight := some { kind := flight, number := number, withdrawn := false } } e number r where
  touched := h.touched.trans (onContext_touches w _ _ (by intro _; rfl) l)
  context := (State.context_onContext_self w _ _ (by intro _; rfl)).trans (congrArg (Option.map _) h.context)
  line := h.line
  state := h.state
  exchange := h.exchange

/-- A QUOTE or SALE placed on the fare queue (R65 test 5). -/
theorem Asked.placed (h : Asked s w l c e number r) (flight : FlightKind) (kind : FareKind) (pence : Nat) :
    let t := (w.setInFlight e.terminal flight number).placeRequest c number kind pence
    t.context e.terminal = some { c with inFlight := some { kind := flight, number := number, withdrawn := false } } ∧
      t.fare = s.fareWith (c.fareEntry kind pence number) ∧ t.line l = w.line l ∧ s.onlyAt t e.terminal l ∧
      t.permits = s.permits ∧ t.cash = s.cash ∧ t.link = s.link ∧ t.notices = w.notices ∧ s.sameStore t := by
  have set := h.setInFlight flight
  obtain ⟨cash, permits, -, link, store⟩ := set.touched.only.store
  rw [State.placeRequest, placeFare_eq]
  exact ⟨set.context, set.touched.only.fareWith _, rfl, set.touched.onlyAt, permits, cash, link, rfl, store⟩

/-- A SESSION placed as a LOOKUP in an idle Permit Table (R65 test 6, R81). -/
theorem Asked.looked (h : Asked s w l c e number r) (idle : s.permits.working = none) (permit minutes : Nat) :
    let lookup : Lookup :=
      { terminal := e.terminal, request := number, permit := permit, minutes := minutes, zone := c.zone }
    let t := (w.setInFlight e.terminal .session number).placeOp (.lookup lookup)
    t.context e.terminal = some { c with inFlight := some { kind := .session, number := number, withdrawn := false } } ∧
      t.permits = { s.permits with working := some (.lookup lookup false) } ∧ t.line l = w.line l ∧
      s.onlyAt t e.terminal l ∧ t.fare = s.fare ∧ t.cash = s.cash ∧ t.link = s.link ∧ t.notices = w.notices ∧
      s.sameStore t := by
  have set := h.setInFlight .session
  obtain ⟨cash, permits, fare, link, store⟩ := set.touched.only.store
  have begun (op : PermitOp) : (w.setInFlight e.terminal .session number).placeOp op =
      (w.setInFlight e.terminal .session number).beginOp op := by
    simp only [State.placeOp, permits, idle]
  simp only [begun, State.beginOp]
  refine ⟨set.context, ?_, rfl, set.touched.onlyAt, fare, cash, link, rfl, store⟩
  show ({ (w.setInFlight e.terminal .session number).permits with working := _ } : Permits) = _
  rw [permits]

/-- A referral taken off the list (R93, R95): what is left is as if it had not been in the list. -/
theorem Asked.dropped (h : Asked s w l c e number r) {q : Referral} (own : q.terminal = e.terminal) :
    Asked (s.unlisted (s.permits.referrals.filter fun x => x.number != q.number))
      (w.dropReferral q) l (c.unreferred q.number) e number r := by
  obtain ⟨cs, ls, ns, a, rfl⟩ := h.touched.only
  have only := dropReferral_onlyAt (r := q) (l := l) (own ▸ h.touched.onlyAt)
  rw [own] at only
  refine ⟨⟨⟨_, _, _, _, rfl⟩, only.1, only.2⟩, ?_, h.line, h.state, h.exchange⟩
  rw [← own]
  exact dropReferral_context_self (own ▸ h.context)

end

/-! ### Which of these it is (R65, R66) -/

section

variable {w : State} {n number : Nat} {c : Context} {request : TermRequest}

/-- A request that is placed on the fare queue when it meets nothing (R65 tests 4 and 5). -/
inductive Priced (c : Context) (number : Nat) : TermRequest → FareKind → FlightKind → Nat → Prop where
  | quote (amount : Nat) : Priced c number (.quote amount) .quote .quote amount
  | sale (coins : Coins) (version : Option Nat) (fresh : ∀ last, c.last = some last → last.1 ≠ number) :
    Priced c number (.sale coins version) .sale (.sale coins version) coins.pence

theorem priced_of_read {l : LineNo} {drop number : Byte} {rest : List Byte} {i : Instr} {kind : FareKind} {flight : FlightKind}
    {pence : Nat}
    (h : (i = .quote l drop number rest ∧ kind = .quote ∧ flight = .quote ∧ readQuote rest = some (some (.quote pence))) ∨
      ∃ coins version, i = .sale l drop number rest ∧ kind = .sale ∧ flight = .sale coins version ∧
        readSale rest = some (some (.sale coins version)) ∧ pence = coins.pence ∧
        ∀ last, c.last = some last → last.1 ≠ number.toNat) :
    ∃ request, Requests l drop number rest i (some request) ∧ Priced c number.toNat request kind flight pence := by
  rcases h with ⟨rfl, rfl, rfl, read⟩ | ⟨coins, version, rfl, rfl, rfl, read, rfl, fresh⟩
  · exact ⟨_, .quote read, .quote pence⟩
  · exact ⟨_, .sale read, .sale coins version fresh⟩

theorem last_fresh (fresh : ∀ last, c.last = some last → last.1 ≠ number) : (c.last.filter fun l => l.1 == number) = none := by
  rw [Option.filter_eq_none_iff]
  simpa using fresh

theorem serveRequest_priced {kind : FareKind} {flight : FlightKind} {pence : Nat}
    (priced : Priced c number request kind flight pence) (w : State) :
    w.serveRequest c number request = (w.setInFlight c.number flight number).placeRequest c number kind pence := by
  cases priced with
  | quote amount => rfl
  | sale coins version fresh => simp only [State.serveRequest, last_fresh fresh]

theorem serveRequest_session (fresh : ∀ last, c.last = some last → last.1 ≠ number) (w : State) (permit minutes : Nat) :
    w.serveRequest c number (.session permit minutes) =
      (w.setInFlight c.number .session number).placeOp
        (.lookup { terminal := c.number, request := number, permit := permit, minutes := minutes, zone := c.zone }) := by
  simp only [State.serveRequest, last_fresh fresh]

/-- A SALE or a SESSION, which the last ticket answers that has its number (R66). -/
def TermRequest.isIssuing : TermRequest → Bool
  | .sale _ _ | .session _ _ => true
  | .quote _ | .cancel => false

theorem serveRequest_repeated {ticket : Ticket} (last : c.last = some (number, ticket)) (issuing : request.isIssuing = true)
    (w : State) : w.serveRequest c number request = w.handAnswer c.number number (.ticket ticket) := by
  have found : (c.last.filter fun l => l.1 == number) = some (number, ticket) := by simp [last]
  cases request with
  | sale coins version | session permit minutes => simp only [State.serveRequest, found]
  | quote amount | cancel => nomatch issuing

theorem takeRequest_malformed (hc : w.context n = some c) :
    w.takeRequest n number none = w.handAnswer n number (.refused .badRequest) := by
  simp only [State.takeRequest, hc]

theorem takeRequest_busy (hc : w.context n = some c) (flight : c.inFlight ≠ none) (request : TermRequest) :
    w.takeRequest n number (some request) = w.handAnswer n number .busy := by
  simp [State.takeRequest, hc, Option.isSome_iff_ne_none, flight]

theorem takeRequest_cancel (hc : w.context n = some c) (idle : c.inFlight = none) :
    w.takeRequest n number (some .cancel) = w.cancelRequest n number := by
  simp [State.takeRequest, hc, idle]

theorem takeRequest_serves (hc : w.context n = some c) (idle : c.inFlight = none) (other : request ≠ .cancel)
    (unreferred : c.referral = none) : w.takeRequest n number (some request) = w.serveRequest c number request := by
  simp [State.takeRequest, hc, idle, other, unreferred]

theorem takeRequest_referred {mark : ReferralMark} (hc : w.context n = some c) (idle : c.inFlight = none)
    (other : request ≠ .cancel) (marked : c.referral = some mark) (referred : request.isReferred number mark = true) :
    w.takeRequest n number (some request) = w.handAnswer n number .wait := by
  simp [State.takeRequest, hc, idle, other, marked, referred]

theorem takeRequest_goesOn {mark : ReferralMark} (hc : w.context n = some c) (idle : c.inFlight = none)
    (other : request ≠ .cancel) (marked : c.referral = some mark) (goesOn : request.isReferred number mark = false) :
    w.takeRequest n number (some request) = (w.implicitCancel n).serveRequest c number request := by
  simp [State.takeRequest, hc, idle, other, marked, goesOn]

theorem Priced.ne_cancel {kind : FareKind} {flight : FlightKind} {pence : Nat}
    (priced : Priced c number request kind flight pence) : request ≠ .cancel := by
  cases priced <;> nofun

theorem Priced.goesOn {kind : FareKind} {flight : FlightKind} {pence : Nat}
    (priced : Priced c number request kind flight pence) (mark : ReferralMark) : request.isReferred number mark = false := by
  cases priced <;> rfl

end

theorem State.awaits.number {s : State} {l : LineNo} {e : Exchange} {c : Context} (h : s.awaits l e c) :
    c.number = e.terminal := by
  obtain ⟨-, -, -, hc, -⟩ := h
  exact State.context_number hc

/-- A request that meets nothing is placed on the fare queue, whatever a good frame has left of its terminal's context. -/
theorem Asked.priced {s : State} {l : LineNo} {e : Exchange} {c : Context} {drop number : Byte} {rest : List Byte} {i : Instr}
    {request : TermRequest} {kind : FareKind} {flight : FlightKind} {pence : Nat}
    (asked : Asked s (s.asked l e number.toNat (some request)) l c e number.toNat (some request))
    (requests : Requests l drop number rest i (some request)) (awaits : ∃ c, s.awaits l e c) (poll : e.frame = .poll)
    (own : drop.toNat = e.drop) (idle : c.inFlight = none) (unreferred : c.referral = none)
    (priced : Priced c number.toNat request kind flight pence) :
    ∃ t, exec i s = .next t ∧
      t.context e.terminal =
        some { c with inFlight := some { kind := flight, number := number.toNat, withdrawn := false } } ∧
      t.fare = s.fareWith (c.fareEntry kind pence number.toNat) ∧
      t.line l = (s.asked l e number.toNat (some request)).line l ∧ s.onlyAt t e.terminal l ∧ t.permits = s.permits ∧
      t.cash = s.cash ∧ t.link = s.link ∧ t.notices = (s.asked l e number.toNat (some request)).notices ∧ s.sameStore t := by
  obtain ⟨_, awaits⟩ := awaits
  have run := exec_request requests awaits poll own
  rw [takeRequest_serves asked.context idle priced.ne_cancel unreferred, serveRequest_priced priced,
    State.context_number asked.context] at run
  exact ⟨_, run, asked.placed flight kind pence⟩

/-- Settles O49: a good frame leaves the request to be looked at, whether SILENT was removed or not, and a request that
meets nothing is placed. -/
theorem requestsArePlaced : Obligations.RequestsArePlaced := by
  refine ⟨fun s l e c drop number rest hears poll own idle unreferred => ⟨fun amount read => ?_,
    fun coins version read fresh => ?_, fun permit minutes read free fresh => ?_⟩,
    fun s l e c drop number rest i kind flight pence awaits silent poll own idle unreferred reads => ?_⟩
  · obtain ⟨asked, notices⟩ := asked_of_hears hears number.toNat (some (.quote amount))
    obtain ⟨t, run, context, fare, line, only, permits, cash, link, same, store⟩ :=
      asked.priced (.quote read) ⟨c, hears.1⟩ poll own idle unreferred (.quote amount)
    refine ⟨t, _, run, context, ?_, fare, line ▸ asked.state, line ▸ asked.exchange, only, permits, cash, link,
      same.trans notices, store⟩
    rw [Context.fareEntry, State.context_number asked.context]
  · obtain ⟨asked, notices⟩ := asked_of_hears hears number.toNat (some (.sale coins version))
    obtain ⟨t, run, context, fare, line, only, permits, cash, link, same, store⟩ :=
      asked.priced (.sale read) ⟨c, hears.1⟩ poll own idle unreferred (.sale coins version fresh)
    refine ⟨t, _, run, context, ?_, fare, line ▸ asked.state, only, permits, cash, link, same.trans notices, store⟩
    rw [Context.fareEntry, State.context_number asked.context]
  · obtain ⟨asked, notices⟩ := asked_of_hears hears number.toNat (some (.session permit minutes))
    have run := exec_request (number := number) (.session read) hears.1 poll own
    rw [takeRequest_serves (request := .session permit minutes) asked.context idle nofun unreferred, serveRequest_session fresh,
      State.context_number asked.context] at run
    obtain ⟨context, permits, line, only, fare, cash, link, same, store⟩ := asked.looked free permit minutes
    exact ⟨_, run, context, permits, line ▸ asked.state, only, fare, cash, link, same.trans notices, store⟩
  · obtain ⟨request, requests, priced⟩ := priced_of_read reads
    obtain ⟨o, asked, owed, notices, stands⟩ := asked_of_awaits awaits poll number.toNat (some request)
    have priced : Priced { c.unsilenced with owed := o } number.toNat request kind flight pence := by
      cases priced with
      | quote => exact .quote _
      | sale coins version fresh => exact .sale coins version fresh
    obtain ⟨t, run, context, fare, line, only, permits, cash, link, same, store⟩ :=
      asked.priced requests ⟨c, awaits⟩ poll own idle unreferred priced
    refine ⟨t, _, run, context, rfl, owed, fun revived => ?_, same.trans notices, fare, line ▸ asked.state, only, permits, cash,
      link, store⟩
    refine (stands revived).imp id fun queued => .inl ?_
    show (t.line c.line).holds c.number .condition = true
    rw [show c.line = l from asked.line, line, awaits.number]
    exact queued

end Sys2Proof.Machine
end

section
/-! Requests answered at once, and those that take a referral off the list and go on (O50; R64 to R66, R95). -/

namespace Sys2Proof.Machine

open Sys2Proof

/-! ### What the readers give -/

theorem readSale_sale {rest : List Byte} {r : TermRequest} (h : readSale rest = some (some r)) :
    ∃ coins version, r = .sale coins version := by
  unfold readSale at h
  split at h
  · split at h
    · obtain rfl := Option.some.inj (Option.some.inj h)
      exact ⟨_, _, rfl⟩
    · cases h
  · cases h

theorem readSession_session {rest : List Byte} {r : TermRequest} (h : readSession rest = some (some r)) :
    ∃ permit minutes, r = .session permit minutes := by
  unfold readSession at h
  split at h
  · split at h
    · obtain rfl := Option.some.inj (Option.some.inj h)
      exact ⟨_, _, rfl⟩
    · cases h
  · cases h

theorem TermRequest.ne_cancel_of_issuing {r : TermRequest} (h : r.isIssuing = true) : r ≠ .cancel := by
  rintro rfl
  cases h

theorem issuing_requests {l : LineNo} {drop number : Byte} {rest : List Byte} {i : Instr} {r : TermRequest}
    (h : i = .sale l drop number rest ∧ readSale rest = some (some r) ∨
      i = .session l drop number rest ∧ readSession rest = some (some r)) :
    Requests l drop number rest i (some r) ∧ r.isIssuing = true := by
  rcases h with ⟨rfl, read⟩ | ⟨rfl, read⟩
  · obtain ⟨coins, version, rfl⟩ := readSale_sale read
    exact ⟨.sale read, rfl⟩
  · obtain ⟨permit, minutes, rfl⟩ := readSession_session read
    exact ⟨.session read, rfl⟩

/-! ### The referral of a request that goes on (R95) -/

section

variable {s w : State} {l : LineNo} {c : Context} {e : Exchange} {number : Nat} {r : Option TermRequest}

theorem Asked.answersAtOnce (h : Asked s w l c e number r) (same : w.notices = s.notices) (answer : Answer) :
    s.answersAtOnce (w.handAnswer e.terminal number answer) l e c (.request number r) number answer := by
  obtain ⟨context, exchange, state, only, fare, permits, cash, link, notices, store⟩ := h.answered answer
  exact ⟨context, exchange, state, only, fare, permits, cash, link, notices.trans same, store⟩

theorem Asked.waitingOf (h : Asked s w l c e number r) (n : Nat) : w.waitingOf n = s.waitingOf n := by
  obtain ⟨_, _, _, _, rfl⟩ := h.touched.only
  rfl

theorem State.waitingOf_terminal {n : Nat} {q : Referral} (h : s.waitingOf n = some q) : q.terminal = n := by
  have found := List.find?_some h
  simp only [Bool.and_eq_true, beq_iff_eq] at found
  exact found.1

theorem Asked.implied (h : Asked s w l c e number r) {mark : ReferralMark} (marked : c.referral = some mark) :
    Asked (s.unlisted (s.impliedCancel e.terminal mark).1) (w.implicitCancel e.terminal) l
        { c with referral := (s.impliedCancel e.terminal mark).2 } e number r ∧
      (w.implicitCancel e.terminal).notices = w.notices := by
  cases waiting : s.waitingOf e.terminal with
  | none =>
    have same : { c with referral := some mark } = c := by rw [← marked]
    simp only [State.impliedCancel, State.implicitCancel, h.waitingOf, waiting, same]
    exact ⟨h, trivial⟩
  | some q =>
    have unmarked : c.unreferred q.number = { c with referral := if mark.referral = q.number then none else some mark } := by
      simp [Context.unreferred, marked]
    simp only [State.impliedCancel, State.implicitCancel, h.waitingOf, waiting, ← unmarked]
    exact ⟨h.dropped (State.waitingOf_terminal waiting), rfl⟩

end

/-- Settles O50: the first test of R65 that a request meets answers it, and a referral that it cancels leaves it to go on as
if it had not been there. -/
theorem requestsAnsweredAtOnce : Obligations.RequestsAnsweredAtOnce := by
  intro s l e c drop number rest hears poll own
  have run {i : Instr} {r : Option TermRequest} (requests : Requests l drop number rest i r) :
      exec i s = .next ((s.asked l e number.toNat r).takeRequest e.terminal number.toNat r) :=
    exec_request requests hears.1 poll own
  have asked (r : Option TermRequest) := (asked_of_hears hears number.toNat r).1
  have notices (r : Option TermRequest) : (s.asked l e number.toNat r).notices = s.notices :=
    (asked_of_hears hears number.toNat r).2
  have terminal := hears.1.number
  refine ⟨fun i reads => ?_, fun i r flight reads => ?_, fun idle => ⟨fun r mark marked referred read => ?_,
    fun i r ticket unreferred last reads => ?_, fun q waiting => ?_, fun waiting => ?_, fun mark kept marked kept_eq =>
    ⟨fun i kind flight pence reads => ?_, fun permit minutes other read free fresh => ?_, fun i r ticket last reads => ?_⟩⟩⟩
  · have requests : Requests l drop number rest i none := by
      rcases reads with ⟨rfl, read⟩ | ⟨rfl, read⟩ | ⟨rfl, read⟩
      exacts [.quote read, .sale read, .session read]
    exact ⟨_, (run requests).trans (congrArg _ (takeRequest_malformed (asked none).context)),
      (asked none).answersAtOnce (notices none) _⟩
  · have requests : Requests l drop number rest i (some r) := by
      rcases reads with ⟨rfl, read⟩ | ⟨rfl, read⟩ | ⟨rfl, read⟩ | ⟨rfl, rfl⟩
      exacts [.quote read, .sale read, .session read, .cancel]
    exact ⟨_, (run requests).trans (congrArg _ (takeRequest_busy (asked _).context flight r)),
      (asked _).answersAtOnce (notices _) _⟩
  · obtain ⟨permit, minutes, rfl⟩ := readSession_session read
    exact ⟨_, (run (.session read)).trans (congrArg _ (takeRequest_referred (asked _).context idle nofun marked
      (beq_iff_eq.mpr referred))), (asked _).answersAtOnce (notices _) _⟩
  · obtain ⟨requests, issuing⟩ := issuing_requests reads
    have run := run requests
    rw [takeRequest_serves (asked _).context idle (TermRequest.ne_cancel_of_issuing issuing) unreferred,
      serveRequest_repeated last issuing, terminal] at run
    exact ⟨_, run, (asked _).answersAtOnce (notices _) _⟩
  · have run := run .cancel
    rw [takeRequest_cancel (asked _).context idle, State.cancelRequest, (asked _).waitingOf, waiting] at run
    obtain ⟨context, exchange, -, only, fare, permits, cash, link, same, store⟩ :=
      ((asked (some .cancel)).dropped (State.waitingOf_terminal waiting)).answered .cancelled
    exact ⟨_, run, context, exchange, permits, only, fare, cash, link, same.trans (notices (some .cancel)), store⟩
  · have run := run .cancel
    rw [takeRequest_cancel (asked _).context idle, State.cancelRequest, (asked _).waitingOf, waiting] at run
    exact ⟨_, run, (asked _).answersAtOnce (notices _) _⟩
  · subst kept_eq
    obtain ⟨request, requests, priced⟩ := priced_of_read reads
    have run := run requests
    rw [takeRequest_goesOn (asked _).context idle priced.ne_cancel marked (priced.goesOn mark), serveRequest_priced priced,
      terminal] at run
    obtain ⟨left, quiet⟩ := (asked (some request)).implied marked
    obtain ⟨context, fare, line, only, permits, cash, link, same, store⟩ := left.placed flight kind pence
    exact ⟨_, run, context, permits, fare, line ▸ left.state, only, cash, link, (same.trans quiet).trans (notices _), store⟩
  · subst kept_eq
    have run := run (.session read)
    rw [takeRequest_goesOn (request := .session permit minutes) (asked _).context idle nofun marked
      (beq_eq_false_iff_ne.mpr other), serveRequest_session fresh, terminal] at run
    obtain ⟨left, quiet⟩ := (asked (some (.session permit minutes))).implied marked
    obtain ⟨context, permits, line, only, fare, cash, link, same, store⟩ := left.looked free permit minutes
    exact ⟨_, run, context, permits, line ▸ left.state, only, fare, cash, link, (same.trans quiet).trans (notices _), store⟩
  · subst kept_eq
    obtain ⟨requests, issuing⟩ := issuing_requests (reads.imp_right fun ⟨is, read, _⟩ => ⟨is, read⟩)
    have goesOn : r.isReferred number.toNat mark = false := by
      rcases reads with ⟨-, read⟩ | ⟨-, read, other⟩
      · obtain ⟨coins, version, rfl⟩ := readSale_sale read
        rfl
      · obtain ⟨permit, minutes, rfl⟩ := readSession_session read
        exact beq_eq_false_iff_ne.mpr other
    have run := run requests
    rw [takeRequest_goesOn (asked _).context idle (TermRequest.ne_cancel_of_issuing issuing) marked goesOn,
      serveRequest_repeated last issuing, terminal] at run
    obtain ⟨left, quiet⟩ := (asked (some r)).implied marked
    obtain ⟨context, exchange, -, only, fare, permits, cash, link, same, store⟩ := left.answered (.ticket ticket)
    exact ⟨_, run, context, exchange, permits, only, fare, cash, link, (same.trans quiet).trans (notices _), store⟩

end Sys2Proof.Machine
end

section
/-! Numbers that are given out (R93, R104, R108): the next number is the first that no record holds. -/

namespace Sys2Proof.Machine

open Sys2Proof

theorem numberAfter_mem {top : Nat} (some_ : 0 < top) (n : Nat) : 1 ≤ numberAfter top n ∧ numberAfter top n ≤ top := by
  unfold numberAfter
  split <;> omega

/-- From a number of the range on, the numbers go round it. -/
theorem numberAfter_iterate {top n : Nat} (low : 1 ≤ n) (high : n ≤ top) (k : Nat) :
    (numberAfter top)^[k] n = (n - 1 + k) % top + 1 := by
  induction k with
  | zero => rw [Function.iterate_zero_apply, Nat.add_zero, Nat.mod_eq_of_lt (by omega)]; omega
  | succ k ih =>
    have below : (n - 1 + k) % top < top := Nat.mod_lt _ (by omega)
    rw [Function.iterate_succ_apply', ih, numberAfter, ← Nat.add_assoc, ← Nat.mod_add_mod (n - 1 + k) top 1]
    by_cases last : (n - 1 + k) % top + 1 = top
    · rw [last, if_neg (Nat.lt_irrefl top), Nat.mod_self]
    · have next : (n - 1 + k) % top + 1 < top := by omega
      rw [if_pos next, Nat.mod_eq_of_lt next]

/-- The numbers of one round are distinct. -/
theorem numberAfter_iterate_inj {top last j k : Nat} (hj : j < top) (hk : k < top)
    (same : (numberAfter top)^[j + 1] last = (numberAfter top)^[k + 1] last) : j = k := by
  obtain ⟨low, high⟩ := numberAfter_mem (show 0 < top by omega) last
  rw [Function.iterate_succ_apply, Function.iterate_succ_apply, numberAfter_iterate low high, numberAfter_iterate low high] at same
  have congruent : j ≡ k [MOD top] := Nat.ModEq.add_left_cancel' _ (Nat.succ_injective same)
  exact congruent.eq_of_lt_of_lt hj hk

/-- The search passes over numbers in use, and stops at one that is not, or when its tries are used. -/
theorem nextFree_passes (top : Nat) (used : List Nat) (tries last : Nat) :
    ∃ passed ≤ tries, nextFree top used tries last = (numberAfter top)^[passed + 1] last ∧
      (∀ k < passed, (numberAfter top)^[k + 1] last ∈ used) ∧
      (passed < tries → (numberAfter top)^[passed + 1] last ∉ used) := by
  induction tries generalizing last with
  | zero => exact ⟨0, Nat.le_refl 0, rfl, nofun, nofun⟩
  | succ tries ih =>
    by_cases held : numberAfter top last ∈ used
    · obtain ⟨passed, within_, next, before, free⟩ := ih (numberAfter top last)
      refine ⟨passed + 1, Nat.succ_le_succ within_, ?_, fun k hk => ?_, fun left => ?_⟩
      · rw [Function.iterate_succ_apply, ← next]
        exact if_pos (List.contains_iff_mem.mpr held)
      · cases k with
        | zero => exact held
        | succ k => exact before k (Nat.lt_of_succ_lt_succ hk)
      · exact free (Nat.lt_of_succ_lt_succ left)
    · exact ⟨0, Nat.zero_le _, if_neg (mt List.contains_iff_mem.mp held), nofun, fun _ => held⟩

/-- One more try than there are numbers in use finds a free one. -/
theorem nextNumber_unheld {top : Nat} {used : List Nat} (room : used.length < top) (last : Nat) :
    nextUnheld top used last (nextNumber top used last) := by
  obtain ⟨passed, within_, next, before, free⟩ := nextFree_passes top used used.length last
  refine ⟨?_, passed, next, before⟩
  rw [nextNumber, next]
  rcases Nat.lt_or_eq_of_le within_ with left | rfl
  · exact free left
  · intro held
    have all : (List.range (used.length + 1)).map (fun k => (numberAfter top)^[k + 1] last) ⊆ used := by
      intro x hx
      obtain ⟨k, hk, rfl⟩ := List.mem_map.mp hx
      rcases Nat.lt_or_eq_of_le (Nat.le_of_lt_succ (List.mem_range.mp hk)) with less | rfl
      · exact before k less
      · exact held
    have distinct : ((List.range (used.length + 1)).map fun k => (numberAfter top)^[k + 1] last).Nodup := by
      refine List.Nodup.map_on (fun j hj k hk same => ?_) List.nodup_range
      rw [List.mem_range] at hj hk
      exact numberAfter_iterate_inj (by omega) (by omega) same
    have long := (distinct.subperm all).length_le
    simp at long

end Sys2Proof.Machine
end

section
/-! Events of terminals (O51, O52): an event is taken from the line, acts where it is new and finds room, and is answered at once
(R74, R75). -/

namespace Sys2Proof.Machine

open Sys2Proof

/-! ### An event is received (R147) -/

/-- The commands of an event. -/
inductive Sends (l : LineNo) (drop number : Byte) : Instr → Event → Prop where
  | doorOpen {p event} : readDoorOpen p = some event → Sends l drop number (.doorOpen l drop number p) event
  | doorClosed : Sends l drop number (.doorClosed l drop number []) .doorClosed
  | boxReplaced : Sends l drop number (.boxReplaced l drop number []) .boxReplaced
  | paperOut : Sends l drop number (.paperOut l drop number []) .paperOut
  | paperLoaded {p event} : readPaperLoaded p = some event → Sends l drop number (.paperLoaded l drop number p) event
  | printerFault : Sends l drop number (.printerFault l drop number []) .printerFault
  | printFailed {p event} : readPrintFailed p = some event → Sends l drop number (.printFailed l drop number p) event
  | printerOk : Sends l drop number (.printerOk l drop number []) .printerOk
  | coinPathFault : Sends l drop number (.coinPathFault l drop number []) .coinPathFault
  | coinPathOk : Sends l drop number (.coinPathOk l drop number []) .coinPathOk

/-- The line answers an event (R148). -/
def State.tell (s : State) (l : LineNo) (e : Exchange) (number : Nat) (event : Event) (answer : Answer) : State :=
  s.onLine l fun L => L.answer { e with taken := some (.event number event) } number answer

theorem exec_event {s : State} {l : LineNo} {e : Exchange} {c : Context} {drop number : Byte} {i : Instr} {event : Event}
    (sends : Sends l drop number i event) (awaits : s.awaits l e c) (poll : e.frame = .poll) (own : drop.toNat = e.drop)
    {u : State} {answer : Answer} (taken : (s.goodFrame l e.terminal).takeEvent e.terminal number.toNat event = (u, answer)) :
    exec i s = .next (u.tell l e number.toNat event answer) := by
  obtain ⟨on, listening, -⟩ := awaits
  have received : s.working (fun s => s.received l drop.toNat (eventFrame number (some event))) =
      u.tell l e number.toNat event answer := by
    simp only [State.working, on, State.received, listening, own, poll, SentFrame.expects, eventFrame, and_self, if_true,
      State.handFrame, taken, State.tell]
  rw [← received]
  cases sends with
  | doorOpen read | paperLoaded read | printFailed read => rw [← read]; rfl
  | doorClosed | boxReplaced | paperOut | printerFault | printerOk | coinPathFault | coinPathOk => rfl

theorem tell_touches (s : State) (l : LineNo) (e : Exchange) (number : Nat) (event : Event) (answer : Answer) (n : Nat) :
    Touches s (s.tell l e number event answer) n l := onLine_touches s l _ n

theorem tell_exchange (s : State) (l : LineNo) (e : Exchange) (number : Nat) (event : Event) (answer : Answer) :
    ((s.tell l e number event answer).line l).exchange = some (e.answering (.event number event) number answer) := by
  rw [State.tell, State.line_onLine, if_pos rfl, Line.answer_exchange]
  rfl

/-! ### The three outcomes (R75) -/

section

variable {s : State} {n number : Nat} {c : Context}

theorem takeEvent_repeated (hc : s.context n = some c) (repeated : c.lastEvent = some number) (event : Event) :
    s.takeEvent n number event = (s, .taken) := by
  simp [State.takeEvent, hc, repeated]

theorem takeEvent_held (hc : s.context n = some c) (new : c.lastEvent ≠ some number) (full : 4 ≤ c.events.length)
    (event : Event) : s.takeEvent n number event = (s.report n fun r => { r with held := true }, .hold) := by
  simp [State.takeEvent, hc, new, Config.eventCapacity, Nat.not_lt.mpr full]

theorem takeEvent_taken (hc : s.context n = some c) (new : c.lastEvent ≠ some number) (room : c.events.length < 4)
    (event : Event) : s.takeEvent n number event = ((s.handEvent n event).bufferEvent n number event, .taken) := by
  simp [State.takeEvent, hc, new, Config.eventCapacity, room]

end

/-- Settles O51: neither outcome hands the event to its owner. -/
theorem repeatedAndHeldEventsDoNothing : Obligations.RepeatedAndHeldEventsDoNothing := by
  intro s l e c drop number i event hears poll own reads
  have sends : Sends l drop number i event := by
    rcases reads with ⟨rfl, rfl⟩ | ⟨rfl, rfl⟩ | ⟨rfl, rfl⟩
    exacts [.coinPathOk, .boxReplaced, .doorOpen rfl]
  obtain ⟨⟨-, -, -, hc, -⟩, sounds⟩ := id hears
  obtain ⟨touched, -, context, notices⟩ := goodFrame_leaves hc sounds l
  refine ⟨fun repeated => ?_, fun new full => ?_⟩
  · have touched := touched.trans (tell_touches _ l e number.toNat event .taken e.terminal)
    obtain ⟨cash, permits, fare, link, store⟩ := touched.only.store
    exact ⟨_, exec_event sends hears.1 poll own (takeEvent_repeated context repeated event), context,
      tell_exchange _ l e _ event _, touched.onlyAt, cash, notices, fare, permits, link, store⟩
  · have touched := (touched.trans (report_touches _ e.terminal (fun r => { r with held := true }) l)).trans
      (tell_touches _ l e number.toNat event .hold e.terminal)
    obtain ⟨cash, permits, fare, link, store⟩ := touched.only.store
    exact ⟨_, exec_event sends hears.1 poll own (takeEvent_held context new full event),
      (report_context _ _ _).trans (congrArg (Option.map _) context), tell_exchange _ l e _ event _, touched.onlyAt, cash, fare,
      permits, link, store⟩

/-! ### What a taken event leaves (R75, R76) -/

/-- A report joins the Notice Queue at most with its terminal's entry, so that a part-level entry is found as before. -/
theorem report_part (s : State) (n : Nat) (add : ReportSet → ReportSet) {kind : NoticeKind} (part : ∀ m, kind ≠ .terminal m) :
    ((s.report n add).notices.find? fun x => x.kind == kind) = s.notices.find? fun x => x.kind == kind := by
  unfold State.report
  split
  · rfl
  · simp only
    split
    · have other : (NoticeKind.terminal n == kind) = false := beq_eq_false_iff_ne.mpr (part n).symm
      simp [State.setNotices, other]
    · rfl

theorem report_attention {s : State} (n : Nat) (add : ReportSet → ReportSet) (on : s.attention = true) :
    (s.report n add).attention = true := by
  unfold State.report
  split
  · exact on
  · simp only
    split
    · simp [State.setNotices]
    · exact on

/-- The context of a terminal once an event has been appended to its buffer. -/
def Context.buffered (c : Context) (number : Nat) (event : Event) (now : Instant) : Context :=
  { c with
    lastEvent := some number
    events := c.events ++ [{ number := number, event := event, taken := now }]
    reports := { c.reports with events := true } }

theorem bufferEvent_context {s : State} {n : Nat} {c : Context} (hc : s.context n = some c) (number : Nat) (event : Event) :
    (s.bufferEvent n number event).context n = some (c.buffered number event s.clock.now) := by
  rw [State.bufferEvent, report_context, State.context_onContext_self s n _ (by intro _; rfl), hc]
  rfl

theorem bufferEvent_touches (s : State) (n number : Nat) (event : Event) (l : LineNo) :
    Touches s (s.bufferEvent n number event) n l :=
  (onContext_touches s n _ (by intro _; rfl) l).trans (report_touches _ n _ l)

/-- An event that finds room: `u` is what its owner leaves, the cash accounts and the terminal's context `d` changed. -/
theorem event_taken {s u : State} {l : LineNo} {e : Exchange} {c d : Context} {drop number : Byte} {i : Instr} {event : Event}
    {cash : Cash} (sends : Sends l drop number i event) (hears : s.hears l e c) (poll : e.frame = .poll)
    (own : drop.toNat = e.drop) (new : c.lastEvent ≠ some number.toNat) (room : c.events.length < 4)
    (handed : (s.goodFrame l e.terminal).handEvent e.terminal event = u) (touched : Touches { s with cash := cash } u e.terminal l)
    (context : u.context e.terminal = some d) :
    ∃ t, exec i s = .next t ∧ t.context e.terminal = some (d.buffered number.toNat event s.clock.now) ∧ t.cash = cash ∧
      (t.line l).exchange = some (e.answering (.event number.toNat event) number.toNat .taken) ∧ s.onlyAt t e.terminal l ∧
      t.permits = s.permits ∧ t.fare = s.fare ∧ t.link = s.link ∧ s.sameStore t ∧
      (∀ kind, (∀ m, kind ≠ NoticeKind.terminal m) →
        (t.notices.find? fun x => x.kind == kind) = u.notices.find? fun x => x.kind == kind) ∧
      (u.attention = true → t.attention = true) := by
  obtain ⟨⟨-, -, -, hc, -⟩, sounds⟩ := id hears
  obtain ⟨-, -, unchanged, -⟩ := goodFrame_leaves hc sounds l
  have taken := takeEvent_taken unchanged new room event
  rw [handed] at taken
  have clock : u.clock = s.clock := by
    obtain ⟨-, -, -, -, clock, -⟩ := touched.only.store
    exact clock
  have touched := (touched.trans (bufferEvent_touches u e.terminal number.toNat event l)).trans
    (tell_touches _ l e number.toNat event .taken e.terminal)
  obtain ⟨cash, permits, fare, link, store⟩ := touched.only.store
  refine ⟨_, exec_event sends hears.1 poll own taken, ?_, cash, tell_exchange _ l e _ event _, touched.onlyAt, permits, fare, link,
    store, fun kind part => report_part _ _ _ part, fun on => report_attention _ _ on⟩
  exact (bufferEvent_context context number.toNat event).trans (by rw [clock])

theorem Touches.withCash {s t : State} {n : Nat} {l : LineNo} (h : Touches s t n l) (cash : Cash) :
    Touches { s with cash := cash } { t with cash := cash } n l := by
  obtain ⟨⟨_, _, _, _, rfl⟩, contexts, lines⟩ := h
  exact ⟨⟨_, _, _, _, rfl⟩, contexts, lines⟩

/-- The context an act changes to `d`: a change of condition is reported, and orders may be owed. -/
def Context.acted (c d : Context) (owed : OwedOrders) : Context :=
  { d with
    reports := { c.reports with condition := c.reports.condition || decide (d.condition ≠ c.condition) }
    owed := owed }

theorem recorded_buffered {c d : Context} (told : d.condition ≠ c.condition → d.reports.condition = true)
    (events : d.events = c.events) (number : Nat) (event : Event) (now : Instant) :
    c.recorded (d.buffered number event now) number event now :=
  ⟨rfl, congrArg (· ++ _) events, rfl, told⟩

theorem recorded_acted (c d : Context) (events : d.events = c.events) (owed : OwedOrders) (number : Nat) (event : Event)
    (now : Instant) : c.recorded ((c.acted d owed).buffered number event now) number event now :=
  recorded_buffered (d := c.acted d owed) (fun differs => Bool.or_eq_true_iff.mpr (.inr (decide_eq_true differs))) events number
    event now

/-- An event whose owner makes one act of the terminal, the cash accounts changed before it. -/
theorem act_taken {s : State} {l : LineNo} {e : Exchange} {c : Context} {drop number : Byte} {i : Instr} {event : Event}
    {cash : Cash} {f : Context → Context} (sends : Sends l drop number i event) (hears : s.hears l e c) (poll : e.frame = .poll)
    (own : drop.toNat = e.drop) (new : c.lastEvent ≠ some number.toNat) (room : c.events.length < 4)
    (handed : (s.goodFrame l e.terminal).handEvent e.terminal event =
      ({ s.goodFrame l e.terminal with cash := cash } : State).act e.terminal f)
    (keeps : ∀ d, (f d).number = d.number ∧ (f d).line = d.line ∧ (f d).reports = d.reports) :
    ∃ t o, exec i s = .next t ∧
      t.context e.terminal = some ((c.acted (f c) o).buffered number.toNat event s.clock.now) ∧ t.cash = cash ∧
      (t.line l).exchange = some (e.answering (.event number.toNat event) number.toNat .taken) ∧ s.onlyAt t e.terminal l ∧
      t.permits = s.permits ∧ t.fare = s.fare ∧ t.link = s.link ∧ s.sameStore t := by
  obtain ⟨⟨-, -, -, hc, line⟩, sounds⟩ := id hears
  obtain ⟨touched, -, context, -⟩ := goodFrame_leaves hc sounds l
  obtain ⟨-, place, reports⟩ := keeps c
  have acts (d : Context) : (f d).number = d.number := (keeps d).1
  have context : ({ s.goodFrame l e.terminal with cash := cash } : State).context e.terminal = some c := context
  obtain ⟨o, acted⟩ := act_context context f acts
  have moved := (place.trans line) ▸ act_touches context f acts
  rw [reports] at acted
  obtain ⟨t, run, after, cash, exchange, only, permits, fare, link, store, -⟩ :=
    event_taken sends hears poll own new room handed ((touched.withCash cash).trans moved) acted
  exact ⟨t, o, run, after, cash, exchange, only, permits, fare, link, store⟩

/-! ### The Condition Monitor's events (R122, R124) -/

/-- The events of the Condition Monitor's. -/
def Event.sensed : Event → Bool
  | .doorOpen _ | .doorClosed | .boxReplaced => false
  | _ => true

theorem handEvent_sensed (s : State) (n : Nat) {event : Event} (sensed : event.sensed = true) :
    s.handEvent n event = s.act n fun c => c.sense s.defaults event := by
  cases event with
  | doorOpen | doorClosed | boxReplaced => nomatch sensed
  | paperOut | paperLoaded | printerFault | printFailed | printerOk | coinPathFault | coinPathOk => rfl

/-- Whatever is sensed, the money, the collection and the events stay as they were. -/
theorem Context.sense_keeps (defaults : Thresholds) (event : Event) (c : Context) :
    (c.sense defaults event).line = c.line ∧ (c.sense defaults event).events = c.events ∧
      (c.sense defaults event).tally = c.tally ∧ (c.sense defaults event).serial = c.serial ∧
      (c.sense defaults event).suspended = c.suspended ∧ (c.sense defaults event).collection = c.collection := by
  cases event <;> exact ⟨rfl, rfl, rfl, rfl, rfl, rfl⟩

theorem readPrintFailed_toPacked {serial : Nat} (h : serial ≤ 999999) :
    readPrintFailed (toPacked 3 serial) = some (.printFailed serial) := by
  simp [readPrintFailed, packed_toPacked 3 serial (by omega)]

theorem readPaperLoaded_optional {count : Option Nat} (h : ∀ n, count = some n → n ≤ 65535) :
    readPaperLoaded (optionalBytes (toBinary 2) count) = some (.paperLoaded count) := by
  cases count with
  | none => rfl
  | some n =>
    have small := h n rfl
    have read : binary (toBinary 2 n) = n := binary_toBinary 2 n (by omega)
    show some (Event.paperLoaded (some (binary (toBinary 2 n)))) = _
    rw [read]

theorem Context.loadPaper_eq (c : Context) (defaults : Thresholds) (count : Option Nat) :
    (c.loadPaper defaults count).paperRemaining = min (count.getD c.paperCapacity) c.paperCapacity := by
  cases count with
  | none => exact (Nat.min_self _).symm
  | some n => rfl

/-- Settles O52: each event is one act that changes the fault set and the paper, then appended to the buffer. -/
theorem sensorEventsChangeTheFaultSet : Obligations.SensorEventsChangeTheFaultSet := by
  intro s l e c drop number serial count i event faults paper hears poll own new room small few reads
  obtain ⟨sends, sensed, changed, left⟩ : Sends l drop number i event ∧ event.sensed = true ∧
      (c.sense s.defaults event).faults = faults ∧ (c.sense s.defaults event).paperRemaining = paper := by
    rcases reads with ⟨rfl, rfl, rfl, rfl⟩ | ⟨rfl, rfl, rfl, rfl⟩ | ⟨rfl, rfl, rfl, rfl⟩ | ⟨rfl, rfl, rfl, rfl⟩ |
      ⟨rfl, rfl, rfl, rfl⟩ | ⟨rfl, rfl, rfl, rfl⟩ | ⟨rfl, rfl, rfl, rfl⟩
    · exact ⟨.printerFault, rfl, rfl, rfl⟩
    · exact ⟨.printFailed (readPrintFailed_toPacked small), rfl, rfl, rfl⟩
    · exact ⟨.printerOk, rfl, rfl, rfl⟩
    · exact ⟨.coinPathFault, rfl, rfl, rfl⟩
    · exact ⟨.coinPathOk, rfl, rfl, rfl⟩
    · exact ⟨.paperOut, rfl, rfl, rfl⟩
    · exact ⟨.paperLoaded (readPaperLoaded_optional few), rfl, by rw [← c.loadPaper_eq s.defaults count]; rfl,
        c.loadPaper_eq s.defaults count⟩
  obtain ⟨⟨-, -, -, hc, line⟩, sounds⟩ := id hears
  obtain ⟨touched, -⟩ := goodFrame_leaves hc sounds l
  obtain ⟨cash, -, -, -, -, -, -, defaults, -⟩ := touched.only.store
  have handed := handEvent_sensed (s.goodFrame l e.terminal) e.terminal sensed
  rw [defaults] at handed
  have keeps (d : Context) : (d.sense s.defaults event).number = d.number ∧ (d.sense s.defaults event).line = d.line ∧
      (d.sense s.defaults event).reports = d.reports :=
    ⟨(d.sense_kept s.defaults event).1, (d.sense_keeps s.defaults event).1, (d.sense_kept s.defaults event).2⟩
  obtain ⟨t, o, run, context, same, exchange, only, permits, fare, link, store⟩ :=
    act_taken sends hears poll own new room handed keeps
  obtain ⟨-, events, tally, serial, suspended, collection⟩ := c.sense_keeps s.defaults event
  obtain ⟨last, buffer, told, condition⟩ := recorded_acted c _ events o number.toNat event s.clock.now
  exact ⟨t, _, run, context, changed, left, last, buffer, told, condition, tally, serial, suspended, collection, exchange, only,
    same.trans cash, permits, fare, link, store⟩

end Sys2Proof.Machine
end

section
/-! The door and box events (O53): collections, lifts and the round that completes itself (R104, R105, R113 to R116). -/

namespace Sys2Proof.Machine

open Sys2Proof

theorem readDoorOpen_optional {code : Option Nat} (h : ∀ n, code = some n → n ≤ 999999) :
    readDoorOpen (optionalBytes (toPacked 3) code) = some (.doorOpen code) := by
  cases code with
  | none => rfl
  | some n =>
    have small := h n rfl
    have read : packed (toPacked 3 n) = some n := packed_toPacked 3 n (by omega)
    show (packed (toPacked 3 n)).map (fun c => Event.doorOpen (some c)) = _
    rw [read]
    rfl

/-! ### DOOR OPEN (R113) -/

/-- The context of a terminal whose door was forced. -/
def Context.forced (c : Context) : Context := { c with faults := { c.faults with forcedDoor := true } }

/-- The context of a terminal in collection under a round, or in none. -/
def Context.collecting (c : Context) (round : Option Nat) : Context := { c with collection := round }

theorem doorOpened_authorised {s : State} {n code : Nat} {r : Round} (listed : s.cash.roundOf n = some r) (right : r.code = code)
    (open_ : r.entryState n = some .due ∨ r.entryState n = some .opened) :
    s.doorOpened n (some code) =
      ({ s with cash := s.cash.onRound r.number fun q => q.setEntry n .opened } : State).act n
        fun c => c.collecting (some r.number) := by
  simp only [State.doorOpened, listed, right, true_and, open_, if_true]
  rfl

theorem doorOpened_forced {s : State} {n : Nat} {code : Option Nat}
    (unauthorised : ∀ r, s.cash.roundOf n = some r → code ≠ some r.code ∨
      (r.entryState n ≠ some .due ∧ r.entryState n ≠ some .opened)) :
    s.doorOpened n code = s.act n Context.forced := by
  unfold State.doorOpened
  cases listed : s.cash.roundOf n with
  | none => rfl
  | some r =>
    refine if_neg ?_
    rintro ⟨right, due | opened⟩
    · exact (unauthorised r listed).elim (fun wrong => wrong right) fun shut => shut.1 due
    · exact (unauthorised r listed).elim (fun wrong => wrong right) fun shut => shut.2 opened

/-! ### BOX REPLACED (R104, R105, R114) -/

/-- The cash accounts once a terminal's box has been replaced: the lift, and in collection the round's entry. -/
def Cash.boxed (k : Cash) (c : Context) (now : Instant) : Cash :=
  match c.collection with
  | none => k.lift c now
  | some number =>
    (k.lift c now).onRound number fun r =>
      if r.entryState c.number = some .opened then r.setEntry c.number .lifted else r

/-- The context of a terminal whose box has been replaced. -/
def Context.unboxed (c : Context) (defaults : Thresholds) : Context :=
  ({ c with
      tally := .empty
      faults := { c.faults with forcedDoor := c.faults.forcedDoor || c.collection.isNone } } : Context).reevaluate defaults

theorem boxLifted_eq {s : State} {n : Nat} {c : Context} (hc : s.context n = some c) :
    s.boxLifted n =
      ({ s with cash := s.cash.boxed c s.clock.now } : State).act n fun c => c.unboxed s.defaults := by
  obtain rfl := State.context_number hc
  simp only [State.boxLifted, hc, Cash.boxed]
  cases c.collection with
  | none => rfl
  | some number => rfl

theorem Context.unboxed_faults (c : Context) (defaults : Thresholds) :
    (c.unboxed defaults).faults =
      { c.faults with
        forcedDoor := c.faults.forcedDoor || c.collection == none
        boxFull := decide ((c.inForce defaults).full = 0)
        boxNearFull := decide ((c.inForce defaults).nearFull = 0)
        paperLow := decide (c.paperRemaining ≤ (c.inForce defaults).paperLow) } := by
  have outside : c.collection.isNone = (c.collection == none) := by cases c.collection <;> rfl
  simp only [← Nat.le_zero, ← outside]
  rfl

theorem lift_keeps (k : Cash) (c : Context) (now : Instant) :
    (k.lift c now).rounds = k.rounds ∧ (k.lift c now).lastRound = k.lastRound ∧
      (k.lift c now).lastSelfClosed = k.lastSelfClosed := by
  unfold Cash.lift
  split <;> exact ⟨rfl, rfl, rfl⟩

theorem boxed_keeps (k : Cash) (c : Context) (now : Instant) :
    (k.boxed c now).lifted = (k.lift c now).lifted ∧ (k.boxed c now).lastLifted = (k.lift c now).lastLifted ∧
      (k.boxed c now).lastRound = k.lastRound ∧ (k.boxed c now).lastSelfClosed = k.lastSelfClosed := by
  obtain ⟨-, lastRound, lastSelfClosed⟩ := lift_keeps k c now
  unfold Cash.boxed
  cases c.collection with
  | none => exact ⟨rfl, rfl, lastRound, lastSelfClosed⟩
  | some number => exact ⟨rfl, rfl, lastRound, lastSelfClosed⟩

theorem boxed_rounds (k : Cash) (c : Context) (now : Instant) :
    (k.boxed c now).rounds =
      match c.collection with
      | none => k.rounds
      | some under => k.rounds.map fun q =>
        if q.number = under ∧ q.entryState c.number = some .opened then
          { q with entries := q.entries.map fun x => if x.terminal = c.number then { x with state := .lifted } else x }
        else q := by
  have rounds := (lift_keeps k c now).1
  unfold Cash.boxed
  cases c.collection with
  | none => exact rounds
  | some under =>
    show (k.lift c now).rounds.map _ = _
    rw [rounds]
    refine List.map_congr_left fun q _ => ?_
    rw [ite_and]
    rfl

/-- A terminal with fewer than two lifted records makes another (R104). -/
theorem lift_records {k : Cash} {c : Context} (few : (k.lifted.filter fun r => r.terminal == c.number).length < 2)
    (now : Instant) :
    k.lift c now =
      { k with
        lastLifted := nextNumber 65535 (k.lifted.map (·.number)) k.lastLifted
        lifted := k.lifted ++
          [{ number := nextNumber 65535 (k.lifted.map (·.number)) k.lastLifted, terminal := c.number, round := c.collection,
             coins := c.tally.coins, expected := c.tally.penceTotal, lifted := now, unscheduled := c.collection == none
             merged := false }] } := by
  have outside : c.collection.isNone = (c.collection == none) := by cases c.collection <;> rfl
  rw [← outside]
  exact if_neg (Nat.not_le.mpr few)

theorem onNewest_newest {n : Nat} {newer : Lifted} {after : List Lifted} (f : Lifted → Lifted) (own : newer.terminal = n)
    (others : ∀ r ∈ after, r.terminal ≠ n) (before : List Lifted) :
    onNewest n f (before ++ newer :: after) = before ++ f newer :: after := by
  induction before with
  | nil =>
    have last : (after.any fun q => q.terminal == n) = false := by simpa using others
    exact if_pos ⟨own, last⟩
  | cons r before ih =>
    have earlier : ((before ++ newer :: after).any fun q => q.terminal == n) = true := by simp [own]
    rw [List.cons_append, onNewest, if_neg (by simp [earlier]), ih]
    rfl

/-- A terminal with two merges into the newer (R105). -/
theorem lift_merges {k : Cash} {c : Context} (two : 2 ≤ (k.lifted.filter fun r => r.terminal == c.number).length)
    (now : Instant) :
    k.lift c now = { k with lifted := onNewest c.number (fun r => r.merge c.tally c.collection.isSome) k.lifted } :=
  if_pos two

/-! ### DOOR CLOSED (R115, R116) -/

/-- What the look at a round reads of a context. -/
def Context.standing (c : Context) : Nat × Option Nat := (c.number, c.collection)

theorem askOrder_standings (s : State) (n : Nat) (kind : OrderKind) :
    (s.askOrder n kind).contexts.map Context.standing = s.contexts.map Context.standing := by
  have owed : (s.owe n kind).contexts.map Context.standing = s.contexts.map Context.standing := by
    rw [State.owe, State.onContext_contexts, List.map_map]
    exact List.map_congr_left fun c _ => by simp only [Function.comp]; split <;> rfl
  unfold State.askOrder
  split
  · rfl
  · simp only
    repeat' split
    · rfl
    · rfl
    · exact owed
    · exact owed
    · exact owed
    · rw [(chooseIfIdle_only _ _).contexts]
      rfl

theorem report_standings (s : State) (n : Nat) (add : ReportSet → ReportSet) :
    (s.report n add).contexts.map Context.standing = s.contexts.map Context.standing := by
  rcases report_contexts s n add with same | changed
  · rw [same]
  · rw [changed, State.onContext_contexts, List.map_map]
    exact List.map_congr_left fun c _ => by simp only [Function.comp]; split <;> rfl

theorem act_standings (s : State) (n : Nat) (f : Context → Context) :
    (s.act n f).contexts.map Context.standing = (s.onContext n f).contexts.map Context.standing := by
  unfold State.act
  simp only
  split
  · rfl
  · rw [askOrder_standings, report_standings]

theorem inCollectionUnder_eq_false {s : State} {number : Nat} :
    s.inCollectionUnder number = false ↔ ∀ p ∈ s.contexts.map Context.standing, p.2 ≠ some number := by
  simp [State.inCollectionUnder, Context.standing]

theorem released_inCollectionUnder {s : State} {n number : Nat} :
    (s.act n fun c => c.collecting none).inCollectionUnder number = false ↔
      ∀ p ∈ s.contexts.map Context.standing, p.1 ≠ n → p.2 ≠ some number := by
  rw [inCollectionUnder_eq_false, act_standings, State.onContext_contexts]
  simp only [List.map_map, List.forall_mem_map, Function.comp]
  refine forall₂_congr fun c _ => ?_
  split
  · rename_i own
    simp [Context.standing, Context.collecting, own]
  · rename_i other
    simp [Context.standing, other]

theorem goodFrame_standings (s : State) (l : LineNo) (n : Nat) :
    (s.goodFrame l n).contexts.map Context.standing = s.contexts.map Context.standing := by
  rw [State.goodFrame, act_standings, State.onContext_contexts, List.map_map]
  exact List.map_congr_left fun c _ => by simp only [Function.comp]; split <;> rfl

/-- The cash accounts once a round has closed itself (R116). -/
def Cash.selfClosed (k : Cash) (number : Nat) : Cash :=
  { k with
    rounds := k.rounds.map fun r => if r.number = number then { r with isOpen := false } else r
    lastSelfClosed := some number }

section

variable {s w : State} {n under : Nat}

/-- The look at a round whose collection has ended at a terminal goes by that terminal's state before the end. -/
theorem lookAtRound_completes (cash : w.cash = s.cash)
    (free : w.inCollectionUnder under = false ↔ ∀ p ∈ s.contexts.map Context.standing, p.1 ≠ n → p.2 ≠ some under)
    (completes : s.completes n under) :
    w.lookAtRound under = ({ w with cash := s.cash.selfClosed under } : State).notice .roundComplete := by
  obtain ⟨r, found, open_, lifted, others⟩ := completes
  have alone : w.inCollectionUnder under = false := free.mpr (by simpa [Context.standing] using others)
  have all : (r.entries.all fun e => e.state == .lifted) = true := by simpa using lifted
  simp only [State.lookAtRound, cash, found, open_, all, alone, and_self, if_true, State.onCash]
  rfl

theorem lookAtRound_stays (cash : w.cash = s.cash)
    (free : w.inCollectionUnder under = false ↔ ∀ p ∈ s.contexts.map Context.standing, p.1 ≠ n → p.2 ≠ some under)
    (incomplete : ¬s.completes n under) : w.lookAtRound under = w := by
  unfold State.lookAtRound
  rw [cash]
  split
  · rfl
  · rename_i r found
    refine if_neg fun ⟨open_, all, alone⟩ => incomplete ⟨r, found, open_, by simpa using all, ?_⟩
    simpa [Context.standing] using free.mp alone

theorem act_part (s : State) (n : Nat) (f : Context → Context) {kind : NoticeKind} (part : ∀ m, kind ≠ .terminal m) :
    ((s.act n f).notices.find? fun x => x.kind == kind) = s.notices.find? fun x => x.kind == kind := by
  unfold State.act
  simp only
  split
  · rfl
  · rw [askOrder_notices, report_part _ _ _ part]
    rfl

theorem oneMore_congr {kind : NoticeKind} {before before' after after' : List Notice}
    (same : (before.find? fun x => x.kind == kind) = before'.find? fun x => x.kind == kind)
    (same' : (after.find? fun x => x.kind == kind) = after'.find? fun x => x.kind == kind) (h : oneMore kind before' after') :
    oneMore kind before after := by
  unfold oneMore at h ⊢
  rw [same, same', h]

end

section

variable {s : State} {l : LineNo} {e : Exchange} {c : Context} {drop number : Byte} (hears : s.hears l e c)
  (poll : e.frame = .poll) (own : drop.toNat = e.drop) (new : c.lastEvent ≠ some number.toNat) (room : c.events.length < 4)

include hears poll own new room

/-- DOOR CLOSED ends the collection, if there is one, and the round that it completes closes itself. -/
theorem doorClosed_taken :
    ∃ t d, exec (.doorClosed l drop number []) s = .next t ∧
      t.context e.terminal = some (d.buffered number.toNat .doorClosed s.clock.now) ∧
      (∃ reports owed, d = { c.collecting none with reports := reports, owed := owed }) ∧
      (d.condition ≠ c.condition → d.reports.condition = true) ∧
      (∀ under, c.collection = some under → s.completes e.terminal under →
        t.cash = s.cash.selfClosed under ∧ oneMore .roundComplete s.notices t.notices ∧ t.attention = true) ∧
      ((∀ under, c.collection = some under → ¬s.completes e.terminal under) → t.cash = s.cash) ∧
      (t.line l).exchange = some (e.answering (.event number.toNat .doorClosed) number.toNat .taken) ∧
      s.onlyAt t e.terminal l ∧ t.permits = s.permits ∧ t.fare = s.fare ∧ t.link = s.link ∧ s.sameStore t := by
  obtain ⟨⟨-, -, -, hc, line⟩, sounds⟩ := id hears
  obtain ⟨touched, -, context, notices⟩ := goodFrame_leaves hc sounds l
  have standings := goodFrame_standings s l e.terminal
  cases collection : c.collection with
  | none =>
    have handed : (s.goodFrame l e.terminal).handEvent e.terminal .doorClosed = s.goodFrame l e.terminal := by
      simp only [State.handEvent, State.collectionEnded, context, collection]
    obtain ⟨t, run, after, cash, exchange, only, permits, fare, link, store, -⟩ :=
      event_taken (cash := s.cash) .doorClosed hears poll own new room handed touched context
    refine ⟨t, c, run, after, ⟨c.reports, c.owed, ?_⟩, fun differs => absurd rfl differs, nofun, fun _ => cash, exchange, only,
      permits, fare, link, store⟩
    rw [Context.collecting, ← collection]
  | some under =>
    have acts (d : Context) : (d.collecting none).number = d.number := rfl
    obtain ⟨o, acted⟩ := act_context context (fun d => d.collecting none) acts
    have moved := touched.trans (line ▸ act_touches context (fun d => d.collecting none) acts)
    have part := act_part (s.goodFrame l e.terminal) e.terminal (fun d => d.collecting none) (kind := .roundComplete) nofun
    have free := released_inCollectionUnder (s := s.goodFrame l e.terminal) (n := e.terminal) (number := under)
    rw [notices] at part
    rw [standings] at free
    obtain ⟨w, hw⟩ : ∃ w, w = (s.goodFrame l e.terminal).act e.terminal fun d => d.collecting none := ⟨_, rfl⟩
    have handed : (s.goodFrame l e.terminal).handEvent e.terminal .doorClosed = w.lookAtRound under := by
      rw [hw]
      simp only [State.handEvent, State.collectionEnded, context, collection]
      rfl
    rw [← hw] at acted moved part free
    obtain ⟨cash, -⟩ := moved.only.store
    have told : (c.acted (c.collecting none) o).condition ≠ c.condition →
        (c.acted (c.collecting none) o).reports.condition = true :=
      fun differs => Bool.or_eq_true_iff.mpr (.inr (decide_eq_true differs))
    by_cases completes : s.completes e.terminal under
    · rw [lookAtRound_completes cash free completes] at handed
      have touched : Touches { s with cash := s.cash.selfClosed under }
          (({ w with cash := s.cash.selfClosed under } : State).notice .roundComplete) e.terminal l :=
        (moved.withCash _).trans ((setNotices_only _ _).touches (fun _ _ => rfl) e.terminal)
      obtain ⟨t, run, after, closed, exchange, only, permits, fare, link, store, found, on⟩ :=
        event_taken .doorClosed hears poll own new room handed touched acted
      refine ⟨t, _, run, after, ⟨_, o, rfl⟩, told, fun other same _ => ?_, fun none_ => absurd completes (none_ under rfl),
        exchange, only, permits, fare, link, store⟩
      obtain rfl := Option.some.inj same
      refine ⟨closed, oneMore_congr part.symm (found _ nofun) (oneMore_noticeList _ _), on ?_⟩
      show (!(noticeList .roundComplete w.notices).isEmpty) = true
      rw [noticeList_ne_nil]
      rfl
    · rw [lookAtRound_stays cash free completes] at handed
      obtain ⟨t, run, after, same, exchange, only, permits, fare, link, store, -⟩ :=
        event_taken (cash := s.cash) .doorClosed hears poll own new room handed moved acted
      refine ⟨t, _, run, after, ⟨_, o, rfl⟩, told, fun other is closes => ?_, fun _ => same, exchange, only, permits, fare, link,
        store⟩
      obtain rfl := Option.some.inj is
      exact absurd closes completes

end

/-- Settles O53: each event is one act of the terminal with the cash accounts changed before it, and the end of a collection
looks at its round. -/
theorem doorAndBoxEvents : Obligations.DoorAndBoxEvents := by
  intro s l e c drop number hears poll own new room
  obtain ⟨⟨-, -, -, hc, line⟩, sounds⟩ := id hears
  obtain ⟨touched, -, context, -⟩ := goodFrame_leaves hc sounds l
  obtain ⟨cash, -, -, -, clock, -, -, defaults, -⟩ := touched.only.store
  have terminal := hears.1.number
  refine ⟨fun code r small listed right open_ => ?_, fun code small unauthorised => ?_, ?_, ?_⟩
  · have read : readDoorOpen (1 :: toPacked 3 code) = some (.doorOpen (some code)) :=
      readDoorOpen_optional (code := some code) fun n is => Option.some.inj is ▸ small
    have handed := doorOpened_authorised (s := s.goodFrame l e.terminal) (by rw [cash]; exact listed) right open_
    rw [cash] at handed
    obtain ⟨t, o, run, context, same, exchange, only, permits, fare, link, store⟩ :=
      act_taken (.doorOpen read) hears poll own new room handed fun _ => ⟨rfl, rfl, rfl⟩
    exact ⟨t, _, run, context, rfl, rfl, rfl, rfl, rfl, rfl, same,
      recorded_acted c (c.collecting (some r.number)) rfl o _ _ _, exchange, only, permits, fare, link, store⟩
  · have handed := doorOpened_forced (s := s.goodFrame l e.terminal) (by rw [cash]; exact unauthorised)
    obtain ⟨t, o, run, context, same, exchange, only, permits, fare, link, store⟩ :=
      act_taken (cash := (s.goodFrame l e.terminal).cash) (.doorOpen (readDoorOpen_optional small)) hears poll own new room handed
        fun _ => ⟨rfl, rfl, rfl⟩
    exact ⟨t, _, run, context, rfl, rfl, rfl, rfl, rfl, same.trans cash, recorded_acted c c.forced rfl o _ _ _, exchange,
      only, permits, fare, link, store⟩
  · obtain ⟨t, o, run, context, same, exchange, only, permits, fare, link, store⟩ :=
      act_taken .boxReplaced hears poll own new room (boxLifted_eq context) fun _ => ⟨rfl, rfl, rfl⟩
    rw [defaults] at context
    rw [cash, clock] at same
    obtain ⟨lifted, lastLifted, lastRound, lastSelfClosed⟩ := boxed_keeps s.cash c s.clock.now
    have rounds := boxed_rounds s.cash c s.clock.now
    rw [← same] at lifted lastLifted lastRound lastSelfClosed rounds
    rw [terminal] at rounds
    refine ⟨t, _, run, context, rfl, rfl, rfl, rfl, c.unboxed_faults s.defaults, fun few capacity => ?_,
      fun before newer after records two newest others => ?_, rounds, lastRound, lastSelfClosed,
      recorded_acted c (c.unboxed _) rfl o _ _ _, exchange, only, permits, fare, link, store⟩
    · rw [← terminal] at few ⊢
      rw [lift_records few] at lifted lastLifted
      exact ⟨_, nextNumber_unheld (by rw [List.length_map]; omega) s.cash.lastLifted, rfl, lifted, lastLifted⟩
    · rw [← terminal] at two newest others
      rw [lift_merges two] at lifted lastLifted
      refine ⟨lifted.trans ?_, lastLifted⟩
      have scheduled : (!c.collection.isSome) = (c.collection == none) := by cases c.collection <;> rfl
      rw [records, onNewest_newest _ newest others, Lifted.merge, scheduled]
      rfl
  · obtain ⟨t, d, run, context, ⟨reports, owed, rfl⟩, told, closes, stays, exchange, only, permits, fare, link, store⟩ :=
      doorClosed_taken hears poll own new room
    exact ⟨t, _, run, context, rfl, rfl, rfl, rfl, rfl, closes, stays, recorded_buffered told rfl _ _ _, exchange, only,
      permits, fare, link, store⟩

end Sys2Proof.Machine
end

section
/-! Rules of the Permit Table (O31 to O36; R79 to R100): a record inserted, replaced or changed, the checks on a record, the
referral that is refused, and how an operation begins, waits and ends. -/

namespace Sys2Proof.Machine

open Sys2Proof

/-! ### Records (R79, R83) -/

/-- A change to one record that keeps its number, read at that number. -/
theorem permit_onPermit_self {s : State} {number : Nat} {p : Permit} (h : s.permit number = some p) (f : Permit → Permit)
    (keeps : ∀ p, (f p).number = p.number) : (s.onPermit number f).permit number = some (f p) := by
  refine (permit_map s (fun p => if p.number = number then f p else p) (fun p => by split <;> simp [keeps]) number).trans ?_
  rw [h, Option.map_some, if_pos (permit_number h)]

theorem permit_onPermit_ne (s : State) {number m : Nat} (other : m ≠ number) (f : Permit → Permit)
    (keeps : ∀ p, (f p).number = p.number) : (s.onPermit number f).permit m = s.permit m := by
  refine (permit_map s (fun p => if p.number = number then f p else p) (fun p => by split <;> simp [keeps]) m).trans ?_
  cases held : s.permit m with
  | none => rfl
  | some p => rw [Option.map_some, if_neg (by rw [permit_number held]; exact other)]

/-- The state in which a record has a claim (R89). -/
def State.claimed (s : State) (number : Nat) (claim : Claim) : State :=
  s.onPermit number fun p => { p with claim := some claim }

theorem permit_claimed_self {s : State} {number : Nat} {p : Permit} (h : s.permit number = some p) (claim : Claim) :
    (s.claimed number claim).permit number = some { p with claim := some claim } :=
  permit_onPermit_self h (fun p => { p with claim := some claim }) fun _ => rfl

theorem permit_claimed_ne (s : State) {number m : Nat} (other : m ≠ number) (claim : Claim) :
    (s.claimed number claim).permit m = s.permit m :=
  permit_onPermit_ne s other (fun p => { p with claim := some claim }) fun _ => rfl

/-- A new record goes in somewhere, and the others keep their order. -/
theorem insertPermit_eq (p : Permit) (records : List Permit) :
    ∃ before after, records = before ++ after ∧ insertPermit p records = before ++ p :: after := by
  induction records with
  | nil => exact ⟨[], [], rfl, rfl⟩
  | cons q rest ih =>
    obtain ⟨before, after, parts, inserted⟩ := ih
    by_cases first : p.number < q.number
    · exact ⟨[], q :: rest, rfl, if_pos first⟩
    · exact ⟨q :: before, after, congrArg (q :: ·) parts, (if_neg first).trans (congrArg (q :: ·) inserted)⟩

/-- The record of a number that none has is found once it is inserted. -/
theorem find?_insertPermit_self {p : Permit} {records : List Permit}
    (fresh : records.find? (fun q => q.number == p.number) = none) :
    (insertPermit p records).find? (fun q => q.number == p.number) = some p := by
  obtain ⟨before, after, rfl, inserted⟩ := insertPermit_eq p records
  rw [List.find?_append, Option.or_eq_none_iff] at fresh
  rw [inserted, List.find?_append, fresh.1, Option.none_or]
  exact List.find?_cons_of_pos (beq_self_eq_true _)

theorem find?_insertPermit_ne {p : Permit} {m : Nat} (other : m ≠ p.number) (records : List Permit) :
    (insertPermit p records).find? (fun q => q.number == m) = records.find? (fun q => q.number == m) := by
  obtain ⟨before, after, rfl, inserted⟩ := insertPermit_eq p records
  rw [inserted, List.find?_append, List.find?_append, List.find?_cons_of_neg (by simpa using other.symm)]

theorem loadRecord_eq (s : State) (f : PermitFields) :
    ∃ records, s.loadRecord f = { s with permits := { s.permits with records := records } } := by
  unfold State.loadRecord
  split <;> exact ⟨_, rfl⟩

theorem loadRecord_inserts {s : State} {f : PermitFields} (fresh : s.permit f.number = none) :
    (s.loadRecord f).permit f.number = some f.record := by
  rw [State.loadRecord, fresh]
  exact find?_insertPermit_self (p := f.record) fresh

theorem loadRecord_replaces {s : State} {f : PermitFields} {p : Permit} (held : s.permit f.number = some p) :
    (s.loadRecord f).permit f.number = some (p.replace f) := by
  rw [State.loadRecord, held]
  exact permit_onPermit_self held (fun p => p.replace f) fun _ => rfl

theorem loadRecord_others (s : State) (f : PermitFields) {m : Nat} (other : m ≠ f.number) :
    (s.loadRecord f).permit m = s.permit m := by
  unfold State.loadRecord
  split
  · exact permit_onPermit_ne s other (fun p => p.replace f) fun _ => rfl
  · exact find?_insertPermit_ne (p := f.record) other _

/-! ### Checks 4 to 7 of R88 -/

/-- The model's checks are those of the statements; where none fails, check 5 has read the cap. -/
theorem sessionChecks_eq (s : State) (p : Permit) (zone : Zone) :
    s.sessionChecks p zone = (s.recordFails p zone).elim (.ok ((s.activeCap zone).getD 0)) .error := by
  unfold State.sessionChecks State.recordFails zoneIn
  by_cases valid : p.status ≠ .active ∨ s.clock.day < p.validFrom ∨ p.validTo < s.clock.day
  · rw [if_pos valid, if_pos valid]
    rfl
  rw [if_neg valid, if_neg valid]
  cases listed : p.zones.getLsbD zone.val with
  | false => simp
  | true =>
    cases eligible : s.activeCap zone with
    | none => simp
    | some cap =>
      have claimed : p.claim.isSome = true ↔ p.claim ≠ none := Option.isSome_iff_ne_none
      simp only [if_true, Bool.or_eq_true, claimed, Option.getD_some]
      simp only [Bool.true_eq_false, reduceCtorEq, or_false, if_false]
      repeat' split
      all_goals rfl

theorem sessionChecks_error {s : State} {p : Permit} {zone : Zone} {reason : Reason}
    (fails : s.recordFails p zone = some reason) : s.sessionChecks p zone = .error reason := by
  rw [sessionChecks_eq, fails]
  rfl

theorem sessionChecks_ok {s : State} {p : Permit} {zone : Zone} {cap : Nat} (passes : s.recordFails p zone = none)
    (eligible : s.activeCap zone = some cap) : s.sessionChecks p zone = .ok cap := by
  rw [sessionChecks_eq, passes, eligible]
  rfl

/-! ### Readings (R80, R86) -/

theorem map_record_reading (records : List Permit) (now : Instant) :
    (records.map (·.reading now)).map (·.record) = records := by
  rw [List.map_map]
  exact List.map_id records

/-- Records read now are read as R86 has it. -/
theorem readsAs_of_mem {s : State} {records : List Permit} {r : PermitReading}
    (read : r ∈ records.map (·.reading s.clock.now)) : s.readsAs r.record r := by
  obtain ⟨p, -, rfl⟩ := List.mem_map.mp read
  exact s.readsAs_reading p

/-! ### A referral refused (R94, R97, R98) -/

theorem refuseReferral_leaves {s : State} {r : Referral} {c : Context} (hc : s.context r.terminal = some c)
    (reason : Reason) :
    let t := s.refuseReferral r reason
    ∃ d, t.context r.terminal = some d ∧
      d = { c with
        held := some { referral := r.number, request := r.request, outcome := .refusal reason }
        referral := if c.referral.map (·.referral) = some r.number then none else c.referral
        owed := d.owed } ∧
      t.ordered d .result ∧ s.onlyAt t r.terminal c.line ∧
      t.permits = { s.permits with referrals := s.permits.referrals.filter fun q => q.number != r.number } ∧
      t.link = s.link ∧ t.fare = s.fare ∧ t.cash = s.cash ∧ s.sameStore t := by
  let refusal : HeldResult := { referral := r.number, request := r.request, outcome := .refusal reason }
  obtain ⟨owed, holding, ordered⟩ := hold_stands hc refusal
  have touches := hold_touches hc refusal
  unfold State.refuseReferral
  generalize s.hold r.terminal refusal = u at holding ordered touches
  obtain ⟨cash, permits, fare, link, store⟩ := touches.only.store
  refine ⟨_, dropReferral_context_self holding, rfl, ordered, dropReferral_onlyAt touches.onlyAt, ?_, link, fare,
    cash, store⟩
  show { u.permits with referrals := u.permits.referrals.filter fun q => q.number != r.number } = _
  rw [permits]

/-! ### The permit queue (R81) -/

/-- An operation that finds another in progress waits behind every other. -/
theorem placeOp_busy {s : State} (busy : s.permits.working ≠ none) (op : PermitOp) :
    s.placeOp op = { s with permits := { s.permits with queue := s.permits.queue ++ [op] } } := by
  obtain ⟨work, working⟩ := Option.ne_none_iff_exists'.mp busy
  rw [State.placeOp, working]
  rfl

theorem placeOp_idle {s : State} (idle : s.permits.working = none) (op : PermitOp) : s.placeOp op = s.beginOp op := by
  rw [State.placeOp, idle]

theorem nextOp_idle {s : State} (queue : s.permits.queue = []) :
    s.nextOp = { s with permits := { s.permits with working := none } } := by
  rw [State.nextOp, queue]
  rfl

theorem nextOp_lookup {s : State} {l : Lookup} {rest : List PermitOp} (queue : s.permits.queue = .lookup l :: rest) :
    s.nextOp = { s with permits := { s.permits with queue := rest, working := some (.lookup l false) } } := by
  rw [State.nextOp, queue]
  rfl

end Sys2Proof.Machine
end

section
/-! The host's permit requests and REFERRAL ANSWER (O31, O32): each is read on the accepted state, then waits behind the
operation in progress, or begins and settles its outcome. -/

namespace Sys2Proof.Machine

open Sys2Proof

/-! ### The requests are read and placed (R81) -/

section Requests
variable {s : State} {body : List Byte} (ready : s.ready = true)
include ready

theorem exec_permitLoad {records : List PermitFields} (read : readPermitLoad body = .ok records) (tag : Byte) :
    exec (.permitLoad tag body) s = .next ((s.accepted tag 18).placeOp (.load records)) := by
  simp only [exec, execPermitLoad, State.request_ready ready, read, State.owned_ok]
  rfl

theorem exec_permitChange {c : PermitChange} (read : readPermitChange body = .ok c) (tag : Byte) :
    exec (.permitChange tag body) s = .next ((s.accepted tag 19).placeOp (.change c)) := by
  simp only [exec, execPermitChange, State.request_ready ready, read, State.owned_ok]
  rfl

theorem exec_permitDrop {n : Nat} (read : readPermitNumber body = .ok n) (tag : Byte) :
    exec (.permitDrop tag body) s = .next ((s.accepted tag 20).placeOp (.drop n)) := by
  simp only [exec, execPermitDrop, State.request_ready ready, read, State.owned_ok]
  rfl

theorem exec_permitGet {n : Nat} (read : readPermitNumber body = .ok n) (tag : Byte) :
    exec (.permitGet tag body) s = .next ((s.accepted tag 21).placeOp (.get n)) := by
  simp only [exec, execPermitGet, State.request_ready ready, read, State.owned_ok]
  rfl

theorem exec_permitScan {first count : Nat} (read : readPermitScan body = .ok (first, count)) (tag : Byte) :
    exec (.permitScan tag body) s = .next ((s.accepted tag 22).placeOp (.scan first count)) := by
  simp only [exec, execPermitScan, State.request_ready ready, read, State.owned_ok]
  rfl

theorem exec_referralAnswer {n : Nat} {decision : Decision}
    (read : readReferralAnswer s.referredPermit body = .ok (n, decision)) (tag : Byte) :
    exec (.referralAnswer tag body) s = .next ((s.accepted tag 25).placeOp (.answer n decision)) := by
  have same (kind : Byte) : (s.accepted tag kind).referredPermit = s.referredPermit := rfl
  simp only [exec, execReferralAnswer, State.request_ready ready, same, read, State.owned_ok]
  rfl

end Requests

/-- An accepted request that finds an operation in progress waits, whatever it asks for. -/
theorem accepted_waits {s : State} (busy : s.permits.working ≠ none) (tag kind : Byte) (op : PermitOp) :
    (s.accepted tag kind).placeOp op =
      { s with link := s.link.accept tag kind, permits := { s.permits with queue := s.permits.queue ++ [op] } } :=
  placeOp_busy (s := s.accepted tag kind) busy op

/-- One that finds none in progress begins. -/
theorem accepted_begins {s : State} (idle : s.permits.working = none) (tag kind : Byte) (op : PermitOp) :
    (s.accepted tag kind).placeOp op = (s.accepted tag kind).beginOp op :=
  placeOp_idle (s := s.accepted tag kind) idle op

/-! ### PERMIT LOAD (R83) -/

/-- The distinct new numbers of a request, however they are listed. -/
theorem newNumbers_eq {s : State} {records : List PermitFields} {added : List Nat} (distinct : added.Nodup)
    (named : ∀ n, n ∈ added ↔ (∃ f ∈ records, f.number = n) ∧ s.permit n = none) :
    s.newNumbers records = added.length := by
  refine ((List.perm_ext_iff_of_nodup (List.nodup_dedup _) distinct).mpr fun n => ?_).length_eq
  rw [List.mem_dedup, List.mem_filter, List.mem_map, Option.isNone_iff_eq_none, named]

theorem beginOp_load (s : State) (records : List PermitFields) :
    s.beginOp (.load records) = { s with permits := { s.permits with
      working := some (if 2048 < s.permits.records.length + s.newNumbers records then .settled .full
        else .load records 0 0) } } := by
  by_cases full : 2048 < s.permits.records.length + s.newNumbers records
  · rw [if_pos full]
    exact if_pos full
  · rw [if_neg full]
    exact if_neg full

/-! ### RECORD INSERTION (R82, R83, R98) -/

theorem exec_recordInsertion {s : State} (on : s.mainSupply = true) : exec .recordInsertion s = .next s.insertStep := by
  simp only [exec, execRecordInsertion, State.working, if_pos on]

/-- The state in which a record is in and the operation has gone on. -/
def State.loaded (s : State) (f : PermitFields) (work : PermitWork) : State :=
  (s.loadRecord f).onPermits fun t => { t with working := some work }

theorem loaded_eq (s : State) (f : PermitFields) (work : PermitWork) :
    s.loaded f work =
      { s with permits := { s.permits with records := (s.loaded f work).permits.records, working := some work } } := by
  obtain ⟨records, e⟩ := loadRecord_eq s f
  rw [State.loaded, e]
  rfl

theorem insertStep_inserts {s : State} {f : PermitFields} {rest : List PermitFields} {inserted replaced : Nat}
    (working : s.permits.working = some (.load (f :: rest) inserted replaced)) (fresh : s.permit f.number = none) :
    s.insertStep = s.loaded f (.load rest (inserted + 1) replaced) := by
  simp only [State.insertStep, working, fresh]
  rfl

theorem insertStep_replaces {s : State} {f : PermitFields} {rest : List PermitFields} {inserted replaced : Nat} {p : Permit}
    (working : s.permits.working = some (.load (f :: rest) inserted replaced)) (held : s.permit f.number = some p) :
    s.insertStep = s.loaded f (.load rest inserted (replaced + 1)) := by
  simp only [State.insertStep, working, held]
  rfl

theorem insertStep_grant {s : State} {f : PermitFields} {n : Nat}
    (working : s.permits.working = some (.grant n f false)) : s.insertStep = s.loaded f (.grant n f true) := by
  simp only [State.insertStep, working]
  rfl

/-- Settles O32: a RECORD INSERTION is split by whether a record holds the number, and the load goes on either way. -/
theorem permitLoadTakesItsRecords : Obligations.PermitLoadTakesItsRecords := by
  refine ⟨fun s tag body records added ready read idle distinct named => ?_,
    fun s f rest inserted replaced on working => ?_, fun s f n on working => ?_⟩
  · rw [exec_permitLoad ready read, accepted_begins idle, beginOp_load, ← newNumbers_eq distinct named]
    rfl
  · cases held : s.permit f.number with
    | none =>
      refine ⟨_, (exec_recordInsertion on).trans (congrArg _ (insertStep_inserts working held)), loaded_eq _ _ _,
        fun m other => loadRecord_others s f other, fun _ => ⟨loadRecord_inserts held, rfl⟩, nofun⟩
    | some p =>
      refine ⟨_, (exec_recordInsertion on).trans (congrArg _ (insertStep_replaces working held)), loaded_eq _ _ _,
        fun m other => loadRecord_others s f other, nofun, ?_⟩
      rintro _ ⟨⟩
      exact ⟨loadRecord_replaces held, rfl⟩
  · exact ⟨_, (exec_recordInsertion on).trans (congrArg _ (insertStep_grant working)), loaded_eq _ _ _,
      fun m other => loadRecord_others s f other, loadRecord_inserts, fun p => loadRecord_replaces⟩

/-! ### PERMIT CHANGE, DROP and GET (R80, R84 to R86) -/

theorem beginOp_get_absent {s : State} {n : Nat} (absent : s.permit n = none) : s.beginOp (.get n) = s.settle .noSuch := by
  simp only [State.beginOp, absent]

theorem beginOp_get_held {s : State} {n : Nat} {p : Permit} (held : s.permit n = some p) :
    s.beginOp (.get n) = s.settle (.done (.permit (p.reading s.clock.now))) := by
  simp only [State.beginOp, held]

theorem beginOp_drop_absent {s : State} {n : Nat} (absent : s.permit n = none) :
    s.beginOp (.drop n) = s.settle .noSuch := by
  simp only [State.beginOp, absent]

theorem beginOp_drop_held {s : State} {n : Nat} {p : Permit} (held : s.permit n = some p) :
    s.beginOp (.drop n) =
      (s.onPermits fun t => { t with records := t.records.filter fun p => p.number != n }).settle (.done .plain) := by
  simp only [State.beginOp, held]

theorem beginChange_absent {s : State} {c : PermitChange} (absent : s.permit c.number = none) :
    s.beginChange c = s.settle .noSuch := by
  simp only [State.beginChange, absent]

theorem beginChange_refused {s : State} {c : PermitChange} {p : Permit} (held : s.permit c.number = some p)
    (order : (p.change c).validTo < (p.change c).validFrom) : s.beginChange c = s.settle (.field 5) := by
  simp only [State.beginChange, held, if_pos order]

theorem beginChange_made {s : State} {c : PermitChange} {p : Permit} (held : s.permit c.number = some p)
    (order : (p.change c).validFrom ≤ (p.change c).validTo) :
    s.beginChange c = (s.onPermit c.number fun p => p.change c).settle (.done (.changed (p.change c))) := by
  simp only [State.beginChange, held, if_neg (Nat.not_lt.mpr order)]

/-! ### REFERRAL ANSWER (R97, R98) -/

/-- The REFERRAL walk of a referral (R98). -/
def Referral.fareEntry (r : Referral) (zone : Zone) (minutes : Nat) : FareEntry :=
  { kind := .referral, budget := .minutes minutes, zone := zone, bank := .active, start := none,
    returnTo := .referral r.number r.terminal, permit := some r.permit }

theorem placeReferral_eq (s : State) (r : Referral) (zone : Zone) (minutes : Nat) :
    s.placeReferral r zone minutes = { s with fare := s.fareWith (r.fareEntry zone minutes) } := placeFare_eq _ _

theorem grantOnce_eq {s : State} {r : Referral} {c : Context} (hc : s.context r.terminal = some c) (minutes : Nat) :
    s.grantOnce r minutes = s.placeReferral r c.zone
      ((s.activeCap c.zone).elim (min r.minutes minutes) (min (min r.minutes minutes))) := by
  simp only [State.grantOnce, hc]
  cases s.activeCap c.zone <;> rfl

theorem beginAnswer_tooLate {s : State} {n : Nat} (gone : s.referralOf n = none) (decision : Decision) :
    s.beginAnswer n decision = s.settle .tooLate := by
  simp only [State.beginAnswer, gone]

theorem beginAnswer_decided {s : State} {n : Nat} {r : Referral} (entry : s.referralOf n = some r)
    (decided : r.decision ≠ none) (decision : Decision) : s.beginAnswer n decision = s.settle .state := by
  simp only [State.beginAnswer, entry, if_pos (Option.isSome_iff_ne_none.mpr decided)]

section Waiting
variable {s : State} {n : Nat} {r : Referral} (entry : s.referralOf n = some r) (waits : r.decision = none)
include entry waits

theorem beginAnswer_deny : s.beginAnswer n .deny =
    ((s.recordDecision n .deny).refuseReferral r .permitNotValid).settle (.done .plain) := by
  simp [State.beginAnswer, entry, waits]

theorem beginAnswer_grantOnce (minutes : Nat) : s.beginAnswer n (.grantOnce minutes) =
    ((s.recordDecision n (.grantOnce minutes)).grantOnce r minutes).settle (.done .plain) := by
  simp [State.beginAnswer, entry, waits]

theorem beginAnswer_full {record : PermitFields} (fresh : s.permit record.number = none)
    (full : 2048 ≤ s.permits.records.length) : s.beginAnswer n (.grantAndLoad record) = s.settle .full := by
  simp [State.beginAnswer, entry, waits, fresh, Config.permitCapacity, full]

theorem beginAnswer_grantAndLoad {record : PermitFields}
    (room : s.permit record.number ≠ none ∨ s.permits.records.length < 2048) :
    s.beginAnswer n (.grantAndLoad record) =
      (s.recordDecision n (.grantAndLoad record)).onPermits fun t =>
        { t with working := some (.grant n record false) } := by
  have fits : ¬(s.permit record.number = none ∧ 2048 ≤ s.permits.records.length) := by
    rintro ⟨fresh, full⟩
    exact room.elim (fun held => held fresh) (Nat.not_lt.mpr full)
  simp only [State.beginAnswer, entry, waits, Option.isSome_none, Bool.false_eq_true, if_false, Option.isNone_iff_eq_none,
    Config.permitCapacity, if_neg fits]

end Waiting

/-! ### The seconds event during a scan (R82, R86) -/

/-- Beside the clock's own, a seconds event leaves the Permit Table alone, and of a scan it takes the next choices. -/
theorem exec_secondsEvent_scan {s : State} (on : s.mainSupply = true) :
    ∃ t, exec .secondsEvent s = .next t ∧ t.permits = s.permits ∧ t.scanned = s.scanTo (Config.scanSteps s.choices) := by
  have run : exec .secondsEvent s = .next ((if s.clock.beginsMinute then s.scanAlong.tick.presentMinute
      else s.scanAlong.tick).onLines Line.pace) := by
    simp [exec, execSecondsEvent, State.secondsEvent, on]
  refine ⟨_, run, ?_⟩
  by_cases minute : s.clock.beginsMinute = true
  · obtain ⟨_, _, _, _, e⟩ := presentMinute_only s.scanAlong.tick
    rw [if_pos minute, e]
    exact ⟨rfl, rfl⟩
  · rw [if_neg minute]
    exact ⟨rfl, rfl⟩

/-! ### The requests settled at their beginning (O31) -/

section Begins
variable {s : State} (tag : Byte) {body : List Byte} (ready : s.ready = true) (idle : s.permits.working = none)
include ready idle

theorem permitGet_permitDrop_absent {n : Nat} (read : readPermitNumber body = .ok n) (absent : s.permit n = none) :
    exec (.permitGet tag body) s =
        .next { s with link := s.link.accept tag 21, permits := { s.permits with working := some (.settled .noSuch) } } ∧
      exec (.permitDrop tag body) s =
        .next { s with
          link := s.link.accept tag 20, permits := { s.permits with working := some (.settled .noSuch) } } := by
  rw [exec_permitGet ready read, exec_permitDrop ready read, accepted_begins idle, accepted_begins idle,
    beginOp_get_absent (s := s.accepted tag 21) absent, beginOp_drop_absent (s := s.accepted tag 20) absent]
  exact ⟨rfl, rfl⟩

theorem permitGet_permitDrop_held {n : Nat} {p : Permit} (read : readPermitNumber body = .ok n) (held : s.permit n = some p) :
    (∃ r, s.readsAs p r ∧
      exec (.permitGet tag body) s =
        .next { s with
          link := s.link.accept tag 21
          permits := { s.permits with working := some (.settled (.done (.permit r))) } }) ∧
    exec (.permitDrop tag body) s =
      .next { s with
        link := s.link.accept tag 20
        permits := { s.permits with
          records := s.permits.records.filter fun p => p.number != n
          working := some (.settled (.done .plain)) } } := by
  rw [exec_permitGet ready read, exec_permitDrop ready read, accepted_begins idle, accepted_begins idle,
    beginOp_get_held (s := s.accepted tag 21) held, beginOp_drop_held (s := s.accepted tag 20) held]
  exact ⟨⟨_, s.readsAs_reading p, rfl⟩, rfl⟩

theorem permitChange_absent {c : PermitChange} (read : readPermitChange body = .ok c) (absent : s.permit c.number = none) :
    exec (.permitChange tag body) s =
      .next { s with
        link := s.link.accept tag 19, permits := { s.permits with working := some (.settled .noSuch) } } := by
  rw [exec_permitChange ready read, accepted_begins idle]
  exact congrArg _ (beginChange_absent absent)

theorem permitChange_refused {c : PermitChange} {p : Permit} (read : readPermitChange body = .ok c)
    (held : s.permit c.number = some p) (order : (p.change c).validTo < (p.change c).validFrom) :
    exec (.permitChange tag body) s =
      .next { s with
        link := s.link.accept tag 19, permits := { s.permits with working := some (.settled (.field 5)) } } := by
  rw [exec_permitChange ready read, accepted_begins idle]
  exact congrArg _ (beginChange_refused (s := s.accepted tag 19) held order)

theorem permitChange_made {c : PermitChange} {p : Permit} (read : readPermitChange body = .ok c)
    (held : s.permit c.number = some p) (order : (p.change c).validFrom ≤ (p.change c).validTo) :
    ∃ t, exec (.permitChange tag body) s = .next t ∧
      t = { s with
        link := s.link.accept tag 19
        permits := { s.permits with
          records := t.permits.records, working := some (.settled (.done (.changed (p.change c)))) } } ∧
      t.permit c.number = some (p.change c) ∧ ∀ m, m ≠ c.number → t.permit m = s.permit m := by
  rw [exec_permitChange ready read, accepted_begins idle]
  exact ⟨_, congrArg _ (beginChange_made (s := s.accepted tag 19) held order), rfl,
    permit_onPermit_self (s := s.accepted tag 19) held (fun p => p.change c) fun _ => rfl,
    fun m other => permit_onPermit_ne (s.accepted tag 19) other (fun p => p.change c) fun _ => rfl⟩

theorem permitScan_begins {first count : Nat} (read : readPermitScan body = .ok (first, count)) :
    exec (.permitScan tag body) s =
      .next { s with
        link := s.link.accept tag 22, scanned := [], permits := { s.permits with working := some (.scan first count) } } := by
  rw [exec_permitScan ready read, accepted_begins idle]
  rfl

theorem referralAnswer_begins {n : Nat} {decision : Decision}
    (read : readReferralAnswer s.referredPermit body = .ok (n, decision)) :
    exec (.referralAnswer tag body) s = .next ((s.accepted tag 25).beginAnswer n decision) := by
  rw [exec_referralAnswer ready read, accepted_begins idle]
  rfl

end Begins

/-- A PERMIT SCAN in progress when a seconds event is taken. -/
theorem secondsEvent_scans {s : State} {first count : Nat} (on : s.mainSupply = true)
    (working : s.permits.working = some (.scan first count)) (kept : s.permitsKept) :
    ∃ t new, exec .secondsEvent s = .next t ∧ t.permits = s.permits ∧ t.scanned = s.scanned ++ new ∧
      new.map (·.record) <+: s.scanAhead first ∧ t.scanned.length ≤ max s.scanned.length count ∧
      ∀ r ∈ new, s.readsAs r.record r := by
  obtain ⟨t, run, permits, scanned⟩ := exec_secondsEvent_scan on
  rw [State.scanTo_eq kept working] at scanned
  refine ⟨t, _, run, permits, scanned, ?_, ?_, fun r mem => ?_⟩
  · rw [map_record_reading]
    exact List.take_prefix _ _
  · rw [scanned, List.length_append, List.length_map, List.length_take]
    omega
  · exact readsAs_of_mem mem

/-- A GRANT ONCE that begins at once (R98). -/
theorem referralAnswer_grants {s : State} (tag : Byte) {n : Nat} {r : Referral} {c : Context} {minutes : Nat}
    {entry : FareEntry} (held : s.referralOf n = some r) (waits : r.decision = none) (hc : s.context r.terminal = some c)
    (placed : entry = r.fareEntry c.zone ((s.activeCap c.zone).elim (min r.minutes minutes) (min (min r.minutes minutes)))) :
    (s.accepted tag 25).beginAnswer n (.grantOnce minutes) =
      { s with
        link := s.link.accept tag 25
        permits := { s.permits with
          referrals := s.permits.referrals.map fun q =>
            if q.number = n then { q with decision := some (.grantOnce minutes) } else q
          working := some (.settled (.done .plain)) }
        fare := s.fareWith entry } := by
  have hc : ((s.accepted tag 25).recordDecision n (.grantOnce minutes)).context r.terminal = some c := hc
  rw [beginAnswer_grantOnce (s := s.accepted tag 25) held waits, grantOnce_eq hc, placeReferral_eq, placed]
  rfl

/-- Settles O31: a request is read on the accepted state, and waits or begins as the permit queue has it. -/
theorem permitRequestsBeginOrWait : Obligations.PermitRequestsBeginOrWait := by
  refine ⟨fun s tag body ready busy => ?_, fun s tag body ready idle => ?_,
    fun s first count on working kept => secondsEvent_scans on working kept,
    fun s tag body n decision ready idle read => ?_⟩
  · have waits {i : Instr} {kind : Byte} {op : PermitOp}
        (placed : exec i s = .next ((s.accepted tag kind).placeOp op)) :
        exec i s = .next { s with
          link := s.link.accept tag kind, permits := { s.permits with queue := s.permits.queue ++ [op] } } :=
      placed.trans (congrArg _ (accepted_waits busy tag kind op))
    exact ⟨fun _ read => waits (exec_permitLoad ready read tag), fun _ read => waits (exec_permitChange ready read tag),
      fun _ read => ⟨waits (exec_permitDrop ready read tag), waits (exec_permitGet ready read tag)⟩,
      fun _ _ read => waits (exec_permitScan ready read tag), fun _ _ read => waits (exec_referralAnswer ready read tag)⟩
  · refine ⟨fun _ => permitGet_permitDrop_absent tag ready idle, fun _ _ => permitGet_permitDrop_held tag ready idle,
      fun _ => permitChange_absent tag ready idle, ?_, fun _ _ => permitScan_begins tag ready idle⟩
    rintro c p _ read held rfl
    exact ⟨permitChange_refused tag ready idle read held, permitChange_made tag ready idle read held⟩
  · rw [referralAnswer_begins tag ready idle read]
    refine ⟨fun gone => congrArg _ (beginAnswer_tooLate (s := s.accepted tag 25) gone decision),
      fun r held decided => congrArg _ (beginAnswer_decided (s := s.accepted tag 25) held decided decision), ?_, ?_⟩
    · rintro r minutes c entry held waits rfl hc placed
      refine congrArg _ ((referralAnswer_grants tag held waits hc (placed.trans ?_)))
      rw [← referralOf_number held]
      cases s.activeCap c.zone <;> rfl
    · rintro r record held waits rfl
      exact ⟨fun fresh full => congrArg _ (beginAnswer_full (s := s.accepted tag 25) held waits fresh full),
        fun room => congrArg _ (beginAnswer_grantAndLoad (s := s.accepted tag 25) held waits room)⟩

end Sys2Proof.Machine
end

section
/-! PERMIT OPERATION COMPLETE (O33): the reply is handed over, the oldest waiting operation begins, and what a PERMIT SCAN and
a GRANT AND LOAD still have to do at their completion. -/

namespace Sys2Proof.Machine

open Sys2Proof

/-! ### The reply and the next operation (R81) -/

theorem exec_permitOperationComplete {s : State} (on : s.mainSupply = true) :
    exec .permitOperationComplete s = .next s.completeOp := by
  simp only [exec, execPermitOperationComplete, State.working, if_pos on]

theorem reply_outstanding {s : State} {o : Outstanding} (outstanding : s.link.outstanding = some o) (body : ReplyBody) :
    s.reply body = { s with link := s.link.push { tag := o.tag, kind := o.kind, body := body } } := by
  simp only [State.reply, State.onLink, outstanding]

section Ends
variable {s : State} {o : Outstanding} (outstanding : s.link.outstanding = some o)
include outstanding

theorem reply_nextOp_idle (queue : s.permits.queue = []) (body : ReplyBody) :
    (s.reply body).nextOp = { s with
      link := s.link.push { tag := o.tag, kind := o.kind, body := body }
      permits := { s.permits with working := none } } := by
  rw [reply_outstanding outstanding]
  exact nextOp_idle queue

theorem reply_nextOp_lookup {l : Lookup} {rest : List PermitOp} (queue : s.permits.queue = .lookup l :: rest)
    (body : ReplyBody) :
    (s.reply body).nextOp = { s with
      link := s.link.push { tag := o.tag, kind := o.kind, body := body }
      permits := { s.permits with queue := rest, working := some (.lookup l false) } } := by
  rw [reply_outstanding outstanding]
  exact nextOp_lookup queue

end Ends

/-! ### The completion of each operation (R81 to R86, R98) -/

theorem completeOp_settled {s : State} {body : ReplyBody} (working : s.permits.working = some (.settled body)) :
    s.completeOp = (s.reply body).nextOp := by
  rw [State.completeOp, working]

theorem completeOp_loaded {s : State} {inserted replaced : Nat}
    (working : s.permits.working = some (.load [] inserted replaced)) :
    s.completeOp = (s.reply (.done (.loaded inserted replaced))).nextOp := by
  rw [State.completeOp, working]
  rfl

theorem completeOp_scan {s : State} {first count : Nat} (working : s.permits.working = some (.scan first count)) :
    s.completeOp = (s.completeScan first count).nextOp := by
  rw [State.completeOp, working]

theorem completeOp_grant {s : State} {n : Nat} {record : PermitFields}
    (working : s.permits.working = some (.grant n record true)) :
    s.completeOp = ((s.grantChecks n record).reply (.done .plain)).nextOp := by
  rw [State.completeOp, working]
  rfl

/-! ### PERMIT SCAN (R86) -/

/-- After so many of the records ahead have been chosen, the others lie ahead. -/
theorem aheadOf_append_take {records : List Permit} (h : (records.map (·.number)).Pairwise (· < ·)) (first : Nat)
    (now : Instant) (k : Nat) (chosen : List PermitReading) :
    aheadOf records first (chosen ++ ((aheadOf records first chosen).take k).map (·.reading now)) =
      (aheadOf records first chosen).drop k := by
  induction k generalizing chosen with
  | zero => simp
  | succ k ih =>
    cases ahead : aheadOf records first chosen with
    | nil => simpa using ahead
    | cons p rest =>
      have next := ih (chosen ++ [p.reading now])
      rw [aheadOf_append h ahead now, List.append_assoc] at next
      exact next

/-- What a PERMIT SCAN's completion gives. -/
theorem completeScan_eq {s : State} (kept : s.permitsKept) (first count : Nat) :
    ∃ new more,
      s.completeScan first count = ({ s with scanned := [] } : State).reply (.done (.scan (s.scanned ++ new) more)) ∧
      new.map (·.record) = (s.scanAhead first).take (count - s.scanned.length) ∧
      (∀ r ∈ new, s.readsAs r.record r) ∧
      (more = true ↔ count - s.scanned.length < (s.scanAhead first).length) := by
  have steps := scanSteps_eq kept s.clock.now first count count s.scanned
  rw [Nat.min_eq_right (Nat.sub_le _ _)] at steps
  refine ⟨_, _, by rw [State.completeScan, steps]; rfl, map_record_reading _ _, fun r => readsAs_of_mem, ?_⟩
  rw [nextToScan_eq, aheadOf_append_take kept, List.head?_drop, isSome_getElem?]
  exact Iff.rfl

/-! ### GRANT AND LOAD (R98) -/

section Grant
variable {s : State} {n : Nat} {record : PermitFields} {r : Referral} {c : Context} {p : Permit}
  (entry : s.referralOf n = some r) (attached : r.detached = false) (hc : s.context r.terminal = some c)
  (held : s.permit record.number = some p)
include entry attached hc held

theorem grantChecks_error {reason : Reason} (fails : s.recordFails p c.zone = some reason) :
    s.grantChecks n record = s.refuseReferral r reason := by
  simp only [State.grantChecks, entry, attached, Bool.false_eq_true, if_false, hc, held, sessionChecks_error fails]

/-- The record takes the claim, and the walk is placed. -/
theorem grantChecks_ok {cap : Nat} (passes : s.recordFails p c.zone = none) (eligible : s.activeCap c.zone = some cap) :
    s.grantChecks n record =
      { s.claimed record.number (.referral n) with
        fare := s.fareWith (r.fareEntry c.zone (s.sessionBudget p r.minutes cap)) } := by
  simp only [State.grantChecks, entry, attached, Bool.false_eq_true, if_false, hc, held, sessionChecks_ok passes eligible,
    placeReferral_eq]
  rfl

end Grant

/-- Settles O33: the operation in progress decides the reply, and with nothing waiting the table is idle after it. -/
theorem permitCompletionIsAnswered : Obligations.PermitCompletionIsAnswered := by
  intro s o on outstanding
  rw [exec_permitOperationComplete on]
  refine ⟨fun body working => ?_, fun inserted replaced working queue => ?_, fun first count working queue kept => ?_,
    fun n record r c p working queue found attached hc held => ?_⟩
  · rw [completeOp_settled working]
    exact ⟨fun queue => congrArg _ (reply_nextOp_idle outstanding queue body),
      fun l rest queue => congrArg _ (reply_nextOp_lookup outstanding queue body)⟩
  · rw [completeOp_loaded working]
    exact congrArg _ (reply_nextOp_idle outstanding queue _)
  · obtain ⟨new, more, completed, chosen, read, others⟩ := completeScan_eq kept first count
    rw [completeOp_scan working, completed]
    exact ⟨new, more, congrArg _ (reply_nextOp_idle (s := { s with scanned := [] }) outstanding queue _), chosen, read,
      others⟩
  · rw [completeOp_grant working]
    refine ⟨fun cap entry passes eligible placed => ?_, fun reason fails => ?_⟩
    · have walk : entry = r.fareEntry c.zone (s.sessionBudget p r.minutes cap) := placed
      rw [grantChecks_ok found attached hc held passes eligible, ← walk]
      exact ⟨_, congrArg _ (reply_nextOp_idle (s := { s.claimed record.number (.referral n) with fare := s.fareWith entry })
          outstanding queue _), rfl, permit_claimed_self held _, fun m other => permit_claimed_ne s other _⟩
    · obtain ⟨d, context, changed, ordered, only, permits, link, fare, cash, store⟩ := refuseReferral_leaves hc reason
      rw [grantChecks_error found attached hc held fails]
      generalize s.refuseReferral r reason = u at context ordered only permits link fare cash store
      refine ⟨_, d, congrArg _ (reply_nextOp_idle (link ▸ outstanding) (by rw [permits]; exact queue) _), context, changed,
        ordered, only, ?_, ?_, fare, cash, store⟩
      · rw [permits]
      · rw [link]

end Sys2Proof.Machine
end

section
/-! LOOKUP (O34): the checks at its completion, the claim and the walk of a session, and the referral that is made. -/

namespace Sys2Proof.Machine

open Sys2Proof

/-! ### The checks of a LOOKUP (R88) -/

theorem exec_lookupComplete {s : State} {l : Lookup} (on : s.mainSupply = true)
    (working : s.permits.working = some (.lookup l false)) :
    exec .lookupComplete s = .next (s.lookupChecks l).nextOp := by
  simp only [exec, execLookupComplete, State.working, if_pos on, State.completeLookup, working, Bool.false_eq_true, if_false]

theorem condition_eq {s : State} {n : Nat} {c : Context} (hc : s.context n = some c) : s.condition n = c.condition := by
  rw [State.condition, hc]

/-- The first check that fails gives the reason of the refusal. -/
theorem lookupChecks_refuses {s : State} {l : Lookup} {c : Context} {reason : Reason}
    (hc : s.context l.terminal = some c) (fails : s.lookupFails c l = some reason) :
    s.lookupChecks l = s.finish l.terminal l.request (.refused reason) := by
  unfold State.lookupFails at fails
  unfold State.lookupChecks
  rw [condition_eq hc]
  by_cases unset : s.clock.valid = false
  · rw [if_pos unset] at fails
    obtain rfl := Option.some.inj fails
    simp [unset]
  rw [if_neg unset] at fails
  by_cases service : c.condition ≠ .inService ∧ c.condition ≠ .restricted
  · rw [if_pos service] at fails
    obtain rfl := Option.some.inj fails
    simp [unset, service]
  rw [if_neg service] at fails
  have valid : s.clock.valid = true := Bool.eq_true_of_not_eq_false unset
  simp only [valid, Bool.not_true, Bool.false_eq_true, if_false, if_neg service]
  cases held : s.permit l.permit with
  | none =>
    rw [held] at fails
    cases enabled : s.permits.referralEnabled <;> simp_all
  | some p =>
    rw [held] at fails
    simp only [sessionChecks_error fails]

section Admitted
variable {s : State} {l : Lookup} (valid : s.clock.valid = true)
  (service : s.condition l.terminal = .inService ∨ s.condition l.terminal = .restricted)
include valid service

theorem lookupChecks_claims {p : Permit} {cap : Nat} (held : s.permit l.permit = some p)
    (passes : s.recordFails p l.zone = none) (eligible : s.activeCap l.zone = some cap) :
    s.lookupChecks l = s.claimSession l p cap := by
  have admitted : ¬(s.condition l.terminal ≠ .inService ∧ s.condition l.terminal ≠ .restricted) := by tauto
  simp only [State.lookupChecks, valid, Bool.not_true, Bool.false_eq_true, if_false, if_neg admitted, held,
    sessionChecks_ok passes eligible]

theorem lookupChecks_refers (unknown : s.permit l.permit = none) (enabled : s.permits.referralEnabled = true) :
    s.lookupChecks l = s.refer l := by
  have admitted : ¬(s.condition l.terminal ≠ .inService ∧ s.condition l.terminal ≠ .restricted) := by tauto
  simp only [State.lookupChecks, valid, Bool.not_true, Bool.false_eq_true, if_false, if_neg admitted, unknown, enabled,
    if_true]

end Admitted

/-! ### A LOOKUP answered at once (R88, R93) -/

/-- A LOOKUP whose request is answered and of which nothing is kept. -/
theorem lookup_answered {s : State} {l : Lookup} {c : Context} {answer : Answer} (on : s.mainSupply = true)
    (working : s.permits.working = some (.lookup l false)) (queue : s.permits.queue = [])
    (hc : s.context l.terminal = some c) (answered : s.lookupChecks l = s.finish l.terminal l.request answer) :
    ∃ t, exec .lookupComplete s = .next t ∧ t.permits = { s.permits with working := none } ∧
      t.context l.terminal = some { c with inFlight := none } ∧
      s.answers t c.line l.terminal l.request answer ∧ s.onlyAt t l.terminal c.line ∧
      t.notices = s.notices ∧ t.fare = s.fare ∧ t.cash = s.cash ∧ t.link = s.link ∧ s.sameStore t := by
  have answers := finish_answers hc l.request answer
  have context := (finish_context s l.terminal l.request answer).trans (congrArg (Option.map _) hc)
  have touches := finish_touches hc l.request answer
  have notices := finish_notices s l.terminal l.request answer
  have run := exec_lookupComplete on working
  rw [answered] at run
  generalize s.finish l.terminal l.request answer = u at answers context touches notices run
  obtain ⟨cash, permits, fare, link, store⟩ := touches.only.store
  rw [nextOp_idle (by rw [permits]; exact queue), permits] at run
  exact ⟨_, run, rfl, context, answers, touches.onlyAt, notices, fare, cash, link, store⟩

/-! ### The claim and the walk (R89) -/

/-- The SESSION walk of a LOOKUP (R89). -/
def Lookup.fareEntry (l : Lookup) (minutes : Nat) : FareEntry :=
  { kind := .session, budget := .minutes minutes, zone := l.zone, bank := .active, start := none,
    returnTo := .terminal l.terminal l.request, permit := some l.permit }

theorem claimSession_eq (s : State) (l : Lookup) (p : Permit) (cap : Nat) :
    s.claimSession l p cap =
      { s.claimed l.permit (.session l.terminal l.request) with
        fare := s.fareWith (l.fareEntry (s.sessionBudget p l.minutes cap)) } :=
  placeFare_eq _ _

/-! ### The referral (R93) -/

/-- The entry of a referral made for a LOOKUP. -/
def State.referralFor (s : State) (l : Lookup) (number : Nat) : Referral :=
  { number := number, terminal := l.terminal, request := l.request, permit := l.permit, minutes := l.minutes,
    arrival := s.clock.now, deadline := s.elapsed + s.permits.referralTimeout, decision := none, detached := false }

/-- The state in which it is listed and marked in its terminal's context. -/
def State.referred (s : State) (l : Lookup) (number : Nat) : State :=
  (s.onPermits fun t =>
    { t with referrals := t.referrals ++ [s.referralFor l number], lastReferral := number }).onContext l.terminal fun c =>
      { c with referral := some { referral := number, request := l.request } }

theorem refer_busy {s : State} {l : Lookup}
    (full : 8 ≤ s.permits.referrals.length ∨ ∃ r ∈ s.permits.referrals, r.terminal = l.terminal) :
    s.refer l = s.finish l.terminal l.request .busy := by
  refine if_pos (full.imp id fun ⟨r, mem, terminal⟩ => ?_)
  exact List.any_eq_true.mpr ⟨r, mem, beq_iff_eq.mpr terminal⟩

theorem refer_lists {s : State} {l : Lookup} (room : s.permits.referrals.length < 8)
    (alone : ∀ r ∈ s.permits.referrals, r.terminal ≠ l.terminal) :
    s.refer l = ((s.referred l (nextNumber 255 (s.permits.referrals.map (·.number)) s.permits.lastReferral)).finish l.terminal
      l.request .wait).notice .referrals := by
  refine if_neg ?_
  rintro (full | listed)
  · exact absurd full (Nat.not_le.mpr room)
  · obtain ⟨r, mem, terminal⟩ := List.any_eq_true.mp listed
    exact alone r mem (beq_iff_eq.mp terminal)

/-- A LOOKUP that makes a referral. -/
theorem lookup_refers {s : State} {l : Lookup} {c : Context} (on : s.mainSupply = true)
    (working : s.permits.working = some (.lookup l false)) (queue : s.permits.queue = [])
    (hc : s.context l.terminal = some c) {number : Nat}
    (listed : s.lookupChecks l = ((s.referred l number).finish l.terminal l.request .wait).notice .referrals) :
    ∃ t, exec .lookupComplete s = .next t ∧
      t.permits =
        { s.permits with
          working := none
          lastReferral := number
          referrals := s.permits.referrals ++ [s.referralFor l number] } ∧
      t.context l.terminal =
        some { c with inFlight := none, referral := some { referral := number, request := l.request } } ∧
      s.answers t c.line l.terminal l.request .wait ∧ oneMore .referrals s.notices t.notices ∧
      t.attention = true ∧ s.onlyAt t l.terminal c.line ∧
      t.fare = s.fare ∧ t.cash = s.cash ∧ t.link = s.link ∧ s.sameStore t := by
  have marked : (s.referred l number).context l.terminal =
      some { c with referral := some { referral := number, request := l.request } } :=
    (State.context_onContext_self _ _ _ (by intro _; rfl)).trans (congrArg (Option.map _) hc)
  have marks := onContext_touches (s.onPermits fun t =>
    { t with referrals := t.referrals ++ [s.referralFor l number], lastReferral := number }) l.terminal
    (fun c => { c with referral := some { referral := number, request := l.request } }) (by intro _; rfl) c.line
  have answers := finish_answers marked l.request .wait
  have context := (finish_context (s.referred l number) l.terminal l.request .wait).trans (congrArg (Option.map _) marked)
  have touches := marks.trans (finish_touches marked l.request .wait)
  have notices := finish_notices (s.referred l number) l.terminal l.request .wait
  have run := exec_lookupComplete on working
  rw [listed] at run
  generalize (s.referred l number).finish l.terminal l.request .wait = u at answers context touches notices run
  obtain ⟨cash, permits, fare, link, store⟩ := touches.only.store
  have queue : (u.notice .referrals).permits.queue = [] := (congrArg Permits.queue permits).trans queue
  refine ⟨_, run.trans (congrArg _ (nextOp_idle queue)), ?_, context, answers, ?_, ?_, touches.onlyAt, fare, cash, link,
    store⟩
  · exact congrArg (fun t : Permits => { t with working := none }) permits
  · exact notices ▸ oneMore_noticeList _ _
  · exact congrArg (!·) (noticeList_ne_nil _ _)

/-- Settles O34: the first check that fails, the record found or the referral setting decides what the completion does. -/
theorem lookupSetsTheClaim : Obligations.LookupSetsTheClaim := by
  intro s l on working queue
  refine ⟨fun c reason hc fails => lookup_answered on working queue hc (lookupChecks_refuses hc fails),
    fun valid service => ⟨fun p cap entry held active begun unexpired zone eligible unclaimed still left placed => ?_,
      fun c hc unknown enabled => ⟨fun room alone => ?_, fun full => ?_⟩⟩⟩
  · have passes : s.recordFails p l.zone = none := by
      simp [State.recordFails, active, Nat.not_lt.mpr begun, Nat.not_lt.mpr unexpired, zone, eligible, unclaimed, still,
        Nat.ne_of_gt left]
    have walk : entry = l.fareEntry (s.sessionBudget p l.minutes cap) := placed
    have run := exec_lookupComplete on working
    rw [lookupChecks_claims valid service held passes eligible, claimSession_eq, ← walk] at run
    exact ⟨_, run.trans (congrArg _ (nextOp_idle queue)), permit_claimed_self held _,
      fun m other => permit_claimed_ne s other _, rfl, rfl, rfl, rfl, rfl, rfl, ⟨rfl, rfl, rfl, rfl, rfl, rfl, rfl, rfl⟩⟩
  · obtain ⟨t, run, leaves⟩ := lookup_refers on working queue hc
      ((lookupChecks_refers valid service unknown enabled).trans (refer_lists room alone))
    exact ⟨t, _, run, nextNumber_unheld (by rw [List.length_map]; omega) _, leaves⟩
  · exact lookup_answered on working queue hc
      ((lookupChecks_refers valid service unknown enabled).trans (refer_busy full))

end Sys2Proof.Machine
end

section
/-! The referrals (O35, O36): their settings and their list, and the two ways in which one is refused at once. -/

namespace Sys2Proof.Machine

open Sys2Proof

/-! ### REFERRAL SET and REFERRAL LIST (R92, R96) -/

theorem readReferralSet_bytes {timeout : Nat} (low : 5 ≤ timeout) (high : timeout ≤ 60) (enabled : Bool) :
    readReferralSet [if enabled then 1 else 0, byte timeout] = .ok (enabled, timeout) := by
  have setting : number [if enabled then 1 else 0, byte timeout] 0 1 = if enabled then 1 else 0 :=
    (number_byte [] _ _).trans (by cases enabled <;> rfl)
  have seconds : number [if enabled then 1 else 0, byte timeout] 1 1 = timeout :=
    (number_byte [_] [] (byte timeout)).trans (Nat.mod_eq_of_lt (by omega))
  cases enabled <;> simp_all [readReferralSet, sized, checked, firstBad, within]

theorem exec_referralSet {s : State} (ready : s.ready = true) (tag : Byte) {timeout : Nat} (low : 5 ≤ timeout)
    (high : timeout ≤ 60) (enabled : Bool) :
    exec (.referralSet tag [if enabled then 1 else 0, byte timeout]) s =
      .next (({ s with permits := { s.permits with referralEnabled := enabled, referralTimeout := timeout } } : State).replied
        tag 23 (.done .plain)) := by
  simp only [exec, execReferralSet, State.request_ready ready, readReferralSet_bytes low high, State.owned_ok]
  rfl

theorem exec_referralList {s : State} (ready : s.ready = true) (tag : Byte) :
    exec (.referralList tag []) s = .next (s.replied tag 24 (.done (.referrals
      ((s.permits.referrals.insertionSort fun a b => a.number ≤ b.number).map fun r => r.reading s.elapsed)))) := by
  simp only [exec, execReferralList, State.request_ready ready]
  rfl

theorem Referral.reading_secondsLeft (r : Referral) (elapsed : Nat) :
    (r.reading elapsed).secondsLeft = if r.decision = none then r.deadline - elapsed else 0 := by
  unfold Referral.reading
  cases r.decision <;> rfl

/-- Settles O35: the list is sorted, and each entry keeps its referral. -/
theorem referralSetAndList : Obligations.ReferralSetAndList := by
  intro s tag ready
  refine ⟨fun timeout low high => ⟨exec_referralSet ready tag low high true, exec_referralSet ready tag low high false⟩,
    _, exec_referralList ready tag, ?_, ?_, fun e mem => ?_⟩
  · rw [List.map_map]
    exact (List.Perm.of_eq (List.map_id _)).trans (List.perm_insertionSort _ _)
  · have sorted := List.pairwise_insertionSort (· ≤ ·) (s.permits.referrals.map (·.number))
    rw [← List.map_insertionSort (r := fun a b => a.number ≤ b.number) _ _ _ fun _ _ _ _ => Iff.rfl] at sorted
    rw [List.map_map]
    exact sorted
  · obtain ⟨r, -, rfl⟩ := List.mem_map.mp mem
    exact r.reading_secondsLeft s.elapsed

/-! ### Referrals refused at once (R94, R97) -/

/-- Settles O36: both ways are the refusal of the referral, the second with its decision recorded before and its reply settled
after. -/
theorem referralsAreRefused : Obligations.ReferralsAreRefused := by
  intro s r c entry waits hc
  refine ⟨fun number on named => ?_, fun tag body ready read idle => ?_⟩
  · have run : exec (.referralDeadlineExpiry number) s = .next (s.refuseReferral r .permitUnknown) := by
      simp [exec, execReferralDeadlineExpiry, State.working, on, State.expireReferral, named, entry, waits]
    obtain ⟨d, context, changed, ordered, only, permits, link, fare, cash, store⟩ :=
      refuseReferral_leaves hc .permitUnknown
    exact ⟨_, d, run, context, by rw [changed], ordered, permits, by rw [changed], by rw [changed], only, cash,
      fare, link, store⟩
  · have hc : ((s.accepted tag 25).recordDecision r.number .deny).context r.terminal = some c := hc
    obtain ⟨d, context, changed, ordered, only, permits, link, fare, cash, store⟩ :=
      refuseReferral_leaves hc .permitNotValid
    have run := referralAnswer_begins tag ready idle read
    rw [beginAnswer_deny (s := s.accepted tag 25) entry waits] at run
    generalize ((s.accepted tag 25).recordDecision r.number .deny).refuseReferral r .permitNotValid = u
      at run context ordered only permits link fare cash store
    refine ⟨_, d, run, context, by rw [changed], ordered, ?_, ?_, rfl, link, only, cash, fare, store⟩
    · show u.permits.referrals.find? _ = none
      rw [permits]
      exact List.find?_eq_none.mpr fun q mem => by simpa using (List.mem_filter.mp mem).2
    · show u.permits.records = _
      rw [permits]
      rfl

end Sys2Proof.Machine
end

section
/-! SUSPEND, RESUME and END COLLECTION (O29): each is one act of the terminal before its reply, and the end of a collection looks
at its round (R115 to R117, R133). -/

namespace Sys2Proof.Machine

open Sys2Proof

/-- A request with good fields on a part that is ready (R170, R185). -/
theorem State.request_ok {α : Type} {s : State} {fields : Except Nat α} {a : α} (ready : s.ready = true)
    (read : fields = .ok a) (tag : Byte) (kind : Nat) (act : α → State → State) :
    s.request tag kind (fun _ => fields) act = act a (s.accepted tag (BitVec.ofNat 8 kind)) := by
  rw [State.request_ready ready, read, State.owned_ok]

/-! ### The orders are read (R117, R133) -/

theorem readOrder_bytes {n : Nat} (h : n ≤ 127) {code : Byte} (low : 1 ≤ code.toNat) (high : code.toNat ≤ 3) :
    readOrder [byte n, code] =
      .ok (n, if code.toNat = 1 then .endCollection else if code.toNat = 2 then .suspend else .resume) := by
  have terminal : number [byte n, code] 0 1 = n := (number_byte [] [code] (byte n)).trans (Nat.mod_eq_of_lt (by omega))
  have order : number [byte n, code] 1 1 = code.toNat := number_byte [byte n] [] code
  have known : code.toNat = 1 ∨ code.toNat = 2 ∨ code.toNat = 3 := by omega
  rcases known with is | is | is <;> simp [readOrder, checked, firstBad, within, terminal, order, h, is]

section

variable {s : State} {n : Nat} {c : Context} (ready : s.ready = true) (hn : n ≤ 127) (hc : s.context n = some c) (tag : Byte)

include ready hn hc

theorem request_order {code : Byte} (low : 1 ≤ code.toNat) (high : code.toNat ≤ 3) :
    s.request tag 17 (fun _ => readOrder [byte n, code]) (fun a s => s.terminalOrder a.1 a.2) =
      if code.toNat = 1 then (s.accepted tag 17).endCollection c
      else (s.accepted tag 17).setSuspended c (code.toNat == 2) := by
  have known : code.toNat = 1 ∨ code.toNat = 2 ∨ code.toNat = 3 := by omega
  rw [State.request_ok ready (readOrder_bytes hn low high), State.terminalOrder]
  rcases known with is | is | is <;> simp [hc, is]

theorem exec_endCollection :
    exec (.endCollection tag [byte n, 1]) s = .next ((s.accepted tag 17).endCollection c) :=
  congrArg Host.Outcome.next (request_order ready hn hc tag (by decide) (by decide))

theorem exec_suspend : exec (.suspend tag [byte n, 2]) s = .next ((s.accepted tag 17).setSuspended c true) :=
  congrArg Host.Outcome.next (request_order ready hn hc tag (by decide) (by decide))

theorem exec_resume : exec (.resume tag [byte n, 3]) s = .next ((s.accepted tag 17).setSuspended c false) :=
  congrArg Host.Outcome.next (request_order ready hn hc tag (by decide) (by decide))

end

/-! ### SUSPEND and RESUME (R133) -/

theorem State.condition_of_context {s : State} {n : Nat} {c : Context} (hc : s.context n = some c) :
    s.condition n = c.condition := by
  rw [State.condition, hc]

/-- The context of a terminal whose suspended flag is set or cleared. -/
def Context.suspending (c : Context) (suspended : Bool) : Context := { c with suspended := suspended }

theorem setSuspended_refused {s : State} {c : Context} {suspended : Bool} (same : c.suspended = suspended) :
    s.setSuspended c suspended = s.reply .state := if_pos same

theorem setSuspended_acts {s : State} {c : Context} {suspended : Bool} (differs : c.suspended ≠ suspended) :
    s.setSuspended c suspended = (s.act c.number fun d => d.suspending suspended).done .plain := if_neg differs

theorem setSuspended_leaves {s : State} {n : Nat} {c : Context} (hc : s.context n = some c) {suspended : Bool}
    (differs : c.suspended ≠ suspended) (tag : Byte) :
    ∃ t d, (s.accepted tag 17).setSuspended c suspended = t ∧ t.context n = some d ∧
      d.suspended = suspended ∧ d.faults = c.faults ∧ d.collection = c.collection ∧
      (t.condition n ≠ s.condition n → d.reports.condition = true) ∧
      (∀ m, m ≠ n → t.context m = s.context m) ∧ t.link = s.link.answered tag 17 (.done .plain) ∧
      t.permits = s.permits ∧ t.cash = s.cash ∧ t.fare = s.fare ∧ s.sameStore t := by
  obtain rfl := State.context_number hc
  have acts (d : Context) : (d.suspending suspended).number = d.number := rfl
  have own : (s.accepted tag 17).context c.number = some c := hc
  obtain ⟨o, context⟩ := act_context own (fun d => d.suspending suspended) acts
  have touched := act_touches own (fun d => d.suspending suspended) acts
  obtain ⟨link, permits, cash, fare, store⟩ := touched.only.answered .plain
  refine ⟨_, c.acted (c.suspending suspended) o, setSuspended_acts differs, context, rfl, rfl, rfl, fun changed => ?_,
    touched.contexts, link, permits, cash, fare, store⟩
  have after := State.condition_of_context
    (s := ((s.accepted tag 17).act c.number fun d => d.suspending suspended).done .plain) context
  rw [State.condition_of_context hc, after] at changed
  exact Bool.or_eq_true_iff.mpr (.inr (decide_eq_true changed))

/-! ### END COLLECTION (R115 to R117) -/

theorem endCollection_refused {s : State} {c : Context} (outside : c.collection = none) :
    s.endCollection c = s.reply .state := by
  simp [State.endCollection, outside]

theorem endCollection_acts {s : State} {c : Context} {under : Nat} (hc : s.context c.number = some c)
    (collection : c.collection = some under) :
    s.endCollection c = ((s.act c.number fun d => d.collecting none).lookAtRound under).done .plain := by
  simp only [State.endCollection, State.collectionEnded, hc, collection, Option.isNone_some, Bool.false_eq_true, if_false]
  rfl

theorem Context.condition_eq_inCollection {c : Context} : c.condition = .inCollection ↔ c.collection.isSome = true := by
  unfold Context.condition
  split_ifs with inside <;> simp [inside]

theorem Context.collecting_none_condition {c : Context} {under : Nat} (collection : c.collection = some under) :
    (c.collecting none).condition ≠ c.condition := fun same =>
  Bool.false_ne_true (condition_eq_inCollection.mp (same.trans (condition_eq_inCollection.mpr (by simp [collection]))))

/-- What the end of a collection leaves: CONDITION is reported, and a round that it completes closes itself. -/
theorem endCollection_leaves {s : State} {n : Nat} {c : Context} {under : Nat} (hc : s.context n = some c)
    (collection : c.collection = some under) (tag : Byte) :
    ∃ t d, (s.accepted tag 17).endCollection c = t ∧ t.context n = some d ∧
      d.collection = none ∧ d.faults = c.faults ∧ d.suspended = c.suspended ∧ d.tally = c.tally ∧
      d.reports.condition = true ∧
      (s.completes n under → t.cash = s.cash.selfClosed under ∧ oneMore .roundComplete s.notices t.notices) ∧
      (¬s.completes n under → t.cash = s.cash) ∧
      (∀ m, m ≠ n → t.context m = s.context m) ∧ t.link = s.link.answered tag 17 (.done .plain) ∧
      t.permits = s.permits ∧ t.fare = s.fare ∧ s.sameStore t := by
  obtain rfl := State.context_number hc
  have acts (d : Context) : (d.collecting none).number = d.number := rfl
  have own : (s.accepted tag 17).context c.number = some c := hc
  have part := act_part (s.accepted tag 17) c.number (fun d => d.collecting none) (kind := .roundComplete) nofun
  have free := released_inCollectionUnder (s := s.accepted tag 17) (n := c.number) (number := under)
  obtain ⟨o, context⟩ := act_context own (fun d => d.collecting none) acts
  have touched := act_touches own (fun d => d.collecting none) acts
  rw [endCollection_acts own collection]
  generalize (s.accepted tag 17).act c.number (fun d => d.collecting none) = w at part free context touched ⊢
  obtain ⟨cash, -⟩ := touched.only.store
  have told : (c.acted (c.collecting none) o).reports.condition = true :=
    Bool.or_eq_true_iff.mpr (.inr (decide_eq_true (Context.collecting_none_condition collection)))
  by_cases completes : s.completes c.number under
  · have closed : OnlyTerminals (({ s with cash := s.cash.selfClosed under } : State).accepted tag 17)
        (({ w with cash := s.cash.selfClosed under } : State).notice .roundComplete) :=
      (touched.withCash _).only.trans (notice_only _ _).terminals
    obtain ⟨link, permits, cash', fare, store⟩ := closed.answered .plain
    rw [lookAtRound_completes (s := s) cash free completes]
    exact ⟨_, _, rfl, context, rfl, rfl, rfl, rfl, told,
      fun _ => ⟨cash', oneMore_congr part.symm rfl (oneMore_noticeList _ _)⟩, fun incomplete => absurd completes incomplete,
      touched.contexts, link, permits, fare, store⟩
  · obtain ⟨link, permits, cash', fare, store⟩ := touched.only.answered .plain
    rw [lookAtRound_stays (s := s) cash free completes]
    exact ⟨_, _, rfl, context, rfl, rfl, rfl, rfl, told, fun closes => absurd closes completes, fun _ => cash',
      touched.contexts, link, permits, fare, store⟩

/-- Settles O29: each order that finds something to do is one act of the terminal, and END COLLECTION then looks at the round. -/
theorem suspendResumeAndEndCollection : Obligations.SuspendResumeAndEndCollection := by
  intro s tag n c ready hn hc
  rw [exec_suspend ready hn hc, exec_resume ready hn hc, exec_endCollection ready hn hc]
  refine ⟨fun suspended => ?_, fun free => ?_, fun outside => ?_, fun free => ?_, fun suspended => ?_, fun under collection => ?_⟩
  · rw [setSuspended_refused suspended]
    rfl
  · rw [setSuspended_refused free]
    rfl
  · rw [endCollection_refused outside]
    rfl
  · obtain ⟨t, d, rfl, context, suspended, faults, collection, rest⟩ :=
      setSuspended_leaves hc (suspended := true) (by simp [free]) tag
    refine ⟨_, d, rfl, context, ?_, suspended, faults, collection, rest⟩
    rw [State.condition_of_context context, Context.condition, collection, suspended]
    cases c.collection <;> rfl
  · obtain ⟨t, d, rfl, rest⟩ := setSuspended_leaves hc (suspended := false) (by simp [suspended]) tag
    exact ⟨_, d, rfl, rest⟩
  · obtain ⟨t, d, rfl, rest⟩ := endCollection_leaves hc collection tag
    exact ⟨_, d, rfl, rest⟩

end Sys2Proof.Machine
end

section
/-! LIFT LIST, COUNT ENTER and ROUND GET (O37): the lifted records are read in order and closed one by one, and a round is read
(R106, R107, R112). -/

namespace Sys2Proof.Machine

open Sys2Proof

/-! ### LIFT LIST (R106) -/

/-- The lifted records from a number on, in ascending number. -/
def Cash.liftedFrom (k : Cash) (first : Nat) : List Lifted :=
  (k.lifted.filter fun r => decide (first ≤ r.number)).insertionSort fun a b => a.number ≤ b.number

theorem exec_liftList {s : State} {n : Nat} (ready : s.ready = true) (low : 1 ≤ n) (high : n ≤ 65535) (tag : Byte) :
    exec (.liftList tag (toBinary 2 n)) s =
      .next (s.replied tag 26 (.done (.lifts ((s.cash.liftedFrom n).take 8) (decide (8 < (s.cash.liftedFrom n).length))))) :=
  congrArg Host.Outcome.next (State.request_ok ready (readNumber_bytes low high) tag 26 _)

theorem liftedFrom_ascending (k : Cash) (first : Nat) : ((k.liftedFrom first).map (·.number)).Pairwise (· ≤ ·) := by
  rw [Cash.liftedFrom, List.map_insertionSort (s := (· ≤ ·)) _ _ _ fun _ _ _ _ => Iff.rfl]
  exact List.pairwise_insertionSort _ _

/-! ### COUNT ENTER (R107) -/

theorem exec_countEnter {s : State} {n amount : Nat} (ready : s.ready = true) (low : 1 ≤ n) (high : n ≤ 65535)
    (money : amount ≤ 9999999) (tag : Byte) :
    exec (.countEnter tag (toBinary 2 n ++ toMoney amount)) s = .next ((s.accepted tag 27).countEnter n amount) :=
  congrArg Host.Outcome.next (State.request_ok ready (readCountEnter_bytes low high money) tag 27 _)

theorem countEnter_missing {s : State} {n : Nat} (missing : ∀ r ∈ s.cash.lifted, r.number ≠ n) (amount : Nat) :
    s.countEnter n amount = s.reply .noSuch := by
  have absent : (s.cash.lifted.find? fun r => r.number == n) = none := List.find?_eq_none.mpr (by simpa using missing)
  rw [State.countEnter, absent]

theorem countEnter_closes {s : State} {n : Nat} {r : Lifted} (found : (s.cash.lifted.find? fun q => q.number == n) = some r)
    (amount : Nat) :
    s.countEnter n amount =
      (s.onCash fun k => { k with lifted := k.lifted.filter fun q => q.number != n }).done
        (.counted ((amount : Int) - r.expected) amount r) := by
  rw [State.countEnter, found]

/-! ### ROUND GET (R112) -/

theorem exec_roundGet {s : State} {n : Nat} (ready : s.ready = true) (low : 1 ≤ n) (high : n ≤ 65535) (tag : Byte) :
    exec (.roundGet tag (toBinary 2 n)) s = .next ((s.accepted tag 31).roundGet n) :=
  congrArg Host.Outcome.next (State.request_ok ready (readNumber_bytes low high) tag 31 _)

/-- Settles O37: LIFT LIST gives the head of the sorted records, and what follows it is their tail. -/
theorem liftedRecordsAndRoundsAreRead : Obligations.LiftedRecordsAndRoundsAreRead := by
  refine ⟨fun s tag n ready low high => ⟨?_, fun absent => ?_, fun r found => ?_⟩,
    fun s tag n amount ready low high money => ⟨fun missing => ?_, fun r found => ?_⟩⟩
  · refine ⟨_, (s.cash.liftedFrom n).drop 8, _, exec_liftList ready low high tag, ?_, ?_, List.length_take_le _ _, ?_, ?_⟩
    · rw [List.take_append_drop]
      exact List.perm_insertionSort _ _
    · rw [List.take_append_drop]
      exact liftedFrom_ascending s.cash n
    · rw [ne_eq, List.drop_eq_nil_iff, List.length_take]
      omega
    · rw [ne_eq, List.drop_eq_nil_iff, decide_eq_true_iff, Nat.not_le]
  · rw [exec_roundGet ready low high, State.roundGet, State.accepted_cash, absent]
    rfl
  · rw [exec_roundGet ready low high, State.roundGet, State.accepted_cash, found]
    rfl
  · rw [exec_countEnter ready low high money, countEnter_missing (s := s.accepted tag 27) missing]
    rfl
  · rw [exec_countEnter ready low high money, countEnter_closes (s := s.accepted tag 27) found]
    rfl

end Sys2Proof.Machine
end

section
/-! ROUND OPEN, ROUND BUILD and ROUND CLOSE (O38): the checks of R109 and R110, the record that is made and the one that is lost
(R108), and the record that is closed (R111). -/

namespace Sys2Proof.Machine

open Sys2Proof

/-! ### Terminals that OPEN rounds name (R108) -/

theorem roundOf_isSome {k : Cash} {n : Nat} : (k.roundOf n).isSome = true ↔ k.listed n := by
  simp [Cash.roundOf, Cash.listed]

theorem distinct_iff {l : List Nat} : distinct l = true ↔ l.Nodup := by
  induction l with
  | nil => simp [distinct]
  | cons n rest ih => simp [distinct, ih]

/-! ### A round is opened (R108) -/

theorem dropClosed_earliest {rounds : List Round} (closed : ∃ r ∈ rounds, r.isOpen = false) :
    ∃ before r after, rounds = before ++ r :: after ∧ r.isOpen = false ∧ (∀ q ∈ before, q.isOpen = true) ∧
      dropClosed rounds = before ++ after := by
  induction rounds with
  | nil => simp at closed
  | cons q rest ih =>
    cases state : q.isOpen with
    | false => exact ⟨[], q, rest, rfl, state, nofun, by simp [dropClosed, state]⟩
    | true =>
      obtain ⟨before, r, after, rfl, shut, opened, dropped⟩ := ih (by simpa [state] using closed)
      exact ⟨q :: before, r, after, rfl, shut, by simpa [state] using opened, by simp [dropClosed, state, dropped]⟩

/-- With fewer than 2 rounds OPEN a full table has a CLOSED record to lose. -/
theorem exists_closed {k : Cash} (few : k.openCount < 2) (full : 2 ≤ k.rounds.length) : ∃ r ∈ k.rounds, r.isOpen = false := by
  by_contra none_
  have all : k.rounds.filter (·.isOpen) = k.rounds := List.filter_eq_self.mpr (by simpa using none_)
  rw [Cash.openCount, all] at few
  omega

theorem openRound_kept {k : Cash} (few : k.openCount < 2) (table : k.rounds.length ≤ 4) :
    k.keptRounds (if Config.roundCapacity ≤ k.rounds.length then dropClosed k.rounds else k.rounds) := by
  split
  · rename_i full
    have four : k.rounds.length = 4 := Nat.le_antisymm table full
    obtain ⟨before, r, after, rounds, shut, opened, dropped⟩ := dropClosed_earliest (exists_closed few (by omega))
    exact .inr ⟨before, r, after, rounds, four, shut, opened, dropped⟩
  · rename_i room
    exact .inl ⟨Nat.not_le.mp room, rfl⟩

theorem nextRound_unheld {k : Cash} (table : k.rounds.length ≤ 4) :
    nextUnheld 65535 (k.rounds.map (·.number)) k.lastRound k.nextRound :=
  nextNumber_unheld (by rw [List.length_map]; omega) _

/-! ### ROUND OPEN (R109) -/

theorem exec_roundOpen {s : State} {body : List Byte} {code : Nat} {terminals : List Nat} (ready : s.ready = true)
    (read : readRoundOpen body = .ok (code, terminals)) (tag : Byte) :
    exec (.roundOpen tag body) s = .next ((s.accepted tag 28).roundOpen code terminals) :=
  congrArg Host.Outcome.next (State.request_ok ready read tag 28 _)

/-- A terminal that stands against ROUND OPEN: not configured, or named by an OPEN round. -/
theorem anyStands_iff {s : State} {terminals : List Nat} :
    (terminals.any fun n => (s.context n).isNone || (s.cash.roundOf n).isSome) = true ↔
      ∃ n ∈ terminals, s.context n = none ∨ s.cash.listed n := by
  simp [List.any_eq_true, roundOf_isSome]

/-- The checks of ROUND OPEN, in order. -/
theorem roundOpen_checked (s : State) (code : Nat) (terminals : List Nat) :
    (¬terminals.Nodup → s.roundOpen code terminals = s.reply .duplicate) ∧
      (terminals.Nodup →
        ((∃ n ∈ terminals, s.context n = none ∨ s.cash.listed n) → s.roundOpen code terminals = s.reply .state) ∧
        (¬(∃ n ∈ terminals, s.context n = none ∨ s.cash.listed n) →
          (2 ≤ s.cash.openCount → s.roundOpen code terminals = s.reply .full) ∧
          (s.cash.openCount < 2 →
            s.roundOpen code terminals =
              (s.onCash fun k => k.openRound code terminals).done (.roundOpened s.cash.nextRound)))) := by
  rw [← distinct_iff, ← anyStands_iff, State.roundOpen]
  refine ⟨fun twice => if_pos (by simpa using twice), fun once => ⟨fun stands => ?_, fun free => ?_⟩⟩
  · rw [if_neg (by simpa using once), if_pos stands]
  · rw [if_neg (by simpa using once), if_neg free]
    exact ⟨fun full => if_pos full, fun few => if_neg (Nat.not_le.mpr few)⟩

/-! ### ROUND BUILD (R110) -/

theorem exec_roundBuild {s : State} {body : List Byte} {zones : ZoneSet} {code : Nat} (ready : s.ready = true)
    (read : readRoundBuild body = .ok (zones, code)) (tag : Byte) :
    exec (.roundBuild tag body) s = .next ((s.accepted tag 29).roundBuild zones code) :=
  congrArg Host.Outcome.next (State.request_ok ready read tag 29 _)

/-- The checks of ROUND BUILD, in order. -/
theorem roundBuild_checked {s : State} {zones : ZoneSet} {candidates : List Nat} (listed : s.candidates zones = candidates)
    (code : Nat) :
    (2 ≤ s.cash.openCount → s.roundBuild zones code = s.reply .full) ∧
      (s.cash.openCount < 2 →
        (candidates = [] → s.roundBuild zones code = s.reply .noSuch) ∧
        (candidates ≠ [] →
          s.roundBuild zones code =
            (s.onCash fun k => k.openRound code (candidates.take 48)).done
              (.roundBuilt s.cash.nextRound (min 48 candidates.length)))) := by
  rw [State.roundBuild, listed]
  refine ⟨fun full => if_pos full, fun few => ?_⟩
  have room : ¬Config.openRounds ≤ s.cash.openCount := Nat.not_le.mpr few
  rw [if_neg room, ← List.length_take]
  exact ⟨fun empty => if_pos (by simpa using empty), fun some_ => if_neg (by simpa using some_)⟩

theorem mem_candidates {s : State} (kept : s.contextsKept) {zones : ZoneSet} {n : Nat} :
    n ∈ s.candidates zones ↔ ∃ c, s.context n = some c ∧ zones.getLsbD c.zone.val = true ∧
      (c.faults.boxNearFull = true ∨ c.faults.boxFull = true) ∧ ¬s.cash.listed n := by
  have passes (c : Context) :
      (zoneIn zones c.zone && (c.faults.boxNearFull || c.faults.boxFull) && (s.cash.roundOf c.number).isNone) = true ↔
        zones.getLsbD c.zone.val = true ∧ (c.faults.boxNearFull = true ∨ c.faults.boxFull = true) ∧
          ¬s.cash.listed c.number := by
    rw [← roundOf_isSome]
    simp [zoneIn, and_assoc]
  rw [State.candidates, List.mem_map]
  constructor
  · rintro ⟨c, mem, rfl⟩
    obtain ⟨mem, pass⟩ := List.mem_filter.mp mem
    exact ⟨c, State.context_of_mem kept mem, (passes c).mp pass⟩
  · rintro ⟨c, hc, pass⟩
    obtain rfl := State.context_number hc
    exact ⟨c, List.mem_filter.mpr ⟨List.mem_of_find?_eq_some hc, (passes c).mpr pass⟩, rfl⟩

theorem candidates_ascending {s : State} (kept : s.contextsKept) (zones : ZoneSet) :
    (s.candidates zones).Pairwise (· < ·) :=
  kept.sublist (List.filter_sublist.map _)

/-! ### ROUND CLOSE (R111) -/

theorem exec_roundClose {s : State} {n : Nat} (ready : s.ready = true) (low : 1 ≤ n) (high : n ≤ 65535) (tag : Byte) :
    exec (.roundClose tag (toBinary 2 n)) s = .next ((s.accepted tag 30).roundClose n) :=
  congrArg Host.Outcome.next (State.request_ok ready (readNumber_bytes low high) tag 30 _)

theorem inCollectionUnder_iff {s : State} {n : Nat} :
    s.inCollectionUnder n = true ↔ ∃ c ∈ s.contexts, c.collection = some n := by
  simp [State.inCollectionUnder]

theorem roundNumbered_onRound (k : Cash) (n m : Nat) {f : Round → Round} (keeps : ∀ r, (f r).number = r.number) :
    (k.onRound n f).roundNumbered m = (k.roundNumbered m).map fun r => if r.number = n then f r else r := by
  rw [Cash.roundNumbered, Cash.onRound, List.find?_map]
  refine congrArg (fun p => (k.rounds.find? p).map _) (funext fun r => ?_)
  simp only [Function.comp]
  split <;> simp [keeps]

theorem onRound_numbers (k : Cash) (n : Nat) {f : Round → Round} (keeps : ∀ r, (f r).number = r.number) :
    (k.onRound n f).rounds.map (·.number) = k.rounds.map (·.number) := by
  rw [Cash.onRound, List.map_map]
  refine List.map_congr_left fun r _ => ?_
  simp only [Function.comp]
  split <;> simp [keeps]

theorem roundNumbered_number {k : Cash} {n : Nat} {r : Round} (found : k.roundNumbered n = some r) : r.number = n := by
  simpa using List.find?_some found

theorem skip_terminals (r : Round) : r.skip.entries.map (·.terminal) = r.entries.map (·.terminal) := by
  rw [Round.skip, List.map_map]
  refine List.map_congr_left fun e _ => ?_
  simp only [Function.comp]
  split <;> rfl

theorem skip_states (r : Round) :
    r.skip.entries.map (·.state) = (r.entries.map (·.state)).map fun e => if e = .lifted then .lifted else .skipped := by
  rw [Round.skip, List.map_map, List.map_map]
  refine List.map_congr_left fun e _ => ?_
  simp only [Function.comp]
  split
  · rename_i lifted
    exact lifted
  · rfl

/-- The entries of a closed round in a state are those whose own state passes to it. -/
theorem skip_inState (r : Round) (state : EntryState) :
    r.skip.inState state =
      (r.entries.filter fun e => (if e.state = .lifted then EntryState.lifted else .skipped) == state).length := by
  have states := congrArg (fun l => (l.filter fun x => x == state).length) (skip_states r)
  simpa [List.filter_map, Function.comp_def, Round.inState] using states

theorem skip_lifted (r : Round) : r.skip.inState .lifted = (r.entries.filter fun e => e.state == .lifted).length := by
  rw [skip_inState]
  refine congrArg List.length (List.filter_congr fun e _ => ?_)
  split <;> simp_all

theorem skip_skipped (r : Round) : r.skip.inState .skipped = (r.entries.filter fun e => e.state != .lifted).length := by
  rw [skip_inState]
  refine congrArg List.length (List.filter_congr fun e _ => ?_)
  split <;> simp_all

theorem roundClose_refused {s : State} {n : Nat} {r : Round} (found : s.cash.roundNumbered n = some r)
    (stands : r.isOpen = false ∨ ∃ c ∈ s.contexts, c.collection = some n) : s.roundClose n = s.reply .state := by
  rw [← inCollectionUnder_iff] at stands
  simp [State.roundClose, found, stands]

theorem roundClose_closes {s : State} {n : Nat} {r : Round} (found : s.cash.roundNumbered n = some r)
    (opened : r.isOpen = true) (free : ∀ c ∈ s.contexts, c.collection ≠ some n) :
    s.roundClose n =
      (s.onCash fun k => k.onRound n Round.skip).done (.roundClosed (r.entries.filter fun x => x.state == .lifted).length
        (r.entries.filter fun x => x.state != .lifted).length) := by
  have outside : s.inCollectionUnder n = false := by
    rw [Bool.eq_false_iff, ne_eq, inCollectionUnder_iff]
    simpa using free
  simp only [State.roundClose, found, opened, outside, skip_lifted, skip_skipped, Bool.not_true, Bool.or_self,
    Bool.false_eq_true, if_false]

/-! ### The statement -/

/-- Settles O38: each request goes through its checks in order, a new record is opened in a table with room for it, and a closed
one is skipped entry by entry. -/
theorem roundsAreOpenedAndClosed : Obligations.RoundsAreOpenedAndClosed := by
  refine ⟨fun s tag body code terminals ready read => ?_,
    fun s tag body zones code candidates ready read kept ascending mem => ?_, fun s tag n ready low high => ?_⟩
  · obtain ⟨twice, once⟩ := roundOpen_checked (s.accepted tag 28) code terminals
    rw [exec_roundOpen ready read]
    refine ⟨fun double => ?_, fun distinct => ?_⟩
    · rw [twice double]
      rfl
    obtain ⟨stands, goesOn⟩ := once distinct
    refine ⟨fun blocked => ?_, fun free => ?_⟩
    · rw [stands blocked]
      rfl
    obtain ⟨full, opens⟩ := goesOn fun ⟨n, listed, blocked⟩ => blocked.elim (free n listed).1 (free n listed).2
    refine ⟨fun two => ?_, fun few table => ?_⟩
    · rw [full two]
      rfl
    · rw [opens few]
      exact ⟨s.cash.nextRound, _, nextRound_unheld table, openRound_kept few table, rfl⟩
  · have listed : (s.accepted tag 29).candidates zones = candidates :=
      (candidates_ascending kept zones).eq_of_mem_iff ascending fun n => (mem_candidates kept).trans (mem n).symm
    obtain ⟨full, goesOn⟩ := roundBuild_checked listed code
    rw [exec_roundBuild ready read]
    refine ⟨fun two => ?_, fun few => ?_⟩
    · rw [full two]
      rfl
    obtain ⟨nothing, builds⟩ := goesOn few
    refine ⟨fun empty => ?_, fun some_ table => ?_⟩
    · rw [nothing empty]
      rfl
    · rw [builds some_]
      exact ⟨s.cash.nextRound, _, nextRound_unheld table, openRound_kept few table, rfl⟩
  · rw [exec_roundClose ready low high]
    refine ⟨fun absent => ?_, fun r found stands => ?_, fun r found opened free => ?_⟩
    · rw [State.roundClose, State.accepted_cash, absent]
      rfl
    · rw [roundClose_refused (s := s.accepted tag 30) found stands]
      rfl
    · have keeps (r : Round) : r.skip.number = r.number := rfl
      have number := roundNumbered_number found
      rw [roundClose_closes (s := s.accepted tag 30) found opened free]
      refine ⟨s.cash.onRound n Round.skip, r.skip, rfl, ?_, number, rfl, rfl, skip_terminals r, skip_states r, fun m other => ?_,
        onRound_numbers s.cash n keeps, rfl, rfl, rfl, rfl⟩
      · rw [roundNumbered_onRound s.cash n n keeps, found, Option.map_some, if_pos number]
      · rw [roundNumbered_onRound s.cash n m keeps]
        cases found' : s.cash.roundNumbered m with
        | none => rfl
        | some q => rw [Option.map_some, if_neg (by rw [roundNumbered_number found']; exact other)]

end Sys2Proof.Machine
end

section
/-! FAULT CLEAR (O39): the named classes leave the fault set in one act of the terminal before the reply (R126). -/

namespace Sys2Proof.Machine

open Sys2Proof

/-! ### A request on a part that is ready -/

/-- A request with a bad field on a part that is ready (R170, R185). -/
theorem State.request_error {α : Type} {s : State} {fields : Except Nat α} {index : Nat} (ready : s.ready = true)
    (bad : fields = .error index) (tag : Byte) (kind : Nat) (act : α → State → State) :
    s.request tag kind (fun _ => fields) act = s.replied tag (BitVec.ofNat 8 kind) (.field index) := by
  rw [State.request_ready ready, bad, State.owned_error, State.accepted_reply]

/-- A request whose owner makes one act of the terminal before its reply. -/
theorem act_done_leaves {s : State} {n : Nat} {c : Context} (hc : s.context n = some c) {f : Context → Context}
    (keeps : ∀ d, (f d).number = d.number) (reports : (f c).reports = c.reports) (tag kind : Byte) (fields : DoneFields) :
    ∃ t o, ((s.accepted tag kind).act n f).done fields = t ∧ t.context n = some (c.acted (f c) o) ∧
      t.link = s.link.answered tag kind (.done fields) ∧ (∀ m, m ≠ n → t.context m = s.context m) ∧
      t.permits = s.permits ∧ t.cash = s.cash ∧ t.fare = s.fare ∧ s.sameStore t := by
  have held : (s.accepted tag kind).context n = some c := hc
  obtain ⟨o, context⟩ := act_context held f keeps
  have touched := act_touches held f keeps
  obtain ⟨link, permits, cash, fare, store⟩ := touched.only.answered fields
  rw [reports] at context
  exact ⟨_, o, rfl, context, link, touched.contexts, permits, cash, fare, store⟩

/-! ### FAULT CLEAR (R126) -/

/-- A fault set is read back from its byte (R181). -/
theorem faultsOfByte_byte (f : FaultSet) : faultsOfByte f.byte = f := by
  have every : ∀ forcedDoor silent printer paperOut boxFull coinPath boxNearFull paperLow : Bool,
      faultsOfByte (FaultSet.mk forcedDoor silent printer paperOut boxFull coinPath boxNearFull paperLow).byte =
        ⟨forcedDoor, silent, printer, paperOut, boxFull, coinPath, boxNearFull, paperLow⟩ := by decide
  exact every ..

theorem readFaultClear_bytes {n : Nat} (hn : n ≤ 127) {named : FaultSet} (clearable : named.clearable = true) :
    readFaultClear [byte n, named.byte] = .ok (n, named) := by
  have terminal : number [byte n, named.byte] 0 1 = n :=
    (number_byte [] [named.byte] (byte n)).trans (Nat.mod_eq_of_lt (by omega))
  have classes : number [byte n, named.byte] 1 1 = named.byte.toNat := number_byte [byte n] [] named.byte
  simp [readFaultClear, sized, checked, firstBad, within, terminal, classes, faultsOfByte_byte, hn, clearable]

theorem exec_faultClear {s : State} {n : Nat} (ready : s.ready = true) (hn : n ≤ 127) {named : FaultSet}
    (clearable : named.clearable = true) (tag : Byte) :
    exec (.faultClear tag [byte n, named.byte]) s = .next ((s.accepted tag 32).faultClear n named) :=
  congrArg Host.Outcome.next (State.request_ok ready (readFaultClear_bytes hn clearable) tag 32 _)

/-- A context without the fault classes named. -/
def Context.cleared (c : Context) (named : FaultSet) : Context := { c with faults := c.faults.without named }

theorem faultClear_absent {s : State} {n : Nat} (absent : s.context n = none) (named : FaultSet) :
    s.faultClear n named = s.reply .noSuch := by
  rw [State.faultClear, absent]

theorem faultClear_acts {s : State} {n : Nat} {c : Context} (hc : s.context n = some c) (named : FaultSet) :
    s.faultClear n named = (s.act n fun d => d.cleared named).done (.faultSet (c.faults.without named)) := by
  rw [State.faultClear, hc]
  rfl

/-- Settles O39: the act that clears the classes changes nothing else of the context but what reports its condition. -/
theorem faultClearRemovesTheNamed : Obligations.FaultClearRemovesTheNamed := by
  intro s tag n named ready hn clearable
  rw [exec_faultClear ready hn clearable]
  refine ⟨fun absent => ?_, fun c hc => ?_⟩
  · rw [faultClear_absent (s := s.accepted tag 32) absent, State.accepted_reply]
  · obtain ⟨t, o, run, context, rest⟩ := act_done_leaves hc (f := fun d => d.cleared named) (fun _ => rfl) rfl tag 32
      (.faultSet (c.faults.without named))
    rw [faultClear_acts (s := s.accepted tag 32) hc, run]
    exact ⟨t, _, rfl, context, rfl, rfl, rfl, rfl, rfl, rest⟩

end Sys2Proof.Machine
end

section
/-! THRESHOLD DEFAULT SET and GET (O40): the terminals without an override are re-evaluated one after another, and each act
leaves the others as they are (R128, R130). -/

namespace Sys2Proof.Machine

open Sys2Proof

theorem exec_thresholdDefaultGet {s : State} (ready : s.ready = true) (tag : Byte) :
    exec (.thresholdDefaultGet tag []) s = .next (s.replied tag 34 (.done (.thresholds s.defaults))) :=
  congrArg Host.Outcome.next (State.request_ok ready (fields := readNothing []) rfl tag 34 _)

theorem exec_thresholdDefaultSet {s : State} {body : List Byte} {d : Thresholds} (ready : s.ready = true)
    (read : readThresholds body = .ok d) (tag : Byte) :
    exec (.thresholdDefaultSet tag body) s = .next ((s.accepted tag 33).setDefaults d) :=
  congrArg Host.Outcome.next (State.request_ok ready read tag 33 _)

/-! ### One terminal after another (R128, R130) -/

/-- An act leaves every other terminal alone, whether its own is configured or not. -/
theorem act_context_ne (s : State) {n m : Nat} (other : m ≠ n) {f : Context → Context}
    (keeps : ∀ d, (f d).number = d.number) : (s.act n f).context m = s.context m := by
  cases hc : s.context n with
  | some c => exact (act_touches hc f keeps).contexts m other
  | none =>
    have absent : (s.onContext n f).context n = none := by rw [State.context_onContext_self s n f keeps, hc]; rfl
    have quiet : s.act n f = s.onContext n f := by simp [State.act, State.condition, absent, hc]
    rw [quiet]
    exact (onContext_touches s n f keeps 0).contexts m other

/-- A context that a re-evaluation has reached, or has not. -/
def Context.reviewed (c : Context) (defaults : Thresholds) (reached : Bool) : Context :=
  { c with faults := if reached then (c.reevaluate defaults).faults else c.faults }

/-- Re-evaluated again under the same default set, a context keeps its fault set. -/
theorem Context.reviewed_marks_reviewed (c : Context) (defaults : Thresholds) (r : ReportSet) (o : OwedOrders)
    (before after : Bool) :
    ({ c.reviewed defaults before with reports := r, owed := o } : Context).reviewed defaults after =
      { c.reviewed defaults (before || after) with reports := r, owed := o } := by
  cases before <;> cases after <;> rfl

/-- What the re-evaluation of one terminal leaves of a context, its own or another's. -/
theorem act_reevaluate_marks (s : State) (n : Nat) {m : Nat} {c : Context} (hc : s.context m = some c) (d : Thresholds) :
    ∃ r o, (s.act n fun c => c.reevaluate d).context m =
      some { c.reviewed d (m == n) with reports := r, owed := o } := by
  by_cases own : m = n
  · subst own
    obtain ⟨o, context⟩ := act_context hc (fun c => c.reevaluate d) fun _ => rfl
    exact ⟨_, o, by rw [context, beq_self_eq_true]; rfl⟩
  · have context := act_context_ne s own (f := fun c => c.reevaluate d) fun _ => rfl
    exact ⟨c.reports, c.owed, by rw [context, hc, beq_eq_false_iff_ne.mpr own]; rfl⟩

/-- What the re-evaluations of a list of terminals leave of a context. -/
theorem foldl_reevaluate_marks (numbers : List Nat) {d : Thresholds} {s : State} (defaults : s.defaults = d) {m : Nat}
    {c : Context} (hc : s.context m = some c) :
    ∃ r o, (numbers.foldl (fun s n => s.act n fun c => c.reevaluate s.defaults) s).context m =
      some { c.reviewed d (numbers.contains m) with reports := r, owed := o } := by
  induction numbers generalizing s c with
  | nil => exact ⟨c.reports, c.owed, hc⟩
  | cons n rest ih =>
    subst defaults
    obtain ⟨r, o, context⟩ := act_reevaluate_marks s n hc s.defaults
    obtain ⟨-, -, -, -, -, -, -, kept, -⟩ := (act_only s n fun c => c.reevaluate s.defaults).store
    obtain ⟨r', o', after⟩ := ih kept context
    rw [Context.reviewed_marks_reviewed] at after
    exact ⟨r', o', by rw [List.foldl_cons, after, List.contains_cons]⟩

/-- The terminals re-evaluated are those without an override. -/
theorem contains_reevaluated {s : State} (kept : s.contextsKept) {n : Nat} {c : Context} (hc : s.context n = some c) :
    ((s.contexts.filter fun c => c.override.isNone).map (·.number)).contains n = c.override.isNone := by
  rw [Bool.eq_iff_iff, List.contains_iff_mem, List.mem_map]
  refine ⟨?_, fun free =>
    ⟨c, List.mem_filter.mpr ⟨List.mem_of_find?_eq_some hc, free⟩, State.context_number hc⟩⟩
  rintro ⟨d, listed, rfl⟩
  obtain ⟨mem, free⟩ := List.mem_filter.mp listed
  have same : d = c := Option.some.inj ((State.context_of_mem kept mem).symm.trans hc)
  exact same ▸ free

theorem reevaluateAll_context {s : State} (kept : s.contextsKept) {n : Nat} {c : Context} (hc : s.context n = some c) :
    ∃ r o, s.reevaluateAll.context n =
      some { c.reviewed s.defaults c.override.isNone with reports := r, owed := o } := by
  rw [← contains_reevaluated kept hc]
  exact foldl_reevaluate_marks _ rfl hc

/-- Settles O40: each configured terminal is found once in the list, and re-evaluated just when it has no override. -/
theorem thresholdDefaultsApply : Obligations.ThresholdDefaultsApply := by
  intro s tag ready
  refine ⟨exec_thresholdDefaultGet ready tag, fun body d kept read => ?_⟩
  rw [exec_thresholdDefaultSet ready read]
  have only : OnlyTerminals (({ s with defaults := d } : State).accepted tag 33) _ := reevaluateAll_only _
  obtain ⟨link, permits, cash, fare, clock, calendar, tariffs, defaults, -⟩ := only.answered .plain
  refine ⟨_, rfl, defaults, fun n c hc => ?_, link, permits, cash, fare, clock, tariffs, calendar⟩
  obtain ⟨r, o, context⟩ := reevaluateAll_context (s := ({ s with defaults := d } : State).accepted tag 33) kept hc
  exact ⟨_, context, rfl, rfl, if_congr Option.isNone_iff_eq_none rfl rfl⟩

end Sys2Proof.Machine
end

section
/-! THRESHOLD OVERRIDE SET and DROP (O41): the terminal number is checked, then the context is looked for, then the values
are checked against its capacities, and the override and the re-evaluation are one act (R127, R129, R130). -/

namespace Sys2Proof.Machine

open Sys2Proof

/-! ### The bodies are read (R129) -/

theorem readTerminal_byte {n : Nat} (hn : n ≤ 255) :
    readTerminal [byte n] = if n ≤ 127 then .ok n else .error 1 := by
  have terminal : number [byte n] 0 1 = n := (number_byte [] [] (byte n)).trans (Nat.mod_eq_of_lt (by omega))
  by_cases low : n ≤ 127 <;> simp [readTerminal, sized, checked, firstBad, within, terminal, low]

/-- The three values of a threshold set as 6 bytes give them. -/
def thresholdsOf (fields : List Byte) : Thresholds :=
  { nearFull := number fields 0 2, full := number fields 2 2, paperLow := number fields 4 2 }

theorem thresholdsOf_bytes {t : Thresholds} (near : t.nearFull ≤ 65535) (full : t.full ≤ 65535)
    (paper : t.paperLow ≤ 65535) : thresholdsOf t.bytes = t := by
  have nearFull := number_field [] (toBinary 2 t.full ++ toBinary 2 t.paperLow) 2 t.nearFull (by omega)
  have fullAt := number_field (toBinary 2 t.nearFull) (toBinary 2 t.paperLow) 2 t.full (by omega)
  have paperLow := number_field (toBinary 2 t.nearFull ++ toBinary 2 t.full) [] 2 t.paperLow (by omega)
  simp only [List.nil_append, List.append_nil, List.length_nil, List.length_append, length_toBinary, List.append_assoc]
    at nearFull fullAt paperLow
  simp only [thresholdsOf, Thresholds.bytes, List.append_assoc, nearFull, fullAt, paperLow]

theorem readOverride_cons {n : Nat} (hn : n ≤ 255) {fields : List Byte} (six : fields.length = 6) :
    readOverride (byte n :: fields) = if n ≤ 127 then .ok (n, thresholdsOf fields) else .error 1 := by
  have terminal : number (byte n :: fields) 0 1 = n :=
    (number_byte [] fields (byte n)).trans (Nat.mod_eq_of_lt (by omega))
  have later (at_ : Nat) : number (byte n :: fields) (1 + at_) 2 = number fields at_ 2 := number_append [byte n] fields at_ 2
  have nearFull := later 0
  have full := later 2
  have paperLow := later 4
  by_cases low : n ≤ 127 <;>
    simp [readOverride, sized, checked, firstBad, within, six, terminal, nearFull, full, paperLow, low, thresholdsOf]

theorem Thresholds.length_bytes (t : Thresholds) : t.bytes.length = 6 := by
  simp [Thresholds.bytes]

section

variable {s : State} {n : Nat} (ready : s.ready = true) (tag : Byte)

include ready

theorem exec_thresholdOverrideSet (hn : n ≤ 127) (a b p : Nat) :
    exec (.thresholdOverrideSet tag (byte n :: toBinary 2 a ++ toBinary 2 b ++ toBinary 2 p)) s =
      .next ((s.accepted tag 35).overrideSet n (thresholdsOf (Thresholds.bytes ⟨a, b, p⟩))) :=
  congrArg Host.Outcome.next
    (State.request_ok ready ((readOverride_cons (by omega) (Thresholds.length_bytes ⟨a, b, p⟩)).trans (if_pos hn)) tag 35 _)

theorem exec_thresholdOverrideDrop (hn : n ≤ 127) :
    exec (.thresholdOverrideDrop tag [byte n]) s = .next ((s.accepted tag 36).overrideDrop n) :=
  congrArg Host.Outcome.next (State.request_ok ready ((readTerminal_byte (by omega)).trans (if_pos hn)) tag 36 _)

theorem exec_thresholdOverrideSet_outside (above : 127 < n) (hn : n ≤ 255) (a b p : Nat) :
    exec (.thresholdOverrideSet tag (byte n :: toBinary 2 a ++ toBinary 2 b ++ toBinary 2 p)) s =
      .next (s.replied tag 35 (.field 1)) :=
  congrArg Host.Outcome.next (State.request_error ready
    ((readOverride_cons hn (Thresholds.length_bytes ⟨a, b, p⟩)).trans (if_neg (by omega))) tag 35 _)

theorem exec_thresholdOverrideDrop_outside (above : 127 < n) (hn : n ≤ 255) :
    exec (.thresholdOverrideDrop tag [byte n]) s = .next (s.replied tag 36 (.field 1)) :=
  congrArg Host.Outcome.next (State.request_error ready ((readTerminal_byte hn).trans (if_neg (by omega))) tag 36 _)

end

/-! ### The values are checked against the capacities (R129) -/

theorem checkOverride_ok {box paper : Nat} {t : Thresholds} (least : 1 ≤ t.nearFull) (order : t.nearFull ≤ t.full)
    (fits : t.full ≤ box) (low : t.paperLow ≤ paper) : checkOverride box paper t = .ok t := by
  have near : t.nearFull ≤ box := order.trans fits
  simp [checkOverride, checked, firstBad, within, least, near, order, fits, low]

theorem within_eq_false {lo n hi : Nat} : within lo n hi = false ↔ n < lo ∨ hi < n := by
  simp only [within, Bool.and_eq_false_iff, decide_eq_false_iff_not, Nat.not_le]

/-- The first of fields 2 to 4 that is bad. -/
theorem checkOverride_error {box paper index : Nat} {t : Thresholds}
    (bad : (t.nearFull = 0 ∨ box < t.nearFull) ∧ index = 2 ∨
      (1 ≤ t.nearFull ∧ t.nearFull ≤ box) ∧ (t.full < t.nearFull ∨ box < t.full) ∧ index = 3 ∨
      (1 ≤ t.nearFull ∧ t.nearFull ≤ t.full ∧ t.full ≤ box) ∧ paper < t.paperLow ∧ index = 4) :
    checkOverride box paper t = .error index := by
  rcases bad with ⟨near, rfl⟩ | ⟨⟨least, most⟩, full, rfl⟩ | ⟨⟨least, order, fits⟩, high, rfl⟩
  · have fails := within_eq_false.mpr (near.imp_left Nat.lt_one_iff.mpr)
    simp [checkOverride, checked, firstBad, fails]
  · have passes : within 1 t.nearFull box = true := by simp [within, least, most]
    simp [checkOverride, checked, firstBad, passes, within_eq_false.mpr full]
  · have most : t.nearFull ≤ box := order.trans fits
    have passes : within 1 t.nearFull box = true ∧ within t.nearFull t.full box = true := by
      simp [within, least, most, order, fits]
    simp [checkOverride, checked, firstBad, passes, within_eq_false.mpr (.inr high)]

/-! ### The override is set or removed (R129, R130) -/

/-- The context of a terminal whose override is set or removed. -/
def Context.overridden (c : Context) (o : Option Thresholds) : Context := { c with override := o }

theorem overrideSet_absent {s : State} {n : Nat} (absent : s.context n = none) (t : Thresholds) :
    s.overrideSet n t = s.reply .noSuch := by
  rw [State.overrideSet, absent]

theorem overrideSet_held {s : State} {n : Nat} {c : Context} (hc : s.context n = some c) (t : Thresholds) :
    s.overrideSet n t =
      s.owned (checkOverride c.boxCapacity c.paperCapacity t) fun t s => s.override c (some t) := by
  rw [State.overrideSet, hc]

theorem overrideDrop_absent {s : State} {n : Nat} (absent : s.context n = none) :
    s.overrideDrop n = s.reply .noSuch := by
  rw [State.overrideDrop, absent]

theorem overrideDrop_held {s : State} {n : Nat} {c : Context} (hc : s.context n = some c) :
    s.overrideDrop n = if c.override = none then s.reply .state else s.override c none := by
  rw [State.overrideDrop, hc]
  exact if_congr Option.isNone_iff_eq_none rfl rfl

/-- What the change of an override leaves, whichever of the two requests makes it. -/
theorem override_leaves {s : State} {n : Nat} {c : Context} (hc : s.context n = some c) (o : Option Thresholds)
    (tag kind : Byte) :
    ∃ t d, (s.accepted tag kind).override c o = t ∧ t.context n = some d ∧ d.override = o ∧
      d.faults = ((c.overridden o).reevaluate s.defaults).faults ∧ d.tally = c.tally ∧
      t.link = s.link.answered tag kind (.done (.thresholds ((c.overridden o).inForce s.defaults))) ∧
      (∀ m, m ≠ n → t.context m = s.context m) ∧ t.permits = s.permits ∧ t.cash = s.cash ∧ s.sameStore t := by
  obtain rfl := State.context_number hc
  obtain ⟨t, owed, run, context, link, others, permits, cash, -, store⟩ :=
    act_done_leaves hc (f := fun d => (d.overridden o).reevaluate s.defaults) (fun _ => rfl) rfl tag kind
      (.thresholds ((c.overridden o).inForce s.defaults))
  exact ⟨t, _, run, context, rfl, rfl, rfl, link, others, permits, cash, store⟩

/-- The threshold classes under an override (R127, R130). -/
theorem Context.overridden_faults (c : Context) (t defaults : Thresholds) :
    ((c.overridden (some t)).reevaluate defaults).faults =
      { c.faults with
        boxFull := decide (t.full ≤ c.tally.coinTotal)
        boxNearFull := decide (t.nearFull ≤ c.tally.coinTotal)
        paperLow := decide (c.paperRemaining ≤ t.paperLow) } := rfl

/-- Settles O41: each check that fails is the one that refuses, and past them the override is one act of the terminal. -/
theorem thresholdOverridesApply : Obligations.ThresholdOverridesApply := by
  refine ⟨fun s tag n a b p ready above hn => ⟨exec_thresholdOverrideSet_outside ready tag above hn a b p,
    exec_thresholdOverrideDrop_outside ready tag above hn⟩, fun s tag n ready hn => ?_⟩
  rw [exec_thresholdOverrideDrop ready tag hn]
  simp only [exec_thresholdOverrideSet ready tag hn]
  refine ⟨fun absent => ⟨?_, fun a b p => ?_⟩, fun c hc => ⟨fun free => ?_, fun held => ?_,
    fun a b p index ha hb hp bad => ?_, fun a b p least order fits low box paper => ?_⟩⟩
  · rw [overrideDrop_absent (s := s.accepted tag 36) absent, State.accepted_reply]
  · rw [overrideSet_absent (s := s.accepted tag 35) absent, State.accepted_reply]
  · rw [overrideDrop_held (s := s.accepted tag 36) hc, if_pos free, State.accepted_reply]
  · obtain ⟨t, d, run, rest⟩ := override_leaves hc none tag 36
    rw [overrideDrop_held (s := s.accepted tag 36) hc, if_neg held, run]
    exact ⟨t, d, rfl, rest⟩
  · rw [thresholdsOf_bytes ha hb hp, overrideSet_held (s := s.accepted tag 35) hc, checkOverride_error bad,
      State.owned_error, State.accepted_reply]
  · obtain ⟨t, d, run, context, override, faults, -, rest⟩ := override_leaves hc (some ⟨a, b, p⟩) tag 35
    have small : a ≤ 65535 ∧ b ≤ 65535 ∧ p ≤ 65535 := by omega
    obtain ⟨ha, hb, hp⟩ := small
    rw [thresholdsOf_bytes ha hb hp, overrideSet_held (s := s.accepted tag 35) hc, checkOverride_ok least order fits low,
      State.owned_ok, run]
    rw [Context.overridden_faults] at faults
    refine ⟨t, d, rfl, context, override, ?_, ?_, ?_, rest⟩ <;> rw [faults] <;> exact decide_eq_true_iff

end Sys2Proof.Machine
end

section
/-! LINE SET, LINE GET, LINE STOP, POLL LIST PUT and POLL LIST GET (O42, O44): each request of the host is read on the accepted
state, and a LINE STOP moves the directed queue into the owed sets (R138, R139, R141, R154). -/

namespace Sys2Proof.Machine

open Sys2Proof

/-! ### The bodies are read (R138, R154) -/

theorem firstBad_listChecks {lo hi : Nat} {listed : List Byte} (good : ∀ b ∈ listed, lo ≤ b.toNat ∧ b.toNat ≤ hi)
    (index : Nat) : firstBad (listChecks lo hi index listed) = none := by
  induction listed generalizing index with
  | nil => rfl
  | cons b rest ih =>
    obtain ⟨first, later⟩ := List.forall_mem_cons.mp good
    simp [listChecks, firstBad, within, first, ih later]

theorem readPollList_bytes (l : LineNo) {drops : List Byte} (some_drop : 1 ≤ drops.length) (room : drops.length ≤ 40)
    (good : ∀ d ∈ drops, 1 ≤ d.toNat ∧ d.toNat ≤ 32) :
    readPollList (byte l.val :: byte drops.length :: drops) = .ok (l, drops.map BitVec.toNat) := by
  have line : number (byte l.val :: byte drops.length :: drops) 0 1 = l.val :=
    (number_byte [] _ (byte l.val)).trans (Nat.mod_eq_of_lt (by omega))
  have count : number (byte l.val :: byte drops.length :: drops) 1 1 = drops.length :=
    (number_byte [byte l.val] drops (byte drops.length)).trans (Nat.mod_eq_of_lt (by omega))
  have known : l.val ≤ 3 := by omega
  simp [readPollList, line, count, checked, firstBad, within, known, some_drop, room, firstBad_listChecks good]

/-! ### The requests as they are taken -/

section Requests
variable {s : State} (ready : s.ready = true) (tag : Byte) (l : LineNo)
include ready

theorem exec_lineGet :
    exec (.lineGet tag [byte l.val]) s =
      .next (s.replied tag 38 (.done (.line (s.line l).settings (s.line l).state (s.line l).exchange))) := by
  simp only [exec, execLineGet, State.request_ready ready, readLine_byte, State.owned_ok]
  rfl

theorem exec_pollListGet :
    exec (.pollListGet tag [byte l.val]) s =
      .next (s.replied tag 42 (.done (.pollList (s.line l).pollList (s.line l).use))) := by
  simp only [exec, execPollListGet, State.request_ready ready, readLine_byte, State.owned_ok]
  rfl

theorem exec_lineSet {body : List Byte} {settings : LineSettings} (read : readLineSet body = .ok (l, settings)) :
    exec (.lineSet tag body) s = .next ((s.accepted tag 37).lineSet l settings) := by
  simp only [exec, execLineSet, State.request_ready ready, read, State.owned_ok]
  rfl

theorem exec_pollListPut {drops : List Byte} (some_drop : 1 ≤ drops.length) (room : drops.length ≤ 40)
    (good : ∀ d ∈ drops, 1 ≤ d.toNat ∧ d.toNat ≤ 32) :
    exec (.pollListPut tag (byte l.val :: byte drops.length :: drops)) s =
      .next ((s.accepted tag 41).pollListPut l (drops.map BitVec.toNat)) := by
  simp only [exec, execPollListPut, State.request_ready ready, readPollList_bytes l some_drop room good, State.owned_ok]
  rfl

theorem exec_lineStop :
    exec (.lineStop tag [byte l.val]) s = .next ((s.accepted tag 40).lineStop l) := by
  simp only [exec, execLineStop, State.request_ready ready, readLine_byte, State.owned_ok]
  rfl

end Requests

/-! ### Settings and poll lists (R138, R139, R154) -/

theorem Line.use_of_stopped {L : Line} (stopped : L.state = .stopped) : L.use = none := if_pos stopped

theorem Line.use_of_used {L : Line} (used : L.state ≠ .stopped) :
    L.use = some (L.position, L.pass, if L.settings.mode = .paced then some L.leg else none) := if_neg used

/-- A change to a line of a state that has accepted a request, and the reply DONE. -/
theorem State.accepted_onLine_done (s : State) (tag kind : Byte) (l : LineNo) (f : Line → Line) :
    ((s.accepted tag kind).onLine l f).done .plain = (s.onLine l f).replied tag kind (.done .plain) := rfl

theorem accepted_lineSet (s : State) (tag kind : Byte) (l : LineNo) (settings : LineSettings) :
    (s.accepted tag kind).lineSet l settings =
      if (s.line l).state = .stopped then
        (s.onLine l fun L => { L with settings := settings, paceCounter := 0 }).replied tag kind (.done .plain)
      else s.replied tag kind .state := by
  rw [State.lineSet, State.accepted_line, State.accepted_reply, State.accepted_onLine_done]
  exact ite_not _ _ _

theorem accepted_pollListPut (s : State) (tag kind : Byte) (l : LineNo) (drops : List Nat) :
    (s.accepted tag kind).pollListPut l drops =
      if (s.line l).state = .stopped then
        (s.onLine l fun L => { L with pollList := drops }).replied tag kind (.done .plain)
      else s.replied tag kind .state := by
  rw [State.pollListPut, State.accepted_line, State.accepted_reply, State.accepted_onLine_done]
  exact ite_not _ _ _

/-- Settles O42: each request is read on the accepted state, and writes at a STOPPED line alone. -/
theorem lineSettingsAndPollLists : Obligations.LineSettingsAndPollLists := by
  intro s tag l ready
  rw [exec_pollListGet ready]
  refine ⟨exec_lineGet ready tag l, fun stopped => ?_, fun used => ?_, fun body settings read => ?_,
    fun drops some_drop room good => ?_⟩
  · rw [Line.use_of_stopped stopped]
  · rw [Line.use_of_used used]
  · rw [exec_lineSet ready tag l read, accepted_lineSet]
  · rw [exec_pollListPut ready tag l some_drop room good, accepted_pollListPut]

/-! ### LINE STOP (R141) -/

/-- The line once LINE STOP has been taken (R141): an exchange in progress is finished first. -/
def Line.stopping (L : Line) : Line :=
  { L with directed := [], state := if L.state = .idle then .stopped else .stopping }

theorem lineStop_of_halted {s : State} {l : LineNo} (halted : (s.line l).halted = true) : s.lineStop l = s.reply .state :=
  if_pos halted

theorem lineStop_of_used {s : State} {l : LineNo} (used : (s.line l).halted = false) :
    s.lineStop l = ((s.oweQueue l).onLine l Line.stopping).done .plain :=
  if_neg (by rw [used]; exact Bool.false_ne_true)

theorem oweQueue_context (s : State) (l : LineNo) (n : Nat) :
    (s.oweQueue l).context n = (s.context n).map fun c => { c with owed := c.owed.take (s.line l) n } := by
  have found : (s.oweQueue l).context n =
      (s.context n).map fun c => { c with owed := c.owed.take (s.line l) c.number } := by
    rw [State.context, State.oweQueue, List.find?_map]
    rfl
  rw [found]
  cases hc : s.context n with
  | none => rfl
  | some c => rw [Option.map_some, Option.map_some, State.context_number hc]

/-- Settles O44: the queue's automatic orders are taken into the owed sets, and the line lets its exchange finish. -/
theorem lineStopOwesTheQueue : Obligations.LineStopOwesTheQueue := by
  intro s tag l ready
  rw [exec_lineStop ready tag l]
  refine ⟨fun halted => ?_, fun used => ?_⟩
  · rw [lineStop_of_halted (s := s.accepted tag 40) halted, State.accepted_reply]
  · rw [lineStop_of_used (s := s.accepted tag 40) used]
    refine ⟨_, rfl, ?_, fun m other => onLine_line_ne (s.oweQueue l) l m _ other, fun n c hc => ?_, rfl, rfl, rfl, rfl, rfl,
      rfl, rfl, rfl, rfl, rfl, rfl, rfl, rfl⟩
    · exact (State.line_onLine (s.oweQueue l) l l Line.stopping).trans (if_pos rfl)
    · refine ⟨{ c with owed := c.owed.take (s.line l) n }, (oweQueue_context s l n).trans (by rw [hc]; rfl), rfl, ?_⟩
      simp only [OwedOrders.take, Bool.or_eq_true, and_self]

end Sys2Proof.Machine
end

section
/-! Rejected frames (O55): where a received frame ends, which class of error it counts, and what it leaves of its exchange while
tries are left (R142, R144, R146). -/

namespace Sys2Proof.Machine

open Sys2Proof

/-! ### Where a frame ends (R142, R183) -/

/-- The characters of the frame are all that is looked at. -/
theorem endedAt_framed {frame rest : List RxChar} (h : framed frame rest) :
    endedAt ((frame ++ rest)[2]?.map (·.byte.toNat)) (frame ++ rest) = frame := by
  rcases h with ⟨length, arrived, size⟩ | ⟨rfl, size⟩
  · have inside : (frame ++ rest)[2]? = some length := by
      rw [List.getElem?_append_left (List.getElem?_eq_some_iff.mp arrived).1, arrived]
    rw [inside, Option.map_some, endedAt, ← size, List.take_left]
  · rw [List.append_nil]
    cases arrived : frame[2]? with
    | none => rfl
    | some length => exact List.take_of_length_le (size length arrived)

/-! ### What is counted (R144) -/

theorem countUp_eq_min (hold n : Nat) : countUp hold n = min (n + 1) (max hold n) := by
  unfold countUp
  split <;> omega

/-- The counter of the class of a faulty character: overrun, then framing, then parity, then noise. -/
theorem countFault_faulty {x : RxChar} (bad : faulty x = true) (k : ErrorCounters) :
    countFault x k =
      if x.overrun then { k with overrun := min (k.overrun + 1) (max 65535 k.overrun) }
      else if x.framing then { k with framing := min (k.framing + 1) (max 65535 k.framing) }
      else if x.parity then { k with parity := min (k.parity + 1) (max 65535 k.parity) }
      else { k with noise := min (k.noise + 1) (max 65535 k.noise) } := by
  simp only [countFault, countUp_eq_min, Config.counterHold]
  by_cases noise : x.noise = true
  · rw [if_pos noise]
  · have other : (x.overrun || x.framing || x.parity) = true := by simpa [faulty, noise] using bad
    cases overrun : x.overrun <;> cases framing : x.framing <;> simp_all

/-! ### What a rejected frame leaves (R146) -/

/-- The terminal's context once a class of error has been counted. -/
def Context.counted (c : Context) (count : ErrorCounters → ErrorCounters) : Context := { c with errors := count c.errors }

/-- A frame has been rejected and its exchange waits in RECEIVE for the turnaround (R146; log 38). -/
def State.rejects (s t : State) (l : LineNo) (e : Exchange) (c : Context) : Prop :=
  t.context e.terminal = some c ∧ (t.line l).exchange = some { e with phase := .receive } ∧
    (t.line l).turnaround = true ∧ s.onlyAt t e.terminal l ∧ t.notices = s.notices ∧ s.sameStore t

/-- With tries left only the counter, the phase and the turnaround change. -/
theorem rejectFrame_rejects {s : State} {l : LineNo} {e : Exchange} {c : Context} (hc : s.context e.terminal = some c)
    (left : e.triesUsed < e.triesAllowed) (count : ErrorCounters → ErrorCounters) :
    s.rejects (s.rejectFrame l e count) l e (c.counted count) := by
  obtain ⟨u, hu⟩ : ∃ u, u = (s.onLine l Line.turned).onContext e.terminal (Context.counted · count) := ⟨_, rfl⟩
  have run : s.rejectFrame l e count = u.onLine l e.awaitResend := by
    rw [hu]
    exact noReply_of_tries left _
  have turned : (u.line l).turnaround = true := by
    rw [hu, State.line_onContext, State.line_onLine, if_pos rfl]
    rfl
  have counted : u.context e.terminal = some (c.counted count) := by
    rw [hu, State.context_onContext_self _ _ _ (by intro _; rfl), State.context_onLine, hc]
    rfl
  have touched : Touches s u e.terminal l := by
    rw [hu]
    exact (onLine_touches s l _ _).trans (onContext_touches _ _ _ (by intro _; rfl) l)
  have moved := touched.trans (onLine_touches u l e.awaitResend _)
  have quiet : u.notices = s.notices := by rw [hu]; rfl
  rw [run]
  obtain ⟨-, -, -, -, store⟩ := moved.only.store
  refine ⟨counted, ?_, ?_, moved.onlyAt, quiet, store⟩
  · rw [State.line_onLine, if_pos rfl, Exchange.awaitResend_exchange]
  · rw [State.line_onLine, if_pos rfl, Exchange.awaitResend_turnaround, turned]

/-! ### Which test fails (R144) -/

section Tests
variable {s : State} {l : LineNo} {e : Exchange} {frame rest : List RxChar} (on : s.mainSupply = true)
  (listening : (s.line l).listening = some e) (whole : framed frame rest)
include on listening whole

/-- Test 1: the first faulty character gives the class. -/
theorem exec_rejectedFrame_faulty {x : RxChar} (bad : frame.find? faulty = some x) :
    exec (.rejectedFrame l (frame ++ rest)) s = .next (s.rejectFrame l e (countFault x)) := by
  simp only [exec, execRejectedFrame, State.working, on, if_true, State.receivedRaw, listening, endedAt_framed whole, bad]

/-- Test 2: the marker, the length or the check is wrong. -/
theorem exec_rejectedFrame_unopened (clean : frame.find? faulty = none)
    (unopened : openLineFrame (frame.map (·.byte)) = none) :
    exec (.rejectedFrame l (frame ++ rest)) s = .next (s.rejectFrame l e ErrorCounters.checkError) := by
  simp only [exec, execRejectedFrame, State.working, on, if_true, State.receivedRaw, listening, endedAt_framed whole, clean,
    unopened]

/-- Test 3: the frame is from another drop. -/
theorem exec_rejectedFrame_stranger {drop kind : Byte} {body : List Byte} (clean : frame.find? faulty = none)
    (opened : openLineFrame (frame.map (·.byte)) = some (drop, kind, body)) (stranger : drop.toNat ≠ e.drop) :
    exec (.rejectedFrame l (frame ++ rest)) s = .next (s.rejectFrame l e ErrorCounters.protocolError) := by
  simp only [exec, execRejectedFrame, State.working, on, if_true, State.receivedRaw, listening, endedAt_framed whole, clean,
    opened, State.received, stranger, false_and, if_false]

end Tests

/-- Settles O55: each of the first three tests that fails counts its class, and the rest is the same of all. -/
theorem rejectedFramesAreCounted : Obligations.RejectedFramesAreCounted := by
  rintro s l e c frame rest ⟨⟨on, listening, -, hc, -⟩, -⟩ left whole
  refine ⟨fun x bad => ?_, fun clean unopened => ?_, fun drop kind body clean opened stranger => ?_⟩
  · rw [← countFault_faulty (List.find?_some bad)]
    exact ⟨_, exec_rejectedFrame_faulty on listening whole bad, rejectFrame_rejects hc left _⟩
  · simp only [← countUp_eq_min]
    exact ⟨_, exec_rejectedFrame_unopened on listening whole clean unopened, rejectFrame_rejects hc left _⟩
  · simp only [← countUp_eq_min]
    exact ⟨_, exec_rejectedFrame_stranger on listening whole clean opened stranger, rejectFrame_rejects hc left _⟩

end Sys2Proof.Machine
end

section
/-! The points of a try, the end of an ANSWER's exchange and the earliest start of a pass (O56): what each event of a line's
transmitter, receiver and timers does in the phase that it meets (R142, R144 to R148, R150, R155, R157, R162). -/

namespace Sys2Proof.Machine

open Sys2Proof

section Points
variable {s : State} {l : LineNo} (on : s.mainSupply = true)
include on

/-! ### The receiver (R142, R144, R145) -/

theorem exec_characterBeginsToArrive {e : Exchange} (exchange : (s.line l).exchange = some e) (window : e.phase = .window) :
    exec (.characterBeginsToArrive l) s =
      .next (s.onLine l fun L => { L with exchange := some { e with phase := .receive } }) := by
  simp only [exec, execCharacterBeginsToArrive, State.working, on, if_true, State.characterBegins, exchange, window]

theorem exec_lineFrameDiscarded (closed : (s.line l).listening = none) (quiet : (s.line l).driving = false) :
    exec (.lineFrameDiscarded l) s = .next (s.onLine l fun L => { L with turnaround := true }) := by
  simp only [exec, execLineFrameDiscarded, State.working, on, if_true, State.frameDiscarded, closed, State.discardFrame, quiet,
    Bool.false_eq_true, if_false]

/-! ### The turnaround (R142, R145, R146) -/

theorem exec_turnaroundExpiry {e : Exchange} (exchange : (s.line l).exchange = some e)
    (running : (s.line l).turnaround = true) :
    exec (.turnaroundExpiry l) s =
      .next (s.withLine l
        ({ s.line l with turnaround := false, exchange := some e.afterTurnaround } : Line).transmit) := by
  simp only [exec, execTurnaroundExpiry, State.working, on, if_true, State.turnaroundOver, running, State.onLine_eq_withLine,
    exchange, Option.map_some]

/-! ### The transmitter (R142, R145, R147, R148) -/

theorem exec_frameTransmissionComplete_opens {e : Exchange} (exchange : (s.line l).exchange = some e) (send : e.phase = .send)
    (driving : (s.line l).driving = true) :
    exec (.frameTransmissionComplete l) s =
      .next (s.onLine l fun L => { L with driving := false, exchange := some { e with phase := .window } }) := by
  simp only [exec, execFrameTransmissionComplete, State.working, on, if_true, State.sent, driving, exchange, send]

theorem exec_frameTransmissionComplete_ends {e : Exchange} (exchange : (s.line l).exchange = some e) (answer : e.phase = .answer)
    (driving : (s.line l).driving = true) :
    exec (.frameTransmissionComplete l) s = .next (s.endExchange l e.polled) := by
  simp only [exec, execFrameTransmissionComplete, State.working, on, if_true, State.sent, driving, exchange, answer]

/-! ### The earliest start of a pass (R157) -/

theorem exec_earliestStartReached_waiting (used : (s.line l).halted = false)
    (continuous : (s.line l).settings.mode = .continuous) (waiting : (s.line l).pass = .waiting) :
    exec (.earliestStartReached l) s =
      .next ((s.withLine l { s.line l with pass := .running }).chooseIfIdle l) := by
  simp only [exec, execEarliestStartReached, State.working, on, if_true, State.earliestStart, used, continuous, waiting,
    State.onLine_eq_withLine, Bool.not_false, Bool.true_and, beq_self_eq_true]

end Points

/-! ### What waits is sent once the turnaround has passed -/

theorem Line.transmit_sends {L : Line} {e : Exchange} (turned : L.turnaround = false) (exchange : L.exchange = some e)
    (send : e.phase = .send) :
    L.transmit = { L with driving := true, exchange := some { e with triesUsed := e.triesUsed + 1 } } := by
  simp only [Line.transmit, turned, exchange, send, Bool.false_eq_true, if_false, if_true]

theorem Line.transmit_answers {L : Line} {e : Exchange} (turned : L.turnaround = false) (exchange : L.exchange = some e)
    (answer : e.phase = .answer) : L.transmit = { L with driving := true } := by
  simp [Line.transmit, turned, exchange, answer]

/-! ### The end of an ANSWER's exchange (R150, R162) -/

/-- On a SINGLE line between passes, with nothing queued, the owed orders of the terminal are queued and the oldest begins. -/
theorem endExchange_queues {s : State} {l : LineNo} {n : Nat} {c : Context} (hc : s.context n = some c) (line : c.line = l)
    (used : (s.line l).halted = false) (single : (s.line l).settings.mode = .single) (rests : (s.line l).pass = .none)
    (chain : (s.line l).chain = none) (queue : (s.line l).directed = []) {kind : OrderKind} {rest : List OrderKind}
    (kinds : c.owed.kinds = kind :: rest) :
    ∃ t frame, s.endExchange l (some n) = t ∧ t.context n = some { c with owed := .none } ∧
      (t.line l).directed = directedOf n rest ∧ s.carries c kind frame ∧ (t.line l).begins c frame ∧
      (t.line l).chain = s.chainOf c kind ∧ Touches s t n l ∧ t.notices = s.notices := by
  have going : (s.line l).state ≠ .stopping := fun stopping => by simp [Line.halted, stopping] at used
  obtain ⟨moved, quiet⟩ := polled_single (Touches.refl s n l) rfl hc line going single rests
  obtain ⟨emptied, -, first⟩ := polled_queues (kinds := c.owed.kinds) rfl hc line going single rests chain
    (fun _ _ => by simp [Line.holds, queue]) (by simp [queue, Config.directedCapacity]) (by simp [queue])
  obtain ⟨frame, carries, lineAfter⟩ := first kind rest kinds
  exact ⟨_, frame, rfl, emptied, congrArg Line.directed lineAfter, carries,
    lineAfter ▸ Line.directing_begins _ _ _ _ frame, congrArg Line.chain lineAfter, moved, quiet⟩

/-- With nothing owed the line rests and nothing else changes. -/
theorem endExchange_rests {s : State} {l : LineNo} {n : Nat} {c : Context} (hc : s.context n = some c)
    (used : (s.line l).halted = false) (single : (s.line l).settings.mode = .single) (rests : (s.line l).pass = .none)
    (chain : (s.line l).chain = none) (queue : (s.line l).directed = []) (unowed : c.owed = .none) :
    s.endExchange l (some n) = s.withLine l { (s.line l).released with state := .idle } := by
  have going : (s.line l).state ≠ .stopping := fun stopping => by simp [Line.halted, stopping] at used
  rw [endExchange_polled going, queueOwed_unowed (s := s.withLine l _) hc unowed]
  exact goesOn_rests ⟨chain, queue⟩ (by simp [Line.released, single, rests])

/-- A line with no chain that stops has given up nothing but its exchange. -/
theorem Line.halting_unchained {L : Line} (chain : L.chain = none) :
    L.halting = { L with driving := false, exchange := none, state := .stopped } := by
  rw [Line.halting, ← chain]
  rfl

theorem Exchange.polled_of_poll {e : Exchange} (poll : e.frame = .poll) : e.polled = some e.terminal := if_pos poll

/-! ### A WAITING pass whose earliest start is reached (R155, R157) -/

/-- An IDLE line takes the next entry that a terminal holds at once. -/
theorem choose_running_polls {s : State} {l : LineNo} {L : Line} (free : L.free) (continuous : L.settings.mode = .continuous)
    (running : L.pass = .running) {skipped after : List Nat} {drop : Nat} {c : Context}
    (ahead : L.before (skipped ++ drop :: after)) (passed : s.passesOver l L.passRecord skipped)
    (polled : s.pollable l L.passRecord drop c) :
    (s.withLine l L).choose l = s.withLine l (L.polling (skipped.length + 1) s.elapsed c) := by
  have unpaced : L.settings.mode ≠ .paced := by rw [continuous]; decide
  rw [choose_eq_goesOn (Line.entryEnded_before unpaced ahead (List.append_ne_nil_of_right_ne_nil _ (List.cons_ne_nil _ _)))]
  exact goesOn_polls free unpaced running ahead passed polled

/-- Settles O56: each event in the phase that it meets, and then what the line goes on with. -/
theorem phasesOfATryAndOfAPass : Obligations.PhasesOfATryAndOfAPass := by
  refine ⟨fun s l on => ⟨fun e => exec_frameTransmissionComplete_opens on, fun e => exec_characterBeginsToArrive on,
      exec_lineFrameDiscarded on, fun e exchange send running => ?_, fun e exchange receive running => ?_,
      fun e exchange answer running => ?_, fun e exchange answer driving chain => ⟨fun stopping => ?_,
        fun c used single rests queue poll hc line _ => ⟨fun unowed => ?_, fun kind rest kinds => ?_⟩⟩⟩,
    fun s l on used continuous waiting => ⟨fun busy => ?_,
      fun idle chain queue skipped drop after c ahead passed polled => ?_⟩⟩
  · rw [exec_turnaroundExpiry on exchange running, Exchange.afterTurnaround_of_ne (by rw [send]; decide),
      Line.transmit_sends rfl rfl send]
    rfl
  · rw [exec_turnaroundExpiry on exchange running, Exchange.afterTurnaround_of_receive receive,
      Line.transmit_sends rfl rfl rfl]
    rfl
  · rw [exec_turnaroundExpiry on exchange running, Exchange.afterTurnaround_of_ne (by rw [answer]; decide),
      Line.transmit_answers rfl rfl answer, ← exchange]
    rfl
  · rw [exec_frameTransmissionComplete_ends on exchange answer driving, endExchange_stops stopping chain,
      Line.halting_unchained chain]
    rfl
  · rw [exec_frameTransmissionComplete_ends on exchange answer driving, Exchange.polled_of_poll poll,
      endExchange_rests hc used single rests chain queue unowed]
    rfl
  · obtain ⟨t, frame, run, emptied, queued, carries, begins, chained, moved, quiet⟩ :=
      endExchange_queues hc line used single rests chain queue kinds
    obtain ⟨cash, permits, fare, link, store⟩ := moved.only.store
    rw [exec_frameTransmissionComplete_ends on exchange answer driving, Exchange.polled_of_poll poll, run]
    exact ⟨t, frame, rfl, emptied, queued, carries, begins, chained, moved.onlyAt, quiet, cash, permits, fare, link, store⟩
  · rw [exec_earliestStartReached_waiting on used continuous waiting,
      chooseIfIdle_busy (by rw [State.line_withLine]; exact busy)]
    rfl
  · rw [exec_earliestStartReached_waiting on used continuous waiting,
      chooseIfIdle_idle (by rw [State.line_withLine]; exact idle),
      choose_running_polls (by exact ⟨chain, queue⟩) (by exact continuous) rfl (by exact ahead) (by exact passed)
        (by exact polled)]
    rfl

end Sys2Proof.Machine
end

section
/-! The invariant of O4 (R160): a directed queue holds 16 entries or fewer, no automatic order twice for one terminal. A queue
changes in two ways: entries leave it, which keeps both, or one entry joins it at the end, which three operations do, each
once it has found a place and no entry like it: an order asked for, an owed order queued, a MESSAGE. -/

namespace Sys2Proof.Machine

open Sys2Proof

/-! ### One queue -/

/-- R160 for one line. -/
def Line.queueKept (L : Line) : Prop := L.directed.length ≤ Config.directedCapacity ∧ L.automatic.Nodup

theorem State.directedKept_iff (s : State) : s.directedKept ↔ ∀ l, (s.line l).queueKept := Iff.rfl

theorem Line.mem_automatic {L : Line} {d : Directed} :
    d ∈ L.automatic ↔ d ∈ L.directed ∧ ∀ text, d.kind ≠ .message text := by
  obtain ⟨n, kind⟩ := d
  cases kind <;> simp [Line.automatic]

/-- An order that the queue does not hold for a terminal is not among its automatic ones. -/
theorem Line.not_mem_automatic_of_holds {L : Line} {n : Nat} {kind : OrderKind} (fresh : L.holds n kind = false) :
    { terminal := n, kind := kind } ∉ L.automatic := fun listed => by
  have holds : L.holds n kind = true := List.any_eq_true.mpr ⟨_, (Line.mem_automatic.mp listed).1, by simp⟩
  exact Bool.false_ne_true (fresh.symm.trans holds)

theorem Line.message_not_mem_automatic (L : Line) (n : Nat) (text : List Byte) :
    { terminal := n, kind := .message text } ∉ L.automatic := fun listed => (Line.mem_automatic.mp listed).2 text rfl

/-- Entries may leave a queue, and what is not the queue may change. -/
theorem Line.queueKept.thinned {L M : Line} (h : L.queueKept) (thin : M.directed.Sublist L.directed) : M.queueKept :=
  ⟨thin.length_le.trans h.1, h.2.sublist (thin.filter _)⟩

/-- An entry may join a queue that has room for it and no automatic order like it. -/
theorem Line.queueKept.appended {L M : Line} {d : Directed} (h : L.queueKept) (room : L.directed.length < Config.directedCapacity)
    (fresh : d ∉ L.automatic) (queue : M.directed = L.directed ++ [d]) : M.queueKept := by
  refine ⟨by rw [queue, List.length_append]; exact room, ?_⟩
  have joined : M.automatic.Sublist (L.automatic ++ [d]) := by
    rw [Line.automatic, queue, List.filter_append]
    exact List.filter_sublist.append_left _
  exact (List.Nodup.concat fresh h.2).sublist (List.concat_eq_append ▸ joined)

/-! ### Queues that only lose entries -/

/-- No queue has an entry that it did not have, and those that stay keep their order. -/
def ThinsQueues (s t : State) : Prop := ∀ m, (t.line m).directed.Sublist (s.line m).directed

theorem ThinsQueues.refl (s : State) : ThinsQueues s s := fun _ => List.Sublist.refl _

theorem ThinsQueues.trans {s t u : State} (h : ThinsQueues s t) (k : ThinsQueues t u) : ThinsQueues s u :=
  fun m => (k m).trans (h m)

theorem ThinsQueues.directedKept {s t : State} (thin : ThinsQueues s t) (h : s.directedKept) : t.directedKept :=
  t.directedKept_iff.mpr fun m => (s.directedKept_iff.mp h m).thinned (thin m)

theorem onLine_thinsQueues (s : State) (l : LineNo) (f : Line → Line)
    (thin : (f (s.line l)).directed.Sublist (s.line l).directed) : ThinsQueues s (s.onLine l f) := by
  intro m
  rw [State.line_onLine]
  split
  · rename_i same
    exact same ▸ thin
  · exact List.Sublist.refl _

/-- A change to a line that leaves its queue alone. -/
theorem onLine_keepsQueues (s : State) (l : LineNo) (f : Line → Line)
    (same : ∀ L, (f L).directed = L.directed := by intro _; rfl) : ThinsQueues s (s.onLine l f) :=
  onLine_thinsQueues s l f (by rw [same])

theorem notice_keepsQueues (s : State) (kind : NoticeKind) : ThinsQueues s (s.notice kind) := fun _ => List.Sublist.refl _

theorem onLines_thinsQueues (s : State) (f : Line → Line) (thin : ∀ L, (f L).directed.Sublist L.directed) :
    ThinsQueues s (s.onLines f) := by
  intro m
  rw [State.line_onLines]
  exact thin _

theorem beginExchange_thinsQueues (s : State) (l : LineNo) (c : Context) (frame : SentFrame) :
    ThinsQueues s (s.beginExchange l c frame) := onLine_keepsQueues s l _ fun _ => Line.transmit_directed _

theorem beginDirected_thinsQueues (s : State) (l : LineNo) (c : Context) (kind : OrderKind) :
    ThinsQueues s (s.beginDirected l c kind) := by
  obtain ⟨frame, -, begun⟩ := beginDirected_eq s l c kind
  rw [begun]
  exact (onLine_keepsQueues s l _).trans (beginExchange_thinsQueues _ l c frame)

theorem Line.entryEnded_directed (L : Line) : L.entryEnded.1.directed = L.directed := by
  unfold Line.entryEnded
  repeat' split
  all_goals rfl

theorem entryEnded_thinsQueues (s : State) (l : LineNo) : ThinsQueues s (s.entryEnded l) := by
  have ended : ThinsQueues s (s.onLine l fun _ => (s.line l).entryEnded.1) :=
    onLine_thinsQueues s l _ (by rw [Line.entryEnded_directed])
  unfold State.entryEnded
  simp only
  split <;> exact ended

/-- A choice takes entries off its line's queue. -/
theorem chooseWith_thinsQueues (fuel : Nat) (s : State) (l : LineNo) : ThinsQueues s (s.chooseWith fuel l) := by
  induction fuel generalizing s with
  | zero => exact ThinsQueues.refl s
  | succ fuel ih =>
    unfold State.chooseWith
    simp only
    split
    · split
      · exact beginExchange_thinsQueues _ _ _ _
      · exact (onLine_keepsQueues s l _).trans (ih _)
    · split
      · rename_i entry rest queue
        have popped : ThinsQueues s (s.onLine l fun L => { L with directed := rest }) :=
          onLine_thinsQueues s l _ (queue ▸ List.sublist_cons_self entry rest)
        split
        · exact popped.trans (beginDirected_thinsQueues _ _ _ _)
        · exact popped.trans (ih _)
      · split
        · split
          · split
            · exact ((onLine_keepsQueues s l _).trans (notice_keepsQueues _ _)).trans (ih _)
            · exact onLine_keepsQueues s l _
          · have taken : ThinsQueues s (s.onLine l fun L => L.takeEntry s.elapsed) := onLine_keepsQueues s l _
            have passed := (taken.trans (entryEnded_thinsQueues _ l)).trans (ih _)
            split
            · exact passed
            · split
              · exact passed
              · exact (taken.trans (onLine_keepsQueues _ l _)).trans (beginExchange_thinsQueues _ _ _ _)
        · exact onLine_keepsQueues s l _

theorem Line.answer_directed (L : Line) (e : Exchange) (number : Nat) (answer : Answer) :
    (L.answer e number answer).directed = L.directed := Line.transmit_directed _

theorem handAnswer_thinsQueues (s : State) (n request : Nat) (answer : Answer) :
    ThinsQueues s (s.handAnswer n request answer) := by
  unfold State.handAnswer
  split
  · exact ThinsQueues.refl s
  · split
    · exact ThinsQueues.refl s
    · split
      · exact onLine_keepsQueues s _ _ fun _ => Line.answer_directed _ _ _ _
      · exact ThinsQueues.refl s

theorem report_lines (s : State) (n : Nat) (add : ReportSet → ReportSet) : (s.report n add).lines = s.lines := by
  unfold State.report
  split
  · rfl
  · simp only
    split <;> rfl

/-! ### Operations on a line -/

theorem onContext_directedKept {s : State} (h : s.directedKept) (n : Nat) (f : Context → Context) :
    (s.onContext n f).directedKept := h

theorem dropNotices_directedKept {s : State} (h : s.directedKept) (gone : NoticeKind → Bool) :
    (s.dropNotices gone).directedKept := h

theorem reply_directedKept {s : State} (h : s.directedKept) (body : ReplyBody) : (s.reply body).directedKept := h

/-- A change to one line keeps the invariant when it leaves the queue alone. -/
theorem onLine_directedKept {s : State} (h : s.directedKept) (l : LineNo) {f : Line → Line}
    (same : ∀ L, (f L).directed = L.directed := by intro _; rfl) : (s.onLine l f).directedKept :=
  (onLine_keepsQueues s l f same).directedKept h

/-- So it does when it puts one entry at the end, for which there is a place and no entry like it. -/
theorem append_directedKept {s : State} (h : s.directedKept) {l : LineNo} {d : Directed}
    (room : (s.line l).directed.length < Config.directedCapacity) (fresh : d ∉ (s.line l).automatic) :
    (s.onLine l fun L => { L with directed := L.directed ++ [d] }).directedKept := by
  rw [State.directedKept_iff] at h ⊢
  intro m
  rw [State.line_onLine]
  split
  · exact (h l).appended room fresh rfl
  · exact h m

theorem choose_directedKept {s : State} (h : s.directedKept) (l : LineNo) : (s.choose l).directedKept :=
  (chooseWith_thinsQueues _ s l).directedKept h

theorem chooseIfIdle_directedKept {s : State} (h : s.directedKept) (l : LineNo) : (s.chooseIfIdle l).directedKept := by
  unfold State.chooseIfIdle
  split
  · exact choose_directedKept h l
  · exact h

theorem paceEvent_directedKept {s : State} (h : s.directedKept) (l : LineNo) : (s.paceEvent l).directedKept := by
  unfold State.paceEvent
  split
  · exact chooseIfIdle_directedKept (onLine_directedKept h l) l
  · exact h

theorem handAnswer_directedKept {s : State} (h : s.directedKept) (n request : Nat) (answer : Answer) :
    (s.handAnswer n request answer).directedKept := (handAnswer_thinsQueues s n request answer).directedKept h

theorem finish_directedKept {s : State} (h : s.directedKept) (n request : Nat) (answer : Answer) :
    (s.finish n request answer).directedKept := handAnswer_directedKept (s := s.onContext n _) h _ _ _

/-! ### Orders and acts (R134, R160 to R162) -/

theorem report_directedKept {s : State} (h : s.directedKept) (n : Nat) (add : ReportSet → ReportSet) :
    (s.report n add).directedKept := by
  unfold State.directedKept State.line
  rw [report_lines]
  exact h

/-- An order asked for joins a queue that does not hold it and has room (R161). -/
theorem askOrder_directedKept {s : State} (h : s.directedKept) (n : Nat) (kind : OrderKind) :
    (s.askOrder n kind).directedKept := by
  unfold State.askOrder
  split
  · exact h
  · simp only
    split
    · exact h
    · rename_i fresh
      split
      · exact h
      · split
        · exact h
        · split
          · exact h
          · split
            · exact h
            · rename_i room
              exact chooseIfIdle_directedKept (append_directedKept h (Nat.lt_of_not_le room)
                (Line.not_mem_automatic_of_holds (Bool.not_eq_true _ ▸ fresh))) _

/-- So does an owed order at the end of a good POLL exchange (R162). -/
theorem queueOwedKind_directedKept {s : State} (h : s.directedKept) (n : Nat) (kind : OrderKind) :
    (s.queueOwedKind n kind).directedKept := by
  unfold State.queueOwedKind
  split
  · exact h
  · simp only
    split
    · split
      · exact h
      · rename_i fresh
        split
        · rename_i room
          exact append_directedKept (s := s.onContext n _) h room
            (Line.not_mem_automatic_of_holds (Bool.not_eq_true _ ▸ fresh))
        · exact h
    · exact h

theorem queueOwed_directedKept {s : State} (h : s.directedKept) (n : Nat) : (s.queueOwed n).directedKept :=
  queueOwedKind_directedKept (queueOwedKind_directedKept (queueOwedKind_directedKept (queueOwedKind_directedKept h n _) n _)
    n _) n _

theorem foldl_directedKept {op : State → Nat → State} (keeps : ∀ {s : State}, s.directedKept → ∀ n, (op s n).directedKept)
    (numbers : List Nat) {s : State} (h : s.directedKept) : (numbers.foldl op s).directedKept := by
  induction numbers generalizing s with
  | nil => exact h
  | cons n rest ih => exact ih (keeps h n)

theorem askAll_directedKept {s : State} (h : s.directedKept) (kind : OrderKind) : (s.askAll kind).directedKept :=
  foldl_directedKept (fun h n => askOrder_directedKept h n kind) _ h

theorem act_directedKept {s : State} (h : s.directedKept) (n : Nat) (f : Context → Context) :
    (s.act n f).directedKept := by
  unfold State.act
  simp only
  split
  · exact h
  · exact askOrder_directedKept (report_directedKept (s := s.onContext n f) h n _) n _

theorem hold_directedKept {s : State} (h : s.directedKept) (n : Nat) (held : HeldResult) : (s.hold n held).directedKept :=
  askOrder_directedKept (s := s.onContext n _) h n _

/-! ### The end of an exchange (R146, R150) -/

theorem endExchange_directedKept {s : State} (h : s.directedKept) (l : LineNo) (goodPoll : Option Nat) :
    (s.endExchange l goodPoll).directedKept := by
  have ended : (s.onLine l fun L => { L with exchange := none, driving := false }).directedKept := onLine_directedKept h l
  unfold State.endExchange
  simp only
  split
  · have stopped := onLine_directedKept ended l (f := fun L => { L with state := .stopped, chain := none })
    split <;> exact stopped
  · refine choose_directedKept ((entryEnded_thinsQueues _ l).directedKept ?_) l
    split
    · exact queueOwed_directedKept ended _
    · exact ended

theorem failedFrame_directedKept {s : State} (h : s.directedKept) (l : LineNo) (e : Exchange) :
    (s.failedFrame l e).directedKept := by
  unfold State.failedFrame
  split
  case h_5 => exact onContext_directedKept (onLine_directedKept h l) _ _
  all_goals exact h

/-- A try with no reply, sent again or failed (R146). -/
theorem noReply_directedKept {s : State} (h : s.directedKept) (l : LineNo) (e : Exchange) {again : Line → Line}
    (same : ∀ L, (again L).directed = L.directed) : (s.noReply l e again).directedKept := by
  unfold State.noReply
  split
  · exact onLine_directedKept h l same
  · exact endExchange_directedKept
      (failedFrame_directedKept (act_directedKept (s := s.onContext e.terminal _) h _ _) l e) l none

theorem rejectFrame_directedKept {s : State} (h : s.directedKept) (l : LineNo) (e : Exchange)
    (count : ErrorCounters → ErrorCounters) : (s.rejectFrame l e count).directedKept :=
  noReply_directedKept (onContext_directedKept (onLine_directedKept h l) _ _) l e fun _ => rfl

theorem goodFrame_directedKept {s : State} (h : s.directedKept) (l : LineNo) (n : Nat) : (s.goodFrame l n).directedKept :=
  act_directedKept (onLine_directedKept h l) n _

theorem placeFare_directedKept {s : State} (h : s.directedKept) (e : FareEntry) : (s.placeFare e).directedKept := by
  rw [placeFare_eq]
  exact h

/-! ### Banks, clock and starts -/

theorem switchover_directedKept {s : State} (h : s.directedKept) : s.switchover.directedKept :=
  askAll_directedKept (s := s.onTariffs Tariffs.switch) h _

theorem presentMinute_directedKept {s : State} (h : s.directedKept) : s.presentMinute.directedKept := by
  unfold State.presentMinute
  split
  · exact h
  · split
    · exact h
    · exact switchover_directedKept h

theorem Line.pace_directed (L : Line) : L.pace.directed = L.directed := by
  unfold Line.pace
  split <;> rfl

theorem onLines_directedKept {s : State} (h : s.directedKept) {f : Line → Line}
    (thin : ∀ L, (f L).directed.Sublist L.directed) : (s.onLines f).directedKept :=
  (onLines_thinsQueues s f thin).directedKept h

theorem secondsEvent_directedKept {s : State} (h : s.directedKept) : s.secondsEvent.directedKept := by
  have ticked : s.scanAlong.tick.directedKept := h
  unfold State.secondsEvent
  split
  · refine onLines_directedKept ?_ fun L => by rw [Line.pace_directed]
    split
    · exact presentMinute_directedKept ticked
    · exact ticked
  · split <;> exact h

theorem clockSet_directedKept {s : State} (h : s.directedKept) (t : Instant) : (s.clockSet t).directedKept :=
  askAll_directedKept (presentMinute_directedKept (onLines_directedKept
    (s := { s with clock := { day := t.day, second := t.second, valid := true } }) (f := fun L => { L with paceCounter := 0 })
    h fun _ => List.Sublist.refl _)) .clock

/-- A POWER or WARM start empties the queues (R167). -/
theorem restarted_directedKept {s : State} (h : s.directedKept) (kind : StartKind) : (s.restarted kind).directedKept :=
  onLines_directedKept h (f := Line.restart) fun _ => List.nil_sublist _

theorem reportChanged_directedKept {after : State} (h : after.directedKept) (s : State) :
    (after.reportChanged s).directedKept := foldl_directedKept (fun h n => report_directedKept h n _) _ h

theorem powerStart_directedKept {s : State} (h : s.directedKept) : s.powerStart.directedKept := by
  have up := reportChanged_directedKept (after := (s.restarted .power).emptied) (restarted_directedKept h .power) s
  unfold State.powerStart
  simp only
  split
  · exact presentMinute_directedKept up
  · exact up

theorem coldStart_directedKept (s : State) : s.coldStart.directedKept := by
  obtain ⟨-, -, reset, -⟩ := resetMeetsTheInvariants
  exact reset

/-! ### The Permit Table -/

theorem dropReferral_directedKept {s : State} (h : s.directedKept) (r : Referral) : (s.dropReferral r).directedKept := h

theorem refuseReferral_directedKept {s : State} (h : s.directedKept) (r : Referral) (reason : Reason) :
    (s.refuseReferral r reason).directedKept := hold_directedKept h _ _

theorem refer_directedKept {s : State} (h : s.directedKept) (l : Lookup) : (s.refer l).directedKept := by
  unfold State.refer
  split
  · exact finish_directedKept h _ _ _
  · exact finish_directedKept (s := (s.onPermits _).onContext _ _) h _ _ _

theorem lookupChecks_directedKept {s : State} (h : s.directedKept) (l : Lookup) : (s.lookupChecks l).directedKept := by
  have refused (reason : Reason) := finish_directedKept h l.terminal l.request (.refused reason)
  unfold State.lookupChecks
  simp only
  split
  · exact refused _
  · split
    · exact refused _
    · split
      · split
        · exact refer_directedKept h l
        · exact refused _
      · split
        · exact refused _
        · exact placeFare_directedKept (s := s.onPermit _ _) h _

theorem beginAnswer_directedKept {s : State} (h : s.directedKept) (number : Nat) (decision : Decision) :
    (s.beginAnswer number decision).directedKept := by
  unfold State.beginAnswer
  split
  · exact h
  · split
    · exact h
    · split
      · exact refuseReferral_directedKept (s := s.recordDecision _ _) h _ _
      · unfold State.grantOnce
        split
        · exact h
        · exact placeFare_directedKept (s := s.recordDecision _ _) h _
      · split <;> exact h

theorem beginOp_directedKept {s : State} (h : s.directedKept) (op : PermitOp) : (s.beginOp op).directedKept := by
  cases op with
  | lookup l => exact h
  | load records => unfold State.beginOp; simp only; split <;> exact h
  | change c =>
    unfold State.beginOp State.beginChange
    simp only
    split
    · exact h
    · split <;> exact h
  | drop number => unfold State.beginOp; simp only; split <;> exact h
  | get number => unfold State.beginOp; simp only; split <;> exact h
  | scan first count => exact h
  | answer referral decision => exact beginAnswer_directedKept h referral decision

theorem placeOp_directedKept {s : State} (h : s.directedKept) (op : PermitOp) : (s.placeOp op).directedKept := by
  unfold State.placeOp
  split
  · exact beginOp_directedKept h op
  · exact h

theorem nextOp_directedKept {s : State} (h : s.directedKept) : s.nextOp.directedKept := by
  unfold State.nextOp
  split
  · exact h
  · exact beginOp_directedKept (s := s.onPermits _) h _

theorem loadRecord_directedKept {s : State} (h : s.directedKept) (f : PermitFields) : (s.loadRecord f).directedKept := by
  unfold State.loadRecord
  split <;> exact h

theorem loadAll_directedKept {s : State} (h : s.directedKept) (records : List PermitFields) (inserted replaced : Nat) :
    (s.loadAll records inserted replaced).1.directedKept := by
  induction records generalizing s inserted replaced with
  | nil => exact h
  | cons f rest ih =>
    unfold State.loadAll
    split <;> exact ih (loadRecord_directedKept h f) _ _

theorem grantChecks_directedKept {s : State} (h : s.directedKept) (number : Nat) (record : PermitFields) :
    (s.grantChecks number record).directedKept := by
  unfold State.grantChecks
  split
  · exact h
  · split
    · split
      · exact refuseReferral_directedKept h _ _
      · exact placeFare_directedKept (s := s.onPermit _ _) h _
    · exact h

theorem completeOp_directedKept {s : State} (h : s.directedKept) : s.completeOp.directedKept := by
  unfold State.completeOp
  split
  · exact h
  · exact h
  · exact nextOp_directedKept (s := s.reply _) h
  · exact nextOp_directedKept (s := s.completeScan _ _) h
  · exact nextOp_directedKept (reply_directedKept (loadAll_directedKept h _ _ _) _)
  · refine nextOp_directedKept (reply_directedKept (grantChecks_directedKept ?_ _ _) _)
    split
    · exact h
    · exact loadRecord_directedKept h _

theorem insertStep_directedKept {s : State} (h : s.directedKept) : s.insertStep.directedKept := by
  unfold State.insertStep
  split
  · split <;> exact loadRecord_directedKept h _
  · exact loadRecord_directedKept h _
  · exact h

theorem completeLookup_directedKept {s : State} (h : s.directedKept) : s.completeLookup.directedKept := by
  unfold State.completeLookup
  split
  · refine nextOp_directedKept ?_
    split
    · exact h
    · exact lookupChecks_directedKept h _
  · exact h

theorem expireReferral_directedKept {s : State} (h : s.directedKept) (number : Nat) :
    (s.expireReferral number).directedKept := by
  unfold State.expireReferral
  split
  · exact h
  · split
    · exact h
    · exact refuseReferral_directedKept h _ _

/-! ### Results and withdrawals -/

theorem commitSession_directedKept {s : State} (h : s.directedKept) (c : Context) (r : FareResult) (f : Figures)
    (once : Bool) : (s.commitSession c r f once).directedKept := by
  have charged : (s.charged c r f once).directedKept := by
    unfold State.charged
    split <;> exact h
  exact act_directedKept charged c.number _

theorem takeSession_directedKept {s : State} (h : s.directedKept) (c : Context) (flight : InFlight) (r : FareResult)
    (version : Nat) (walk : Walk) : (s.takeSession c flight r version walk).directedKept := by
  unfold State.takeSession
  split
  · exact finish_directedKept h _ _ _
  · exact finish_directedKept (onContext_directedKept (commitSession_directedKept h c r _ false) _ _) _ _ _

theorem takeSale_directedKept {s : State} (h : s.directedKept) (c : Context) (flight : InFlight) (coins : Coins)
    (quoteVersion : Option Nat) (r : FareResult) (version : Nat) (walk : Walk) :
    (s.takeSale c flight coins quoteVersion r version walk).directedKept := by
  unfold State.takeSale
  split
  · split
    · exact finish_directedKept h _ _ _
    · exact finish_directedKept (onContext_directedKept (act_directedKept h _ _) _ _) _ _ _
  · split
    · exact finish_directedKept h _ _ _
    · exact h

theorem takeTerminal_directedKept {s : State} (h : s.directedKept) (n request : Nat) (r : FareResult) :
    (s.takeTerminal n request r).directedKept := by
  unfold State.takeTerminal
  split
  · exact h
  · split
    · exact h
    · split
      · exact h
      · split
        · split
          · exact finish_directedKept h _ _ _
          · exact takeSale_directedKept h _ _ _ _ _ _ _
          · exact takeSession_directedKept h _ _ _ _ _
        · exact h

theorem takeClaimed_directedKept {s : State} (h : s.directedKept) (n request : Nat) (r : FareResult) :
    (s.takeClaimed n request r).directedKept := takeTerminal_directedKept (s := s.scanAlong) h n request r

theorem takeReferral_directedKept {s : State} (h : s.directedKept) (number : Nat) (r : FareResult) (version : Nat)
    (walk : Walk) : (s.takeReferral number r version walk).directedKept := by
  unfold State.takeReferral
  split
  · exact h
  · refine dropReferral_directedKept (s := State.clearClaim _ _) ?_ _
    split
    · exact h
    · split
      · exact hold_directedKept h _ _
      · exact hold_directedKept (commitSession_directedKept h _ _ _ _) _ _

theorem computationComplete_directedKept {s : State} (h : s.directedKept) : s.computationComplete.directedKept := by
  have delivered (r : FareResult) : (s.deliver r).directedKept := by
    unfold State.deliver
    split
    · split
      · exact takeClaimed_directedKept h _ _ _
      · exact takeTerminal_directedKept h _ _ _
    · exact takeReferral_directedKept (s := s.scanAlong) h _ _ _ _
    · exact h
    · exact h
  unfold State.computationComplete
  split
  · exact h
  · rename_i k _
    obtain ⟨fare, served⟩ := serveFare_eq (s.deliver k.result)
    rw [served]
    exact delivered k.result

theorem withdraw_directedKept {s : State} (h : s.directedKept) (n request : Nat) : (s.withdraw n request).directedKept := by
  have fare {u : State} (h : u.directedKept) : (u.withdrawFare n request).directedKept := by
    unfold State.withdrawFare
    split
    · exact takeTerminal_directedKept (s := u.unqueueFare n request) h _ _ _
    · exact h
  have walk {u : State} (h : u.directedKept) : (u.withdrawWalk n request).directedKept := by
    unfold State.withdrawWalk
    split
    · exact takeClaimed_directedKept (s := u.unqueueFare n request) h _ _ _
    · exact h
  have session {u : State} (h : u.directedKept) : (u.withdrawSession n request).directedKept := by
    unfold State.withdrawSession
    split
    · exact h
    · split
      · split
        · exact h
        · exact walk h
      · exact walk h
  unfold State.withdraw
  split
  · exact h
  · rename_i flight _
    split
    · have marked : (s.onContext n fun c => { c with inFlight := some { flight with withdrawn := true } }).directedKept := h
      simp only
      split
      · exact session marked
      · exact fare marked
      · exact fare marked
    · exact h

/-! ### What a terminal sends -/

theorem cancelRequest_directedKept {s : State} (h : s.directedKept) (n request : Nat) :
    (s.cancelRequest n request).directedKept := by
  unfold State.cancelRequest
  split
  · exact handAnswer_directedKept (s := s.dropReferral _) h _ _ _
  · exact handAnswer_directedKept h _ _ _

theorem implicitCancel_directedKept {s : State} (h : s.directedKept) (n : Nat) : (s.implicitCancel n).directedKept := by
  unfold State.implicitCancel
  split <;> exact h

theorem serveRequest_directedKept {s : State} (h : s.directedKept) (c : Context) (number : Nat) (request : TermRequest) :
    (s.serveRequest c number request).directedKept := by
  have flies (kind : FlightKind) : (s.setInFlight c.number kind number).directedKept := h
  cases request with
  | quote amount => exact placeFare_directedKept (flies _) _
  | sale coins version =>
    simp only [State.serveRequest]
    split
    · exact handAnswer_directedKept h _ _ _
    · exact placeFare_directedKept (flies _) _
  | session permit minutes =>
    simp only [State.serveRequest]
    split
    · exact handAnswer_directedKept h _ _ _
    · exact placeOp_directedKept (flies _) _
  | cancel => exact cancelRequest_directedKept h _ _

theorem takeRequest_directedKept {s : State} (h : s.directedKept) (n number : Nat) (request : Option TermRequest) :
    (s.takeRequest n number request).directedKept := by
  have answered (answer : Answer) := handAnswer_directedKept h n number answer
  unfold State.takeRequest
  split
  · exact h
  · split
    · exact answered _
    · split
      · exact answered _
      · split
        · exact cancelRequest_directedKept h _ _
        · split
          · exact serveRequest_directedKept h _ _ _
          · split
            · exact answered _
            · exact serveRequest_directedKept (implicitCancel_directedKept h n) _ _ _

theorem doorOpened_directedKept {s : State} (h : s.directedKept) (n : Nat) (code : Option Nat) :
    (s.doorOpened n code).directedKept := by
  unfold State.doorOpened
  simp only
  split
  · exact act_directedKept h n _
  · split
    · exact act_directedKept (s := s.onCash _) h n _
    · exact act_directedKept h n _

theorem boxLifted_directedKept {s : State} (h : s.directedKept) (n : Nat) : (s.boxLifted n).directedKept := by
  unfold State.boxLifted
  split
  · exact h
  · refine act_directedKept ?_ n _
    split <;> exact h

theorem collectionEnded_directedKept {s : State} (h : s.directedKept) (n : Nat) : (s.collectionEnded n).directedKept := by
  have look {u : State} (h : u.directedKept) (number : Nat) : (u.lookAtRound number).directedKept := by
    unfold State.lookAtRound
    split
    · exact h
    · split <;> exact h
  unfold State.collectionEnded
  split
  · exact h
  · split
    · exact h
    · exact look (act_directedKept h n _) _

theorem handEvent_directedKept {s : State} (h : s.directedKept) (n : Nat) (event : Event) :
    (s.handEvent n event).directedKept := by
  cases event
  case doorOpen code => exact doorOpened_directedKept h n code
  case doorClosed => exact collectionEnded_directedKept h n
  case boxReplaced => exact boxLifted_directedKept h n
  all_goals exact act_directedKept h n _

theorem takeEvent_directedKept {s : State} (h : s.directedKept) (n number : Nat) (event : Event) :
    (s.takeEvent n number event).1.directedKept := by
  unfold State.takeEvent
  split
  · exact h
  · split
    · exact h
    · split
      · exact report_directedKept (onContext_directedKept (handEvent_directedKept h n event) _ _) n _
      · exact report_directedKept h n _

theorem ackOrder_directedKept {s : State} (h : s.directedKept) (l : LineNo) (n : Nat) (content : OrderContent) :
    (s.ackOrder l n content).directedKept := by
  cases content with
  | condition _ _ => exact h
  | clock _ => exact h
  | message _ => exact h
  | result held => exact h
  | plate block plate =>
    simp only [State.ackOrder]
    split
    · exact report_directedKept (onContext_directedKept (onLine_directedKept h l) _ _) n _
    · exact onLine_directedKept h l

theorem handFrame_directedKept {s : State} (h : s.directedKept) (l : LineNo) (e : Exchange) (frame : TermFrame) :
    (s.handFrame l e frame).directedKept := by
  cases frame with
  | idle => exact endExchange_directedKept h _ _
  | request number request => exact takeRequest_directedKept (onLine_directedKept h l) _ _ _
  | event number event =>
    exact onLine_directedKept (takeEvent_directedKept h e.terminal number event) l fun _ => Line.answer_directed _ _ _ _
  | ack body =>
    simp only [State.handFrame]
    split
    · exact endExchange_directedKept (ackOrder_directedKept h _ _ _) _ _
    · exact h
  | unknown => exact h

theorem discardFrame_directedKept {s : State} (h : s.directedKept) (l : LineNo) : (s.discardFrame l).directedKept := by
  unfold State.discardFrame
  split
  · exact h
  · exact onLine_directedKept h l

theorem frameDiscarded_directedKept {s : State} (h : s.directedKept) (l : LineNo) : (s.frameDiscarded l).directedKept := by
  unfold State.frameDiscarded
  split
  · exact discardFrame_directedKept h l
  · exact h

theorem received_directedKept {s : State} (h : s.directedKept) (l : LineNo) (drop : Nat) (frame : TermFrame) :
    (s.received l drop frame).directedKept := by
  unfold State.received
  split
  · exact discardFrame_directedKept h l
  · split
    · exact handFrame_directedKept (goodFrame_directedKept h _ _) _ _ _
    · exact rejectFrame_directedKept h _ _ _

theorem receivedRaw_directedKept {s : State} (h : s.directedKept) (l : LineNo) (received : List RxChar) :
    (s.receivedRaw l received).directedKept := by
  unfold State.receivedRaw
  split
  · exact discardFrame_directedKept h l
  · simp only
    split
    · exact rejectFrame_directedKept h _ _ _
    · split
      · exact rejectFrame_directedKept h _ _ _
      · exact received_directedKept h _ _ _

/-! ### The lines -/

theorem sweep_directedKept {s : State} (h : s.directedKept) (l : LineNo) : (s.sweep l).directedKept := by
  have effect (d : Disposition) : (s.sweepEffect l d).directedKept := by
    cases d with
    | none => exact h
    | started => exact chooseIfIdle_directedKept (onLine_directedKept h l) l
    | leg => exact paceEvent_directedKept h l
    | overrun => exact paceEvent_directedKept h l
  exact effect _

theorem lineSet_directedKept {s : State} (h : s.directedKept) (l : LineNo) (settings : LineSettings) :
    (s.lineSet l settings).directedKept := by
  unfold State.lineSet
  split
  · exact h
  · exact reply_directedKept (onLine_directedKept h l) _

theorem pollListPut_directedKept {s : State} (h : s.directedKept) (l : LineNo) (drops : List Nat) :
    (s.pollListPut l drops).directedKept := by
  unfold State.pollListPut
  split
  · exact h
  · exact reply_directedKept (onLine_directedKept h l) _

theorem lineStart_directedKept {s : State} (h : s.directedKept) (l : LineNo) : (s.lineStart l).directedKept := by
  unfold State.lineStart
  split
  · exact h
  · exact choose_directedKept (dropNotices_directedKept (onLine_directedKept h l) _) l

/-- LINE STOP empties the queue (R141). -/
theorem lineStop_directedKept {s : State} (h : s.directedKept) (l : LineNo) : (s.lineStop l).directedKept := by
  unfold State.lineStop
  split
  · exact h
  · refine reply_directedKept (ThinsQueues.directedKept (onLine_thinsQueues (s.oweQueue l) l _ ?_) h) _
    exact List.nil_sublist _

theorem Line.takeTick_directed (L : Line) : L.takeTick.directed = L.directed := by
  unfold Line.takeTick
  split <;> rfl

theorem paceTick_directedKept {s : State} (h : s.directedKept) (l : LineNo) : (s.paceTick l).directedKept := by
  have taken := onLine_directedKept h l Line.takeTick_directed
  unfold State.paceTick
  simp only
  split
  · exact paceEvent_directedKept taken l
  · exact taken

theorem sent_directedKept {s : State} (h : s.directedKept) (l : LineNo) : (s.sent l).directedKept := by
  unfold State.sent
  split
  · split
    · exact onLine_directedKept h l
    · split
      · exact onLine_directedKept h l
      · exact endExchange_directedKept h _ _
      all_goals exact h
  · exact h

theorem windowOver_directedKept {s : State} (h : s.directedKept) (l : LineNo) : (s.windowOver l).directedKept := by
  unfold State.windowOver
  split
  · exact h
  · split
    · exact noReply_directedKept h l _ fun _ => Line.transmit_directed _
    · exact h

theorem serviceLimitOver_directedKept {s : State} (h : s.directedKept) (l : LineNo) :
    (s.serviceLimitOver l).directedKept := by
  unfold State.serviceLimitOver
  split
  · exact h
  · split
    · split
      · exact h
      · exact withdraw_directedKept (onLine_directedKept h l fun _ => Line.answer_directed _ _ _ _) _ _
    · exact h

theorem earliestStart_directedKept {s : State} (h : s.directedKept) (l : LineNo) : (s.earliestStart l).directedKept := by
  unfold State.earliestStart
  split
  · split
    · exact chooseIfIdle_directedKept (onLine_directedKept h l) l
    · exact onLine_directedKept h l
    · exact h
  · exact h

theorem turnaroundOver_directedKept {s : State} (h : s.directedKept) (l : LineNo) : (s.turnaroundOver l).directedKept := by
  unfold State.turnaroundOver
  split
  · exact onLine_directedKept h l fun _ => Line.transmit_directed _
  · exact h

theorem characterBegins_directedKept {s : State} (h : s.directedKept) (l : LineNo) : (s.characterBegins l).directedKept := by
  unfold State.characterBegins
  split
  · exact h
  · split
    · exact onLine_directedKept h l
    · exact h

/-! ### The host's requests on terminals -/

/-- The entries of a terminal that moves or goes leave the queue (R61, R62). -/
theorem without_directedKept {s : State} (h : s.directedKept) (l : LineNo) (n : Nat) :
    (s.onLine l fun L => L.without n).directedKept := (onLine_thinsQueues s l _ List.filter_sublist).directedKept h

theorem createTerminal_directedKept {s : State} (h : s.directedKept) (f : TerminalSet) :
    (s.createTerminal f).directedKept :=
  askOrder_directedKept (askOrder_directedKept (askOrder_directedKept
    (report_directedKept (s := { s with contexts := insertContext _ _ }) h _ _) _ _) _ _) _ _

theorem changeTerminal_directedKept {s : State} (h : s.directedKept) (c : Context) (f : TerminalSet) :
    (s.changeTerminal c f).directedKept := by
  have moved : (if c.line = f.line ∧ c.drop = f.drop then s.onContext c.number fun c => c.replace f
      else (s.onContext c.number fun c => c.replace f).moveTerminal c.number c.line).directedKept := by
    split
    · exact h
    · exact without_directedKept (onContext_directedKept (onContext_directedKept h _ _) _ _) c.line c.number
  unfold State.changeTerminal
  simp only
  generalize (if c.line = f.line ∧ c.drop = f.drop then _ else _ : State) = u at moved ⊢
  have plated : (if c.zone = f.zone then u else u.askOrder c.number .plate).directedKept := by
    split
    · exact moved
    · exact askOrder_directedKept moved _ _
  split
  · exact plated
  · exact act_directedKept plated _ _

theorem terminalSet_directedKept {s : State} (h : s.directedKept) (f : TerminalSet) : (s.terminalSet f).directedKept := by
  unfold State.terminalSet
  split
  · exact h
  · split
    · exact createTerminal_directedKept h f
    · split
      · exact h
      · exact changeTerminal_directedKept h _ f

theorem terminalRemove_directedKept {s : State} (h : s.directedKept) (n : Nat) : (s.terminalRemove n).directedKept := by
  unfold State.terminalRemove
  split
  · exact h
  · rename_i c _
    split
    · exact h
    · exact without_directedKept (s := { s with contexts := s.contexts.filter fun d => d.number != c.number }) h c.line c.number

theorem terminalGet_directedKept {s : State} (h : s.directedKept) (n : Nat) (clear : Bool) :
    (s.terminalGet n clear).directedKept := by
  unfold State.terminalGet
  split
  · exact h
  · cases clear <;> exact h

/-- A MESSAGE joins a queue with room; it is no automatic order (R160, R165). -/
theorem sendMessage_directedKept {s : State} (h : s.directedKept) (c : Context) (text : List Byte) :
    (s.sendMessage c text).directedKept := by
  unfold State.sendMessage
  simp only
  split
  · exact h
  · split
    · exact h
    · rename_i room
      exact chooseIfIdle_directedKept
        (append_directedKept h (Nat.lt_of_not_le room) (Line.message_not_mem_automatic _ _ _)) _

theorem terminalOrder_directedKept {s : State} (h : s.directedKept) (n : Nat) (order : Order) :
    (s.terminalOrder n order).directedKept := by
  have suspended (c : Context) (b : Bool) : (s.setSuspended c b).directedKept := by
    unfold State.setSuspended
    split
    · exact h
    · exact act_directedKept h _ _
  unfold State.terminalOrder
  split
  · exact h
  · split
    · unfold State.endCollection
      split
      · exact h
      · exact collectionEnded_directedKept h _
    · exact suspended _ _
    · exact suspended _ _
    · exact sendMessage_directedKept h _ _

/-! ### The host's other requests -/

theorem noticeTake_directedKept {s : State} (h : s.directedKept) : s.noticeTake.directedKept := by
  unfold State.noticeTake State.emptyReports
  split
  · exact h
  · split <;> exact h

theorem faultClear_directedKept {s : State} (h : s.directedKept) (n : Nat) (named : FaultSet) :
    (s.faultClear n named).directedKept := by
  unfold State.faultClear
  split
  · exact h
  · exact act_directedKept h _ _

theorem setDefaults_directedKept {s : State} (h : s.directedKept) (t : Thresholds) : (s.setDefaults t).directedKept :=
  foldl_directedKept (fun h _ => act_directedKept h _ _) _ (s := { s with defaults := t }) h

theorem overrideSet_directedKept {s : State} (h : s.directedKept) (n : Nat) (t : Thresholds) :
    (s.overrideSet n t).directedKept := by
  unfold State.overrideSet State.owned
  split
  · exact h
  · split
    · exact h
    · exact act_directedKept h _ _

theorem overrideDrop_directedKept {s : State} (h : s.directedKept) (n : Nat) : (s.overrideDrop n).directedKept := by
  unfold State.overrideDrop
  split
  · exact h
  · split
    · exact h
    · exact act_directedKept h _ _

theorem switchNow_directedKept {s : State} (h : s.directedKept) : s.switchNow.directedKept := by
  unfold State.switchNow
  split
  · exact switchover_directedKept h
  · exact h

/-! ### Every command -/

theorem acceptFrame_directedKept {s : State} (h : s.directedKept) (tag kind : Byte) {take : State → State}
    (takes : ∀ {u : State}, u.directedKept → (take u).directedKept) : (s.acceptFrame tag kind take).directedKept := by
  unfold State.acceptFrame
  split
  · simp only
    split
    · exact h
    · exact takes h
  · exact h

theorem request_directedKept {α : Type} {tag : Byte} {kind : Nat} {read : State → Except Nat α} {act : α → State → State}
    {s : State} (h : s.directedKept) (acts : ∀ a (u : State), u.directedKept → (act a u).directedKept) :
    (s.request tag kind read act).directedKept :=
  acceptFrame_directedKept h _ _ fun {u} hu => by
    unfold State.owned
    split
    · exact hu
    · exact acts _ u hu

theorem working_directedKept {act : State → State} {s : State} (h : s.directedKept)
    (acts : ∀ {u : State}, u.directedKept → (act u).directedKept) : (s.working act).directedKept := by
  unfold State.working
  split
  · exact acts h
  · exact h

theorem ifOpen_directedKept {s : State} (h : s.directedKept) (f : Link → Link) : (s.ifOpen f).directedKept := by
  unfold State.ifOpen
  split <;> exact h

/-- What a command leaves is the state it answers. -/
theorem next_directedKept {u t : State} (e : Host.Outcome.next u = (.next t : Host.Outcome State Fault Refusal))
    (h : u.directedKept) : t.directedKept := by
  cases e
  exact h

/-- Every command keeps the invariant: a case for each, those of the requests that change no line by their branches. -/
theorem exec_directedKept (i : Instr) {s t : State} (h : s.directedKept) (e : exec i s = .next t) : t.directedKept := by
  cases i
  case clockSet => exact next_directedKept e (request_directedKept h fun _ _ hu => clockSet_directedKept hu _)
  case clockGet | calendarList | tariffGet | bankCopy | referralSet | referralList | liftList | thresholdDefaultGet
      | lineGet | pollListGet | partStatus | restart =>
    exact next_directedKept e (request_directedKept h fun _ _ hu => hu)
  case calendarPut =>
    exact next_directedKept e (request_directedKept h fun _ _ hu => by unfold State.calendarPut; split <;> exact hu)
  case calendarDrop =>
    exact next_directedKept e (request_directedKept h fun _ _ hu => by unfold State.calendarDrop; split <;> exact hu)
  case tariffPut =>
    exact next_directedKept e (request_directedKept h fun _ _ hu => by unfold State.tariffPut; split <;> exact hu)
  case tariffDrop =>
    exact next_directedKept e (request_directedKept h fun _ _ hu => by
      unfold State.tariffDrop; split <;> [exact hu; (split <;> exact hu)])
  case switchAt =>
    exact next_directedKept e (request_directedKept h fun _ _ hu => by
      unfold State.switchAt; split <;> [exact hu; (split <;> exact hu)])
  case switchNow => exact next_directedKept e (request_directedKept h fun _ _ hu => switchNow_directedKept hu)
  case switchCancel =>
    exact next_directedKept e (request_directedKept h fun _ _ hu => by unfold State.switchCancel; split <;> exact hu)
  case fareTrial => exact next_directedKept e (request_directedKept h fun _ _ hu => placeFare_directedKept hu _)
  case terminalSet => exact next_directedKept e (request_directedKept h fun _ _ hu => terminalSet_directedKept hu _)
  case terminalRemove => exact next_directedKept e (request_directedKept h fun _ _ hu => terminalRemove_directedKept hu _)
  case terminalGet => exact next_directedKept e (request_directedKept h fun _ _ hu => terminalGet_directedKept hu _ _)
  case endCollection | suspend | resume | message =>
    exact next_directedKept e (request_directedKept h fun _ _ hu => terminalOrder_directedKept hu _ _)
  case permitLoad | permitChange | permitDrop | permitGet | permitScan | referralAnswer =>
    exact next_directedKept e (request_directedKept h fun _ _ hu => placeOp_directedKept hu _)
  case countEnter =>
    exact next_directedKept e (request_directedKept h fun _ _ hu => by unfold State.countEnter; split <;> exact hu)
  case roundOpen =>
    exact next_directedKept e (request_directedKept h fun _ _ hu => by
      unfold State.roundOpen; split <;> [exact hu; (split <;> [exact hu; (split <;> exact hu)])])
  case roundBuild =>
    exact next_directedKept e (request_directedKept h fun _ _ hu => by
      unfold State.roundBuild; split <;> [exact hu; (split <;> exact hu)])
  case roundClose =>
    exact next_directedKept e (request_directedKept h fun _ _ hu => by
      unfold State.roundClose; split <;> [exact hu; (split <;> exact hu)])
  case roundGet =>
    exact next_directedKept e (request_directedKept h fun _ _ hu => by unfold State.roundGet; split <;> exact hu)
  case faultClear => exact next_directedKept e (request_directedKept h fun _ _ hu => faultClear_directedKept hu _ _)
  case thresholdDefaultSet => exact next_directedKept e (request_directedKept h fun _ _ hu => setDefaults_directedKept hu _)
  case thresholdOverrideSet =>
    exact next_directedKept e (request_directedKept h fun _ _ hu => overrideSet_directedKept hu _ _)
  case thresholdOverrideDrop =>
    exact next_directedKept e (request_directedKept h fun _ _ hu => overrideDrop_directedKept hu _)
  case lineSet => exact next_directedKept e (request_directedKept h fun _ _ hu => lineSet_directedKept hu _ _)
  case lineStart => exact next_directedKept e (request_directedKept h fun _ _ hu => lineStart_directedKept hu _)
  case lineStop => exact next_directedKept e (request_directedKept h fun _ _ hu => lineStop_directedKept hu _)
  case pollListPut => exact next_directedKept e (request_directedKept h fun _ _ hu => pollListPut_directedKept hu _ _)
  case sweep => exact next_directedKept e (request_directedKept h fun _ _ hu => sweep_directedKept hu _)
  case noticeTake => exact next_directedKept e (request_directedKept h fun _ _ hu => noticeTake_directedKept hu)
  case quote | sale | session | cancel | doorOpen | doorClosed | boxReplaced | paperOut | paperLoaded |
      printerFault | printFailed | printerOk | coinPathFault | coinPathOk | idle | ack =>
    exact next_directedKept e (working_directedKept h fun hu => received_directedKept hu _ _ _)
  case paceTick => exact next_directedKept e (working_directedKept h fun hu => paceTick_directedKept hu _)
  case computationComplete => exact next_directedKept e (working_directedKept h computationComplete_directedKept)
  case lookupComplete => exact next_directedKept e (working_directedKept h completeLookup_directedKept)
  case recordInsertion => exact next_directedKept e (working_directedKept h insertStep_directedKept)
  case permitOperationComplete => exact next_directedKept e (working_directedKept h completeOp_directedKept)
  case referralDeadlineExpiry =>
    exact next_directedKept e (working_directedKept h fun hu => expireReferral_directedKept hu _)
  case rejectedFrame => exact next_directedKept e (working_directedKept h fun hu => receivedRaw_directedKept hu _ _)
  case frameTransmissionComplete => exact next_directedKept e (working_directedKept h fun hu => sent_directedKept hu _)
  case turnaroundExpiry => exact next_directedKept e (working_directedKept h fun hu => turnaroundOver_directedKept hu _)
  case responseWindowExpiry => exact next_directedKept e (working_directedKept h fun hu => windowOver_directedKept hu _)
  case serviceLimitExpiry =>
    exact next_directedKept e (working_directedKept h fun hu => serviceLimitOver_directedKept hu _)
  case lineFrameDiscarded => exact next_directedKept e (working_directedKept h fun hu => frameDiscarded_directedKept hu _)
  case earliestStartReached => exact next_directedKept e (working_directedKept h fun hu => earliestStart_directedKept hu _)
  case characterBeginsToArrive =>
    exact next_directedKept e (working_directedKept h fun hu => characterBegins_directedKept hu _)
  case startComplete =>
    exact next_directedKept e (working_directedKept h fun hu => by unfold State.startComplete; split <;> exact hu)
  case replyTransmissionComplete => exact next_directedKept e (working_directedKept h id)
  case linkFrameDiscarded | frameLimitExpiry | frameMarkerReceived => exact next_directedKept e (ifOpen_directedKept h _)
  case unknownKind =>
    exact next_directedKept e (by split <;> [exact h; exact acceptFrame_directedKept h _ _ fun hu => hu])
  case overlap tag kind =>
    refine next_directedKept e ?_
    unfold State.overlapped
    split
    · exact h
    · exact acceptFrame_directedKept h _ _ fun hu => hu
  case secondsEvent => exact next_directedKept e (secondsEvent_directedKept h)
  case coldStart => exact next_directedKept e (coldStart_directedKept s)
  case powerStart =>
    exact next_directedKept e (by split <;> [exact powerStart_directedKept h; exact coldStart_directedKept s])
  case warmStart =>
    exact next_directedKept e (working_directedKept h fun hu => reportChanged_directedKept (restarted_directedKept hu .warm) _)
  case mainSupplyLoss => exact next_directedKept e h
  case retentionSupplyLoss => exact next_directedKept e (by split <;> exact h)

/-- Settles O4: a command takes entries off queues, or appends one that has a place and no like; an idle step changes nothing. -/
theorem directedQueuesStayBounded : Obligations.DirectedQueuesStayBounded := by
  intro s t h e
  unfold step at e
  split at e
  · exact next_directedKept e h
  · rename_i command rest _
    exact exec_directedKept command (s := { s with pending := rest }) h e

end Sys2Proof.Machine
end

section
/-! MESSAGE (O30): the body is read, the tests of R165 are made, and the entry joins the directed queue as its newest; an IDLE line
that has nothing else queued takes it at once (R161, R163). -/

namespace Sys2Proof.Machine

open Sys2Proof

/-- A MESSAGE's body is read as its terminal and its text (R165, R185). -/
theorem readOrder_message {n : Nat} (hn : n ≤ 127) {text : List Byte} (short : 1 ≤ text.length) (long : text.length ≤ 40)
    (printable : ∀ b ∈ text, 32 ≤ b.toNat ∧ b.toNat ≤ 126) :
    readOrder (byte n :: 4 :: text) = .ok (n, .message text) := by
  have terminal : number (byte n :: 4 :: text) 0 1 = n :=
    (number_byte [] (4 :: text) (byte n)).trans (Nat.mod_eq_of_lt (by omega))
  have order : number (byte n :: 4 :: text) 1 1 = 4 := number_byte [byte n] text 4
  have characters : text.all textByte = true :=
    List.all_eq_true.mpr fun b hb => by simpa [textByte, within] using printable b hb
  simp only [readOrder, terminal, order]
  simp [checked, firstBad, within, hn, short, long, characters]

/-! ### The tests (R165) -/

theorem sendMessage_halted {s : State} {c : Context} (text : List Byte)
    (stays : c.faults.silent = true ∨ (s.line c.line).halted = true) : s.sendMessage c text = s.reply .state :=
  if_pos (Bool.or_eq_true_iff.mpr stays)

section Taken
variable {s : State} {c : Context} (text : List Byte) (heard : c.faults.silent = false)
  (used : (s.line c.line).halted = false)
include heard used

theorem sendMessage_full (full : Config.directedCapacity ≤ (s.line c.line).directed.length) :
    s.sendMessage c text = s.reply .full := by
  simp [State.sendMessage, heard, used, full]

theorem sendMessage_joins (room : (s.line c.line).directed.length < Config.directedCapacity) :
    s.sendMessage c text =
      ((s.onLine c.line fun L =>
        { L with directed := L.directed ++ [{ terminal := c.number, kind := .message text }] }).chooseIfIdle
          c.line).done .plain := by
  simp [State.sendMessage, heard, used, Nat.not_le_of_lt room]

end Taken

/-- A MESSAGE alone in the queue of an IDLE line without a chain is taken at once (R163). -/
theorem chooseIfIdle_message {s : State} {l : LineNo} {n : Nat} {c : Context} (hc : s.context n = some c) (text : List Byte)
    (idle : (s.line l).state = .idle) (queue : (s.line l).directed = []) (chain : (s.line l).chain = none) :
    (s.onLine l fun L => { L with directed := L.directed ++ [{ terminal := n, kind := .message text }] }).chooseIfIdle l =
      s.onLine l fun L =>
        { L with
          state := .awaitReply, exchange := some (L.opening c (.order (.message text)))
          driving := L.driving || !L.turnaround } := by
  have joined : ((s.line l).directed ++ [({ terminal := n, kind := .message text } : Directed)]) =
      { terminal := n, kind := .message text } :: [] := by rw [queue]; rfl
  obtain ⟨frame, rfl, begun⟩ := choose_directs (s := s) (l := l)
    (L := { s.line l with directed := (s.line l).directed ++ [{ terminal := n, kind := .message text }] })
    (Line.unchained_of_none chain) joined hc
  rw [chooseIfIdle_idle (by rw [State.line_onLine, if_pos rfl]; exact idle), State.onLine_eq_withLine, begun,
    State.onLine_eq_withLine, Line.directing, ← queue]
  rfl

/-- Settles O30: the body is read, and each test of R165 that stands is the one that refuses; past them the entry joins its
queue, which an IDLE line then looks at. -/
theorem messageIsQueued : Obligations.MessageIsQueued := by
  intro s tag n text ready hn short long printable
  have taken : exec (.message tag (byte n :: 4 :: text)) s = .next ((s.accepted tag 17).terminalOrder n (.message text)) :=
    congrArg Host.Outcome.next (State.request_ok ready (readOrder_message hn short long printable) tag 17 _)
  rw [taken]
  refine ⟨fun absent => ?_, fun c hc => ?_⟩
  · simp only [State.terminalOrder, State.accepted_context, absent, State.accepted_reply]
  · obtain rfl := State.context_number hc
    have own : (s.accepted tag 17).terminalOrder c.number (.message text) = (s.accepted tag 17).sendMessage c text := by
      simp only [State.terminalOrder, State.accepted_context, hc]
    rw [own]
    refine ⟨fun stays => ?_, fun heard used full => ?_, fun heard used room busy => ?_, fun heard idle queue chain => ?_⟩
    · rw [sendMessage_halted text (by exact stays), State.accepted_reply]
    · rw [sendMessage_full text heard (by exact used) (by exact full), State.accepted_reply]
    · rw [sendMessage_joins text heard (by exact used) (by exact room),
        chooseIfIdle_busy (by rw [State.line_onLine, if_pos rfl]; exact busy)]
      rfl
    · have used : (s.line c.line).halted = false := by rw [Line.halted, idle]; rfl
      have room : (s.line c.line).directed.length < Config.directedCapacity := by rw [queue]; decide
      rw [sendMessage_joins text heard (by exact used) (by exact room),
        chooseIfIdle_message (s := s.accepted tag 17) hc text idle queue chain]
      rfl

end Sys2Proof.Machine
end

section
/-! The invariant of O2 (R174): ATTENTION is high exactly while the Notice Queue holds an entry. The queue changes in one place,
`State.setNotices`, which sets ATTENTION with it whatever either was before; an operation either ends there, or leaves both alone,
or is made of operations that do. -/

namespace Sys2Proof.Machine

open Sys2Proof

/-! ### Where the queue changes (R173, R174, R176) -/

theorem setNotices_attentionFollows (s : State) (queue : List Notice) : (s.setNotices queue).attentionFollows := rfl

theorem notice_attentionFollows (s : State) (kind : NoticeKind) : (s.notice kind).attentionFollows :=
  setNotices_attentionFollows s _

theorem dropNotices_attentionFollows (s : State) (gone : NoticeKind → Bool) : (s.dropNotices gone).attentionFollows :=
  setNotices_attentionFollows s _

theorem deleteTerminal_attentionFollows (s : State) (c : Context) : (s.deleteTerminal c).attentionFollows :=
  dropNotices_attentionFollows _ _

theorem switchover_attentionFollows (s : State) : s.switchover.attentionFollows := notice_attentionFollows _ _

theorem emptied_attentionFollows (s : State) : s.emptied.attentionFollows := setNotices_attentionFollows _ _

/-- A COLD start has an empty queue and ATTENTION low (R180). -/
theorem coldStart_attentionFollows (s : State) : s.coldStart.attentionFollows := rfl

theorem foldl_attentionFollows {op : State → Nat → State}
    (keeps : ∀ {s : State}, s.attentionFollows → ∀ n, (op s n).attentionFollows) (numbers : List Nat) {s : State}
    (h : s.attentionFollows) : (numbers.foldl op s).attentionFollows := by
  induction numbers generalizing s with
  | nil => exact h
  | cons n rest ih => exact ih (keeps h n)

section Keeps
variable {s : State} (h : s.attentionFollows)
include h

/-- A terminal's entry joins the queue when its report set was empty (R76). -/
theorem report_attentionFollows (n : Nat) (add : ReportSet → ReportSet) : (s.report n add).attentionFollows := by
  unfold State.report
  split
  · exact h
  · simp only
    split
    · exact setNotices_attentionFollows _ _
    · exact h

/-- The oldest entry is taken (R175): emptying its terminal's reports leaves the queue alone. -/
theorem noticeTake_attentionFollows : s.noticeTake.attentionFollows := by
  unfold State.noticeTake
  split
  · exact h
  · rename_i e rest _
    have taken := setNotices_attentionFollows s rest
    show ((s.setNotices rest).emptyReports e.kind).attentionFollows
    cases e.kind <;> exact taken

/-! ### Operations on a line (R145, R155 to R163) -/

theorem beginDirected_attentionFollows (l : LineNo) (c : Context) (kind : OrderKind) :
    (s.beginDirected l c kind).attentionFollows := by
  cases kind <;> exact h

theorem entryEnded_attentionFollows (l : LineNo) : (s.entryEnded l).attentionFollows := by
  unfold State.entryEnded
  simp only
  split
  · exact notice_attentionFollows _ _
  · exact h

/-- A choice notes a SWEEP COMPLETE at most. -/
theorem chooseWith_attentionFollows (fuel : Nat) (l : LineNo) : (s.chooseWith fuel l).attentionFollows := by
  induction fuel generalizing s with
  | zero => exact h
  | succ fuel ih =>
    unfold State.chooseWith
    simp only
    split
    · split
      · exact h
      · exact ih (s := s.onLine l _) h
    · split
      · split
        · exact beginDirected_attentionFollows (s := s.onLine l _) h _ _ _
        · exact ih (s := s.onLine l _) h
      · split
        · split
          · split
            · exact ih (notice_attentionFollows _ _)
            · exact h
          · have passed := ih (entryEnded_attentionFollows (s := s.onLine l fun L => L.takeEntry s.elapsed) h l)
            split
            · exact passed
            · split
              · exact passed
              · exact h
        · exact h

theorem choose_attentionFollows (l : LineNo) : (s.choose l).attentionFollows := chooseWith_attentionFollows h _ l

theorem chooseIfIdle_attentionFollows (l : LineNo) : (s.chooseIfIdle l).attentionFollows := by
  unfold State.chooseIfIdle
  split
  · exact choose_attentionFollows h l
  · exact h

theorem paceEvent_attentionFollows (l : LineNo) : (s.paceEvent l).attentionFollows := by
  unfold State.paceEvent
  split
  · exact chooseIfIdle_attentionFollows (s := s.onLine l _) h l
  · exact notice_attentionFollows _ _

theorem handAnswer_attentionFollows (n request : Nat) (answer : Answer) : (s.handAnswer n request answer).attentionFollows := by
  unfold State.handAnswer
  split
  · exact h
  · split
    · exact h
    · split <;> exact h

theorem finish_attentionFollows (n request : Nat) (answer : Answer) : (s.finish n request answer).attentionFollows :=
  handAnswer_attentionFollows (s := s.onContext n _) h _ _ _

/-! ### Orders and acts (R72, R134, R160 to R162) -/

theorem askOrder_attentionFollows (n : Nat) (kind : OrderKind) : (s.askOrder n kind).attentionFollows := by
  unfold State.askOrder
  split
  · exact h
  · rename_i c _
    simp only
    split
    · exact h
    · split
      · exact h
      · split
        · exact h
        · split
          · exact h
          · split
            · exact h
            · exact chooseIfIdle_attentionFollows (s := s.onLine c.line _) h _

theorem askAll_attentionFollows (kind : OrderKind) : (s.askAll kind).attentionFollows :=
  foldl_attentionFollows (fun h n => askOrder_attentionFollows h n kind) _ h

theorem queueOwedKind_attentionFollows (n : Nat) (kind : OrderKind) : (s.queueOwedKind n kind).attentionFollows := by
  unfold State.queueOwedKind
  split
  · exact h
  · simp only
    split
    · split
      · exact h
      · split <;> exact h
    · exact h

theorem queueOwed_attentionFollows (n : Nat) : (s.queueOwed n).attentionFollows :=
  queueOwedKind_attentionFollows (queueOwedKind_attentionFollows (queueOwedKind_attentionFollows
    (queueOwedKind_attentionFollows h n _) n _) n _) n _

/-- An act reports the change of condition it makes (R134). -/
theorem act_attentionFollows (n : Nat) (f : Context → Context) : (s.act n f).attentionFollows := by
  unfold State.act
  simp only
  split
  · exact h
  · exact askOrder_attentionFollows (report_attentionFollows (s := s.onContext n f) h n _) n _

theorem hold_attentionFollows (n : Nat) (held : HeldResult) : (s.hold n held).attentionFollows :=
  askOrder_attentionFollows (s := s.onContext n _) h n _

/-! ### The end of an exchange (R141, R146, R150) -/

theorem endExchange_attentionFollows (l : LineNo) (goodPoll : Option Nat) : (s.endExchange l goodPoll).attentionFollows := by
  unfold State.endExchange
  simp only
  split
  · split <;> exact h
  · refine choose_attentionFollows (entryEnded_attentionFollows ?_ l) l
    split
    · exact queueOwed_attentionFollows (s := s.onLine l _) h _
    · exact h

theorem failedFrame_attentionFollows (l : LineNo) (e : Exchange) : (s.failedFrame l e).attentionFollows := by
  unfold State.failedFrame
  split <;> exact h

theorem noReply_attentionFollows (l : LineNo) (e : Exchange) (again : Line → Line) :
    (s.noReply l e again).attentionFollows := by
  unfold State.noReply
  split
  · exact h
  · exact endExchange_attentionFollows
      (failedFrame_attentionFollows (act_attentionFollows (s := s.onContext e.terminal _) h _ _) l e) l none

theorem rejectFrame_attentionFollows (l : LineNo) (e : Exchange) (count : ErrorCounters → ErrorCounters) :
    (s.rejectFrame l e count).attentionFollows :=
  noReply_attentionFollows (s := (s.onLine l _).onContext e.terminal _) h l e _

theorem goodFrame_attentionFollows (l : LineNo) (n : Nat) : (s.goodFrame l n).attentionFollows :=
  act_attentionFollows (s := s.onLine l _) h n _

theorem placeFare_attentionFollows (e : FareEntry) : (s.placeFare e).attentionFollows := by
  rw [placeFare_eq]
  exact h

/-! ### Clock and starts (R5, R25, R178, R180) -/

theorem presentMinute_attentionFollows : s.presentMinute.attentionFollows := by
  unfold State.presentMinute
  split
  · exact h
  · split
    · exact h
    · exact switchover_attentionFollows s

theorem secondsEvent_attentionFollows : s.secondsEvent.attentionFollows := by
  have ticked : s.scanAlong.tick.attentionFollows := h
  unfold State.secondsEvent
  split
  · simp only
    split
    · exact presentMinute_attentionFollows ticked
    · exact ticked
  · split <;> exact h

theorem clockSet_attentionFollows (t : Instant) : (s.clockSet t).attentionFollows :=
  askAll_attentionFollows (presentMinute_attentionFollows (s := s.timeSet t) h) .clock

theorem reportChanged_attentionFollows (before : State) : (s.reportChanged before).attentionFollows :=
  foldl_reportCondition_attentionFollows _ h

omit h in
/-- A POWER start empties the queue before it reports, whatever ATTENTION was (R180). -/
theorem powerStart_attentionFollows (s : State) : s.powerStart.attentionFollows := by
  have up := reportChanged_attentionFollows (emptied_attentionFollows (s.restarted .power)) s
  unfold State.powerStart
  simp only
  split
  · exact presentMinute_attentionFollows up
  · exact up

theorem warmStart_attentionFollows : s.warmStart.attentionFollows :=
  reportChanged_attentionFollows (s := s.restarted .warm) h s

/-! ### The Permit Table (R79 to R100) -/

theorem dropReferral_attentionFollows (r : Referral) : (s.dropReferral r).attentionFollows := h

theorem refuseReferral_attentionFollows (r : Referral) (reason : Reason) : (s.refuseReferral r reason).attentionFollows :=
  hold_attentionFollows h _ _

theorem refer_attentionFollows (l : Lookup) : (s.refer l).attentionFollows := by
  unfold State.refer
  split
  · exact finish_attentionFollows h _ _ _
  · exact notice_attentionFollows _ _

theorem lookupChecks_attentionFollows (l : Lookup) : (s.lookupChecks l).attentionFollows := by
  have refused (reason : Reason) := finish_attentionFollows h l.terminal l.request (.refused reason)
  unfold State.lookupChecks
  simp only
  split
  · exact refused _
  · split
    · exact refused _
    · split
      · split
        · exact refer_attentionFollows h l
        · exact refused _
      · split
        · exact refused _
        · exact placeFare_attentionFollows (s := s.onPermit _ _) h _

theorem beginAnswer_attentionFollows (number : Nat) (decision : Decision) :
    (s.beginAnswer number decision).attentionFollows := by
  unfold State.beginAnswer
  split
  · exact h
  · split
    · exact h
    · split
      · exact refuseReferral_attentionFollows (s := s.recordDecision _ _) h _ _
      · unfold State.grantOnce
        split
        · exact h
        · exact placeFare_attentionFollows (s := s.recordDecision _ _) h _
      · split <;> exact h

theorem beginOp_attentionFollows (op : PermitOp) : (s.beginOp op).attentionFollows := by
  cases op with
  | lookup l => exact h
  | load records => unfold State.beginOp; simp only; split <;> exact h
  | change c =>
    unfold State.beginOp State.beginChange
    simp only
    split
    · exact h
    · split <;> exact h
  | drop number => unfold State.beginOp; simp only; split <;> exact h
  | get number => unfold State.beginOp; simp only; split <;> exact h
  | scan first count => exact h
  | answer referral decision => exact beginAnswer_attentionFollows h referral decision

theorem placeOp_attentionFollows (op : PermitOp) : (s.placeOp op).attentionFollows := by
  unfold State.placeOp
  split
  · exact beginOp_attentionFollows h op
  · exact h

theorem nextOp_attentionFollows : s.nextOp.attentionFollows := by
  unfold State.nextOp
  split
  · exact h
  · exact beginOp_attentionFollows (s := s.onPermits _) h _

theorem loadRecord_attentionFollows (f : PermitFields) : (s.loadRecord f).attentionFollows := by
  unfold State.loadRecord
  split <;> exact h

theorem loadAll_attentionFollows (records : List PermitFields) (inserted replaced : Nat) :
    (s.loadAll records inserted replaced).1.attentionFollows := by
  induction records generalizing s inserted replaced with
  | nil => exact h
  | cons f rest ih =>
    unfold State.loadAll
    split <;> exact ih (loadRecord_attentionFollows h f) _ _

theorem grantChecks_attentionFollows (number : Nat) (record : PermitFields) :
    (s.grantChecks number record).attentionFollows := by
  unfold State.grantChecks
  split
  · exact h
  · split
    · split
      · exact refuseReferral_attentionFollows h _ _
      · exact placeFare_attentionFollows (s := s.onPermit _ _) h _
    · exact h

theorem completeOp_attentionFollows : s.completeOp.attentionFollows := by
  unfold State.completeOp
  split
  · exact h
  · exact h
  · exact nextOp_attentionFollows (s := s.reply _) h
  · exact nextOp_attentionFollows (s := s.completeScan _ _) h
  · exact nextOp_attentionFollows (s := State.done _ _) (loadAll_attentionFollows h _ _ _)
  · refine nextOp_attentionFollows (s := State.done _ _) (grantChecks_attentionFollows ?_ _ _)
    split
    · exact h
    · exact loadRecord_attentionFollows h _

theorem insertStep_attentionFollows : s.insertStep.attentionFollows := by
  unfold State.insertStep
  split
  · split <;> exact loadRecord_attentionFollows h _
  · exact loadRecord_attentionFollows h _
  · exact h

theorem completeLookup_attentionFollows : s.completeLookup.attentionFollows := by
  unfold State.completeLookup
  split
  · refine nextOp_attentionFollows ?_
    split
    · exact h
    · exact lookupChecks_attentionFollows h _
  · exact h

theorem expireReferral_attentionFollows (number : Nat) : (s.expireReferral number).attentionFollows := by
  unfold State.expireReferral
  split
  · exact h
  · split
    · exact h
    · exact refuseReferral_attentionFollows h _ _

/-! ### Results and withdrawals (R36, R50, R67 to R73) -/

theorem commitSession_attentionFollows (c : Context) (r : FareResult) (f : Figures) (once : Bool) :
    (s.commitSession c r f once).attentionFollows := by
  have charged : (s.charged c r f once).attentionFollows := by
    unfold State.charged
    split <;> exact h
  exact act_attentionFollows charged c.number _

theorem takeSession_attentionFollows (c : Context) (flight : InFlight) (r : FareResult) (version : Nat) (walk : Walk) :
    (s.takeSession c flight r version walk).attentionFollows := by
  unfold State.takeSession
  split
  · exact finish_attentionFollows h _ _ _
  · exact finish_attentionFollows (s := State.onContext _ _ _) (commitSession_attentionFollows h c r _ false) _ _ _

theorem takeSale_attentionFollows (c : Context) (flight : InFlight) (coins : Coins) (quoteVersion : Option Nat)
    (r : FareResult) (version : Nat) (walk : Walk) :
    (s.takeSale c flight coins quoteVersion r version walk).attentionFollows := by
  unfold State.takeSale
  split
  · split
    · exact finish_attentionFollows h _ _ _
    · exact finish_attentionFollows (s := State.onContext _ _ _) (act_attentionFollows h _ _) _ _ _
  · split
    · exact finish_attentionFollows h _ _ _
    · exact h

theorem takeTerminal_attentionFollows (n request : Nat) (r : FareResult) :
    (s.takeTerminal n request r).attentionFollows := by
  unfold State.takeTerminal
  split
  · exact h
  · split
    · exact h
    · split
      · exact h
      · split
        · split
          · exact finish_attentionFollows h _ _ _
          · exact takeSale_attentionFollows h _ _ _ _ _ _ _
          · exact takeSession_attentionFollows h _ _ _ _ _
        · exact h

theorem takeClaimed_attentionFollows (n request : Nat) (r : FareResult) : (s.takeClaimed n request r).attentionFollows :=
  takeTerminal_attentionFollows (s := s.scanAlong) h n request r

theorem takeReferral_attentionFollows (number : Nat) (r : FareResult) (version : Nat) (walk : Walk) :
    (s.takeReferral number r version walk).attentionFollows := by
  unfold State.takeReferral
  split
  · exact h
  · refine dropReferral_attentionFollows (s := State.clearClaim _ _) ?_ _
    split
    · exact h
    · split
      · exact hold_attentionFollows h _ _
      · exact hold_attentionFollows (commitSession_attentionFollows h _ _ _ _) _ _

theorem computationComplete_attentionFollows : s.computationComplete.attentionFollows := by
  have delivered (r : FareResult) : (s.deliver r).attentionFollows := by
    unfold State.deliver
    split
    · split
      · exact takeClaimed_attentionFollows h _ _ _
      · exact takeTerminal_attentionFollows h _ _ _
    · exact takeReferral_attentionFollows (s := s.scanAlong) h _ _ _ _
    · exact h
    · exact h
  unfold State.computationComplete
  split
  · exact h
  · rename_i k _
    obtain ⟨fare, served⟩ := serveFare_eq (s.deliver k.result)
    rw [served]
    exact delivered k.result

theorem withdrawFare_attentionFollows (n request : Nat) : (s.withdrawFare n request).attentionFollows := by
  unfold State.withdrawFare
  split
  · exact takeTerminal_attentionFollows (s := s.unqueueFare n request) h _ _ _
  · exact h

theorem withdrawWalk_attentionFollows (n request : Nat) : (s.withdrawWalk n request).attentionFollows := by
  unfold State.withdrawWalk
  split
  · exact takeClaimed_attentionFollows (s := s.unqueueFare n request) h _ _ _
  · exact h

theorem withdrawSession_attentionFollows (n request : Nat) : (s.withdrawSession n request).attentionFollows := by
  unfold State.withdrawSession
  split
  · exact h
  · split
    · split
      · exact h
      · exact withdrawWalk_attentionFollows h n request
    · exact withdrawWalk_attentionFollows h n request

theorem withdraw_attentionFollows (n request : Nat) : (s.withdraw n request).attentionFollows := by
  unfold State.withdraw
  split
  · exact h
  · split
    · simp only
      split
      · exact withdrawSession_attentionFollows (s := s.onContext n _) h n request
      · exact withdrawFare_attentionFollows (s := s.onContext n _) h n request
      · exact withdrawFare_attentionFollows (s := s.onContext n _) h n request
    · exact h

/-! ### What a terminal sends (R64 to R66, R74, R75, R144 to R150) -/

theorem cancelRequest_attentionFollows (n request : Nat) : (s.cancelRequest n request).attentionFollows := by
  unfold State.cancelRequest
  split
  · exact handAnswer_attentionFollows (s := s.dropReferral _) h _ _ _
  · exact handAnswer_attentionFollows h _ _ _

theorem implicitCancel_attentionFollows (n : Nat) : (s.implicitCancel n).attentionFollows := by
  unfold State.implicitCancel
  split <;> exact h

theorem serveRequest_attentionFollows (c : Context) (number : Nat) (request : TermRequest) :
    (s.serveRequest c number request).attentionFollows := by
  have flies (kind : FlightKind) : (s.setInFlight c.number kind number).attentionFollows := h
  cases request with
  | quote amount => exact placeFare_attentionFollows (flies _) _
  | sale coins version =>
    simp only [State.serveRequest]
    split
    · exact handAnswer_attentionFollows h _ _ _
    · exact placeFare_attentionFollows (flies _) _
  | session permit minutes =>
    simp only [State.serveRequest]
    split
    · exact handAnswer_attentionFollows h _ _ _
    · exact placeOp_attentionFollows (flies _) _
  | cancel => exact cancelRequest_attentionFollows h _ _

theorem takeRequest_attentionFollows (n number : Nat) (request : Option TermRequest) :
    (s.takeRequest n number request).attentionFollows := by
  have answered (answer : Answer) := handAnswer_attentionFollows h n number answer
  unfold State.takeRequest
  split
  · exact h
  · split
    · exact answered _
    · split
      · exact answered _
      · split
        · exact cancelRequest_attentionFollows h _ _
        · split
          · exact serveRequest_attentionFollows h _ _ _
          · split
            · exact answered _
            · exact serveRequest_attentionFollows (implicitCancel_attentionFollows h n) _ _ _

theorem doorOpened_attentionFollows (n : Nat) (code : Option Nat) : (s.doorOpened n code).attentionFollows := by
  unfold State.doorOpened
  simp only
  split
  · exact act_attentionFollows h n _
  · split
    · exact act_attentionFollows (s := s.onCash _) h n _
    · exact act_attentionFollows h n _

theorem boxLifted_attentionFollows (n : Nat) : (s.boxLifted n).attentionFollows := by
  unfold State.boxLifted
  split
  · exact h
  · refine act_attentionFollows ?_ n _
    split <;> exact h

theorem lookAtRound_attentionFollows (number : Nat) : (s.lookAtRound number).attentionFollows := by
  unfold State.lookAtRound
  split
  · exact h
  · split
    · exact notice_attentionFollows _ _
    · exact h

theorem collectionEnded_attentionFollows (n : Nat) : (s.collectionEnded n).attentionFollows := by
  unfold State.collectionEnded
  split
  · exact h
  · split
    · exact h
    · exact lookAtRound_attentionFollows (act_attentionFollows h n _) _

theorem handEvent_attentionFollows (n : Nat) (event : Event) : (s.handEvent n event).attentionFollows := by
  cases event
  case doorOpen code => exact doorOpened_attentionFollows h n code
  case doorClosed => exact collectionEnded_attentionFollows h n
  case boxReplaced => exact boxLifted_attentionFollows h n
  all_goals exact act_attentionFollows h n _

theorem takeEvent_attentionFollows (n number : Nat) (event : Event) : (s.takeEvent n number event).1.attentionFollows := by
  unfold State.takeEvent
  split
  · exact h
  · split
    · exact h
    · split
      · exact report_attentionFollows (s := State.onContext _ _ _) (handEvent_attentionFollows h n event) n _
      · exact report_attentionFollows h n _

theorem ackOrder_attentionFollows (l : LineNo) (n : Nat) (content : OrderContent) :
    (s.ackOrder l n content).attentionFollows := by
  cases content with
  | condition _ _ => exact h
  | clock _ => exact h
  | message _ => exact h
  | result held => exact h
  | plate block plate =>
    simp only [State.ackOrder]
    split
    · exact report_attentionFollows (s := State.onContext (s.onLine l _) _ _) h n _
    · exact h

theorem handFrame_attentionFollows (l : LineNo) (e : Exchange) (frame : TermFrame) :
    (s.handFrame l e frame).attentionFollows := by
  cases frame with
  | idle => exact endExchange_attentionFollows h _ _
  | request number request => exact takeRequest_attentionFollows (s := s.onLine l _) h _ _ _
  | event number event => exact takeEvent_attentionFollows h e.terminal number event
  | ack body =>
    simp only [State.handFrame]
    split
    · exact endExchange_attentionFollows (ackOrder_attentionFollows h _ _ _) _ _
    · exact h
  | unknown => exact h

theorem discardFrame_attentionFollows (l : LineNo) : (s.discardFrame l).attentionFollows := by
  unfold State.discardFrame
  split <;> exact h

theorem frameDiscarded_attentionFollows (l : LineNo) : (s.frameDiscarded l).attentionFollows := by
  unfold State.frameDiscarded
  split
  · exact discardFrame_attentionFollows h l
  · exact h

theorem received_attentionFollows (l : LineNo) (drop : Nat) (frame : TermFrame) :
    (s.received l drop frame).attentionFollows := by
  unfold State.received
  split
  · exact discardFrame_attentionFollows h l
  · split
    · exact handFrame_attentionFollows (goodFrame_attentionFollows h _ _) _ _ _
    · exact rejectFrame_attentionFollows h _ _ _

theorem receivedRaw_attentionFollows (l : LineNo) (received : List RxChar) :
    (s.receivedRaw l received).attentionFollows := by
  unfold State.receivedRaw
  split
  · exact discardFrame_attentionFollows h l
  · simp only
    split
    · exact rejectFrame_attentionFollows h _ _ _
    · split
      · exact rejectFrame_attentionFollows h _ _ _
      · exact received_attentionFollows h _ _ _

/-! ### The lines (R139 to R141, R145 to R148, R157 to R159) -/

theorem sweepEffect_attentionFollows (l : LineNo) (d : Disposition) : (s.sweepEffect l d).attentionFollows := by
  cases d with
  | none => exact h
  | started => exact chooseIfIdle_attentionFollows (s := s.onLine l _) h l
  | leg => exact paceEvent_attentionFollows h l
  | overrun => exact paceEvent_attentionFollows h l

theorem sweep_attentionFollows (l : LineNo) : (s.sweep l).attentionFollows := sweepEffect_attentionFollows h l _

theorem lineStart_attentionFollows (l : LineNo) : (s.lineStart l).attentionFollows := by
  unfold State.lineStart
  split
  · exact h
  · exact choose_attentionFollows (dropNotices_attentionFollows _ _) l

theorem lineStop_attentionFollows (l : LineNo) : (s.lineStop l).attentionFollows := by
  unfold State.lineStop
  split <;> exact h

theorem paceTick_attentionFollows (l : LineNo) : (s.paceTick l).attentionFollows := by
  unfold State.paceTick
  simp only
  split
  · exact paceEvent_attentionFollows (s := s.onLine l _) h l
  · exact h

theorem sent_attentionFollows (l : LineNo) : (s.sent l).attentionFollows := by
  unfold State.sent
  split
  · split
    · exact h
    · split
      case h_2 => exact endExchange_attentionFollows h _ _
      all_goals exact h
  · exact h

theorem windowOver_attentionFollows (l : LineNo) : (s.windowOver l).attentionFollows := by
  unfold State.windowOver
  split
  · exact h
  · split
    · exact noReply_attentionFollows h _ _ _
    · exact h

theorem serviceLimitOver_attentionFollows (l : LineNo) : (s.serviceLimitOver l).attentionFollows := by
  unfold State.serviceLimitOver
  split
  · exact h
  · split
    · split
      · exact h
      · exact withdraw_attentionFollows (s := s.onLine l _) h _ _
    · exact h

theorem earliestStart_attentionFollows (l : LineNo) : (s.earliestStart l).attentionFollows := by
  unfold State.earliestStart
  split
  · split
    · exact chooseIfIdle_attentionFollows (s := s.onLine l _) h l
    · exact h
    · exact h
  · exact h

theorem turnaroundOver_attentionFollows (l : LineNo) : (s.turnaroundOver l).attentionFollows := by
  unfold State.turnaroundOver
  split <;> exact h

theorem characterBegins_attentionFollows (l : LineNo) : (s.characterBegins l).attentionFollows := by
  unfold State.characterBegins
  split
  · exact h
  · split <;> exact h

/-! ### The host's requests on terminals (R59 to R62, R117, R133, R165) -/

theorem createTerminal_attentionFollows (f : TerminalSet) : (s.createTerminal f).attentionFollows :=
  askOrder_attentionFollows (askOrder_attentionFollows (askOrder_attentionFollows
    (report_attentionFollows (s := { s with contexts := insertContext _ _ }) h _ _) _ _) _ _) _ _

theorem changeTerminal_attentionFollows (c : Context) (f : TerminalSet) : (s.changeTerminal c f).attentionFollows := by
  have moved : (if c.line = f.line ∧ c.drop = f.drop then s.onContext c.number fun c => c.replace f
      else (s.onContext c.number fun c => c.replace f).moveTerminal c.number c.line).attentionFollows := by
    split <;> exact h
  unfold State.changeTerminal
  simp only
  generalize (if c.line = f.line ∧ c.drop = f.drop then _ else _ : State) = u at moved ⊢
  have plated : (if c.zone = f.zone then u else u.askOrder c.number .plate).attentionFollows := by
    split
    · exact moved
    · exact askOrder_attentionFollows moved _ _
  split
  · exact plated
  · exact act_attentionFollows plated _ _

theorem terminalSet_attentionFollows (f : TerminalSet) : (s.terminalSet f).attentionFollows := by
  unfold State.terminalSet
  split
  · exact h
  · split
    · exact createTerminal_attentionFollows h f
    · split
      · exact h
      · exact changeTerminal_attentionFollows h _ f

theorem terminalRemove_attentionFollows (n : Nat) : (s.terminalRemove n).attentionFollows := by
  unfold State.terminalRemove
  split
  · exact h
  · split
    · exact h
    · exact deleteTerminal_attentionFollows s _

theorem terminalGet_attentionFollows (n : Nat) (clear : Bool) : (s.terminalGet n clear).attentionFollows := by
  unfold State.terminalGet
  split
  · exact h
  · cases clear <;> exact h

theorem setSuspended_attentionFollows (c : Context) (suspended : Bool) : (s.setSuspended c suspended).attentionFollows := by
  unfold State.setSuspended
  split
  · exact h
  · exact act_attentionFollows h _ _

theorem endCollection_attentionFollows (c : Context) : (s.endCollection c).attentionFollows := by
  unfold State.endCollection
  split
  · exact h
  · exact collectionEnded_attentionFollows h _

theorem sendMessage_attentionFollows (c : Context) (text : List Byte) : (s.sendMessage c text).attentionFollows := by
  unfold State.sendMessage
  simp only
  split
  · exact h
  · split
    · exact h
    · exact chooseIfIdle_attentionFollows (s := s.onLine c.line _) h _

theorem terminalOrder_attentionFollows (n : Nat) (order : Order) : (s.terminalOrder n order).attentionFollows := by
  unfold State.terminalOrder
  split
  · exact h
  · cases order with
    | endCollection => exact endCollection_attentionFollows h _
    | suspend => exact setSuspended_attentionFollows h _ _
    | resume => exact setSuspended_attentionFollows h _ _
    | message text => exact sendMessage_attentionFollows h _ text

/-! ### The host's other requests -/

theorem faultClear_attentionFollows (n : Nat) (named : FaultSet) : (s.faultClear n named).attentionFollows := by
  unfold State.faultClear
  split
  · exact h
  · exact act_attentionFollows h _ _

theorem setDefaults_attentionFollows (t : Thresholds) : (s.setDefaults t).attentionFollows :=
  foldl_attentionFollows (fun h _ => act_attentionFollows h _ _) _ (s := { s with defaults := t }) h

theorem overrideSet_attentionFollows (n : Nat) (t : Thresholds) : (s.overrideSet n t).attentionFollows := by
  unfold State.overrideSet State.owned
  split
  · exact h
  · split
    · exact h
    · exact act_attentionFollows h _ _

theorem overrideDrop_attentionFollows (n : Nat) : (s.overrideDrop n).attentionFollows := by
  unfold State.overrideDrop
  split
  · exact h
  · split
    · exact h
    · exact act_attentionFollows h _ _

theorem switchNow_attentionFollows : s.switchNow.attentionFollows := by
  unfold State.switchNow
  split
  · exact switchover_attentionFollows s
  · exact h

/-! ### Every command -/

theorem acceptFrame_attentionFollows (tag kind : Byte) {take : State → State}
    (takes : ∀ {u : State}, u.attentionFollows → (take u).attentionFollows) :
    (s.acceptFrame tag kind take).attentionFollows := by
  unfold State.acceptFrame
  split
  · simp only
    split
    · exact h
    · exact takes h
  · exact h

theorem ifOpen_attentionFollows (f : Link → Link) : (s.ifOpen f).attentionFollows := by
  unfold State.ifOpen
  split <;> exact h

omit h in
/-- What a command leaves is the state it answers. -/
theorem next_attentionFollows {u t : State} (e : Host.Outcome.next u = (.next t : Host.Outcome State Fault Refusal))
    (h : u.attentionFollows) : t.attentionFollows := by
  cases e
  exact h

/-- A request answers what its act leaves. -/
theorem request_attentionFollows {t : State} {α : Type} {tag : Byte} {kind : Nat} {read : State → Except Nat α}
    {act : α → State → State}
    (e : Host.Outcome.next (s.request tag kind read act) = (.next t : Host.Outcome State Fault Refusal))
    (acts : ∀ a {u : State}, u.attentionFollows → (act a u).attentionFollows) : t.attentionFollows := by
  refine next_attentionFollows e (acceptFrame_attentionFollows h _ _ fun {u} hu => ?_)
  unfold State.owned
  split
  · exact hu
  · exact acts _ hu

/-- So does a command of the part or of a terminal. -/
theorem working_attentionFollows {t : State} {act : State → State}
    (e : Host.Outcome.next (s.working act) = (.next t : Host.Outcome State Fault Refusal))
    (acts : ∀ {u : State}, u.attentionFollows → (act u).attentionFollows) : t.attentionFollows := by
  refine next_attentionFollows e ?_
  unfold State.working
  split
  · exact acts h
  · exact h

/-- Every command keeps the invariant: a case for each, those of the requests that leave the queue alone by their branches. -/
theorem exec_attentionFollows (i : Instr) {t : State} (e : exec i s = .next t) : t.attentionFollows := by
  cases i
  case clockGet | calendarList | tariffGet | bankCopy | referralSet | referralList | liftList | thresholdDefaultGet
      | lineGet | pollListGet | partStatus | restart => exact request_attentionFollows h e fun _ _ hu => hu
  case calendarPut => exact request_attentionFollows h e fun _ _ hu => by unfold State.calendarPut; split <;> exact hu
  case calendarDrop => exact request_attentionFollows h e fun _ _ hu => by unfold State.calendarDrop; split <;> exact hu
  case tariffPut => exact request_attentionFollows h e fun _ _ hu => by unfold State.tariffPut; split <;> exact hu
  case tariffDrop =>
    exact request_attentionFollows h e fun _ _ hu => by unfold State.tariffDrop; split <;> [exact hu; (split <;> exact hu)]
  case switchAt =>
    exact request_attentionFollows h e fun _ _ hu => by
      unfold State.switchAt; split <;> [exact hu; (split <;> exact hu)]
  case switchCancel => exact request_attentionFollows h e fun _ _ hu => by unfold State.switchCancel; split <;> exact hu
  case countEnter => exact request_attentionFollows h e fun _ _ hu => by unfold State.countEnter; split <;> exact hu
  case roundOpen =>
    exact request_attentionFollows h e fun _ _ hu => by
      unfold State.roundOpen; split <;> [exact hu; (split <;> [exact hu; (split <;> exact hu)])]
  case roundBuild =>
    exact request_attentionFollows h e fun _ _ hu => by
      unfold State.roundBuild; split <;> [exact hu; (split <;> exact hu)]
  case roundClose =>
    exact request_attentionFollows h e fun _ _ hu => by
      unfold State.roundClose; split <;> [exact hu; (split <;> exact hu)]
  case roundGet => exact request_attentionFollows h e fun _ _ hu => by unfold State.roundGet; split <;> exact hu
  case lineSet => exact request_attentionFollows h e fun _ _ hu => by unfold State.lineSet; split <;> exact hu
  case pollListPut => exact request_attentionFollows h e fun _ _ hu => by unfold State.pollListPut; split <;> exact hu
  case clockSet => exact request_attentionFollows h e fun _ _ hu => clockSet_attentionFollows hu _
  case switchNow => exact request_attentionFollows h e fun _ _ hu => switchNow_attentionFollows hu
  case fareTrial => exact request_attentionFollows h e fun _ _ hu => placeFare_attentionFollows hu _
  case terminalSet => exact request_attentionFollows h e fun _ _ hu => terminalSet_attentionFollows hu _
  case terminalRemove => exact request_attentionFollows h e fun _ _ hu => terminalRemove_attentionFollows hu _
  case terminalGet => exact request_attentionFollows h e fun _ _ hu => terminalGet_attentionFollows hu _ _
  case endCollection | suspend | resume | message =>
    exact request_attentionFollows h e fun _ _ hu => terminalOrder_attentionFollows hu _ _
  case permitLoad | permitChange | permitDrop | permitGet | permitScan | referralAnswer =>
    exact request_attentionFollows h e fun _ _ hu => placeOp_attentionFollows hu _
  case faultClear => exact request_attentionFollows h e fun _ _ hu => faultClear_attentionFollows hu _ _
  case thresholdDefaultSet => exact request_attentionFollows h e fun _ _ hu => setDefaults_attentionFollows hu _
  case thresholdOverrideSet => exact request_attentionFollows h e fun _ _ hu => overrideSet_attentionFollows hu _ _
  case thresholdOverrideDrop => exact request_attentionFollows h e fun _ _ hu => overrideDrop_attentionFollows hu _
  case lineStart => exact request_attentionFollows h e fun _ _ hu => lineStart_attentionFollows hu _
  case lineStop => exact request_attentionFollows h e fun _ _ hu => lineStop_attentionFollows hu _
  case sweep => exact request_attentionFollows h e fun _ _ hu => sweep_attentionFollows hu _
  case noticeTake => exact request_attentionFollows h e fun _ _ hu => noticeTake_attentionFollows hu
  case quote | sale | session | cancel | doorOpen | doorClosed | boxReplaced | paperOut | paperLoaded |
      printerFault | printFailed | printerOk | coinPathFault | coinPathOk | idle | ack =>
    exact working_attentionFollows h e fun hu => received_attentionFollows hu _ _ _
  case rejectedFrame => exact working_attentionFollows h e fun hu => receivedRaw_attentionFollows hu _ _
  case lineFrameDiscarded => exact working_attentionFollows h e fun hu => frameDiscarded_attentionFollows hu _
  case paceTick => exact working_attentionFollows h e fun hu => paceTick_attentionFollows hu _
  case frameTransmissionComplete => exact working_attentionFollows h e fun hu => sent_attentionFollows hu _
  case turnaroundExpiry => exact working_attentionFollows h e fun hu => turnaroundOver_attentionFollows hu _
  case responseWindowExpiry => exact working_attentionFollows h e fun hu => windowOver_attentionFollows hu _
  case serviceLimitExpiry => exact working_attentionFollows h e fun hu => serviceLimitOver_attentionFollows hu _
  case earliestStartReached => exact working_attentionFollows h e fun hu => earliestStart_attentionFollows hu _
  case characterBeginsToArrive => exact working_attentionFollows h e fun hu => characterBegins_attentionFollows hu _
  case computationComplete => exact working_attentionFollows h e computationComplete_attentionFollows
  case lookupComplete => exact working_attentionFollows h e completeLookup_attentionFollows
  case recordInsertion => exact working_attentionFollows h e insertStep_attentionFollows
  case permitOperationComplete => exact working_attentionFollows h e completeOp_attentionFollows
  case referralDeadlineExpiry => exact working_attentionFollows h e fun hu => expireReferral_attentionFollows hu _
  case warmStart => exact working_attentionFollows h e warmStart_attentionFollows
  case startComplete => exact working_attentionFollows h e fun hu => by unfold State.startComplete; split <;> exact hu
  case replyTransmissionComplete => exact working_attentionFollows h e id
  case linkFrameDiscarded | frameLimitExpiry | frameMarkerReceived =>
    exact next_attentionFollows e (ifOpen_attentionFollows h _)
  case unknownKind =>
    exact next_attentionFollows e (by split <;> [exact h; exact acceptFrame_attentionFollows h _ _ id])
  case overlap =>
    exact next_attentionFollows e (by
      unfold State.overlapped; split <;> [exact h; exact acceptFrame_attentionFollows h _ _ id])
  case secondsEvent => exact next_attentionFollows e (secondsEvent_attentionFollows h)
  case coldStart => exact next_attentionFollows e (coldStart_attentionFollows s)
  case powerStart =>
    exact next_attentionFollows e (by split <;> [exact powerStart_attentionFollows s; exact coldStart_attentionFollows s])
  case mainSupplyLoss => exact next_attentionFollows e h
  case retentionSupplyLoss => exact next_attentionFollows e (by split <;> exact h)

end Keeps

/-- Settles O2: a command that changes the queue sets ATTENTION with it, and an idle step changes nothing. -/
theorem attentionFollowsTheQueue : Obligations.AttentionFollowsTheQueue := by
  intro s t h e
  unfold step at e
  split at e
  · exact next_attentionFollows e h
  · rename_i command rest _
    exact exec_attentionFollows (s := { s with pending := rest }) h command e

end Sys2Proof.Machine
end

section
/-! The Link Port (O46 to O48): what any accepted frame does by the state of the link, the receiver's three events, and what the
completion of a reply's transmission leaves (R168 to R172, R177, R179). -/

namespace Sys2Proof.Machine

open Sys2Proof

/-! ### Frames accepted and ignored (R169 to R171, R178) -/

theorem requestKind_eq_false_iff (kind : Byte) : requestKind kind = false ↔ kind.toNat = 0 ∨ 46 < kind.toNat := by
  simp only [requestKind, within, Bool.and_eq_false_iff, decide_eq_false_iff_not]
  omega

/-- Every request is a frame accepted under its tag and kind; UNKNOWN_KIND with a request kind is none (log 2). -/
theorem exec_of_hostFields {i : Instr} {tag kind : Byte} {body : List Byte} (fields : hostFields i = some (tag, kind, body)) :
    (∃ take, ∀ s, exec i s = .next (s.acceptFrame tag kind take)) ∨ (i = .unknownKind tag kind ∧ requestKind kind = true) := by
  cases i <;> simp only [hostFields, Option.some.injEq, Prod.mk.injEq, reduceCtorEq] at fields
  case unknownKind =>
    obtain ⟨rfl, rfl, -⟩ := fields
    cases own : requestKind _
    · exact .inl ⟨_, fun _ => congrArg Host.Outcome.next (if_neg (Bool.eq_false_iff.mp own))⟩
    · exact .inr ⟨rfl, rfl⟩
  all_goals
    obtain ⟨rfl, rfl, -⟩ := fields
    exact .inl ⟨_, fun _ => rfl⟩

/-- A request whose operands a frame can carry is a frame accepted (R182). -/
theorem exec_request_of_wf {i : Instr} {tag kind : Byte} {body : List Byte} (fields : hostFields i = some (tag, kind, body))
    (wf : i.wf = true) : ∃ take, ∀ s, exec i s = .next (s.acceptFrame tag kind take) := by
  refine (exec_of_hostFields fields).resolve_right ?_
  rintro ⟨rfl, own⟩
  have unknown : requestKind kind = false := (requestKind_eq_false_iff kind).mpr (by simpa [Instr.wf] using wf)
  exact Bool.false_ne_true (unknown.symm.trans own)

theorem State.acceptFrame_closed {s : State} (closed : s.linkOpen = false) (tag kind : Byte) (take : State → State) :
    s.acceptFrame tag kind take = s := if_neg (Bool.eq_false_iff.mp closed)

theorem State.acceptFrame_outstanding {s : State} (opened : s.linkOpen = true) (busy : s.link.outstanding ≠ none)
    (tag kind : Byte) (take : State → State) :
    s.acceptFrame tag kind take =
      { s with link := ({ s.link with receiver := .hunting } : Link).overlap tag kind } := by
  obtain ⟨o, outstanding⟩ := Option.ne_none_iff_exists'.mp busy
  simp [State.acceptFrame, opened, outstanding, State.onLink]

theorem State.ifOpen_open {s : State} (opened : s.linkOpen = true) (f : Link → Link) :
    s.ifOpen f = { s with link := f s.link } := if_pos opened

theorem State.ifOpen_closed {s : State} (closed : s.linkOpen = false) (f : Link → Link) : s.ifOpen f = s :=
  if_neg (Bool.eq_false_iff.mp closed)

theorem State.overlapped_outstanding {s : State} (busy : s.link.outstanding ≠ none) (tag kind : Byte) :
    s.overlapped tag kind = s.acceptFrame tag kind id := by
  obtain ⟨o, outstanding⟩ := Option.ne_none_iff_exists'.mp busy
  simp only [State.overlapped, outstanding]
  rfl

theorem State.overlapped_closed {s : State} (closed : s.linkOpen = false) (tag kind : Byte) : s.overlapped tag kind = s := by
  unfold State.overlapped
  split
  · rfl
  · exact State.acceptFrame_closed closed tag kind _

/-- Whatever request comes while another is outstanding is an overlap (R170, R171). -/
theorem exec_outstanding {i : Instr} {s : State} {tag kind : Byte} {body : List Byte}
    (request : hostFields i = some (tag, kind, body) ∨ i = .overlap tag kind) (wf : i.wf = true) (opened : s.linkOpen = true)
    (busy : s.link.outstanding ≠ none) :
    exec i s = .next { s with link := ({ s.link with receiver := .hunting } : Link).overlap tag kind } := by
  rcases request with fields | rfl
  · obtain ⟨take, run⟩ := exec_request_of_wf fields wf
    rw [run, State.acceptFrame_outstanding opened busy]
  · show Host.Outcome.next (s.overlapped tag kind) = _
    rw [State.overlapped_outstanding busy, State.acceptFrame_outstanding opened busy]

/-- Settles O47: every row accepts its frame in the same way, and the OVERLAP replies that wait decide what the link makes of
it. -/
theorem overlappingRequestsAreNotActedOn : Obligations.OverlappingRequestsAreNotActedOn := by
  intro i s tag kind body request wf opened busy
  rw [exec_outstanding request wf opened busy]
  exact ⟨fun room => by rw [Link.overlap, if_neg (Nat.not_le_of_lt (by exact room))],
    fun full => by rw [Link.overlap, if_pos (by exact full)]; rfl⟩

/-! ### PART STATUS, RESTART and UNKNOWN KIND (R170, R177, R179) -/

/-- A request without a body on a part that is ready. -/
theorem State.request_nothing {s : State} (ready : s.ready = true) (tag : Byte) (kind : Nat) (act : Unit → State → State) :
    s.request tag kind (fun _ => readNothing []) act = act () (s.accepted tag (BitVec.ofNat 8 kind)) :=
  State.request_ready ready tag kind _ act

/-- Settles O46: each is accepted and answered at once. -/
theorem statusRestartAndUnknownKind : Obligations.StatusRestartAndUnknownKind := by
  intro s tag ready
  refine ⟨?_, ?_, fun kind unknown => ?_⟩
  · exact congrArg Host.Outcome.next (State.request_nothing ready tag 45 _)
  · exact congrArg Host.Outcome.next (State.request_nothing ready tag 46 _)
  · have unlisted : requestKind kind = false :=
      (requestKind_eq_false_iff kind).mpr (unknown.imp_left fun zero => by rw [zero]; rfl)
    simp only [exec, execUnknownKind, unlisted, State.acceptFrame_ready ready]
    rfl

/-! ### The completion of a reply (R171, R179) -/

theorem Reply.restarts_iff (r : Reply) : r.restarts = true ↔ r.kind = 46 ∧ r.body = .done .plain := by
  simp [Reply.restarts]

theorem Link.sent_reply {k : Link} {r : Reply} (sending : k.sending = some r) (stays : r.restarts = false) :
    k.sent =
      { k with
        sending := k.waiting.head?
        waiting := k.waiting.tail
        outstanding := if r.body = .overlap then k.outstanding else none } := by
  simp only [Link.sent, sending, stays]
  cases k.waiting <;> simp

theorem Link.sent_restart {k : Link} {r : Reply} (sending : k.sending = some r) (restarts : r.restarts = true) :
    k.sent = { k with sending := none, outstanding := none, warmStartDue := true } := by
  simp only [Link.sent, sending, restarts, if_true]

theorem Link.sent_idle {k : Link} (idle : k.sending = none) : k.sent = k := by
  simp only [Link.sent, idle]

theorem exec_replyTransmissionComplete {s : State} (supplied : s.mainSupply = true) :
    exec .replyTransmissionComplete s = .next { s with link := s.link.sent } :=
  congrArg Host.Outcome.next (if_pos supplied)

/-! ### The receiver (R169, R178) -/

theorem exec_receiver_open {s : State} (opened : s.linkOpen = true) :
    exec .frameMarkerReceived s = .next { s with link := s.link.marker s.elapsed } ∧
      exec .linkFrameDiscarded s =
        .next { s with link := { s.link with receiver := .hunting, check := countUp Config.counterHold s.link.check } } ∧
      exec .frameLimitExpiry s = .next { s with link := s.link.frameLimit } :=
  ⟨congrArg Host.Outcome.next (State.ifOpen_open opened _), congrArg Host.Outcome.next (State.ifOpen_open opened _),
    congrArg Host.Outcome.next (State.ifOpen_open opened _)⟩

theorem Link.marker_hunting {k : Link} (hunting : k.receiver = .hunting) (now : Nat) :
    k.marker now = { k with receiver := .receiving now } := by
  simp only [Link.marker, hunting]

theorem Link.frameLimit_receiving {k : Link} (receiving : k.receiver ≠ .hunting) :
    k.frameLimit = { k with receiver := .hunting, timeout := countUp Config.counterHold k.timeout } := by
  unfold Link.frameLimit
  split
  · exact absurd ‹_› receiving
  · rfl

/-- While a start is under way or due no frame is taken. -/
theorem exec_request_closed {i : Instr} {s : State} {tag kind : Byte} {body : List Byte}
    (fields : hostFields i = some (tag, kind, body)) (closed : s.linkOpen = false) : exec i s = .next s := by
  rcases exec_of_hostFields fields with ⟨take, run⟩ | ⟨rfl, own⟩
  · rw [run, State.acceptFrame_closed closed]
  · exact congrArg Host.Outcome.next (if_pos own)

/-- Settles O48: the receiver's events act on an open link alone, and the reply sent decides what its completion leaves. -/
theorem linkEvents : Obligations.LinkEvents := by
  refine ⟨fun s opened => ?_, fun s r supplied sending plain => ?_, fun s r supplied sending kind body => ?_,
    fun s i closed event => ?_⟩
  · obtain ⟨marker, discarded, limit⟩ := exec_receiver_open opened
    exact ⟨fun hunting => by rw [marker, Link.marker_hunting hunting], discarded,
      fun receiving => by rw [limit, Link.frameLimit_receiving receiving]; rfl⟩
  · have stays : r.restarts = false := by
      rw [← Bool.not_eq_true, r.restarts_iff, not_and_or]
      exact plain
    rw [exec_replyTransmissionComplete supplied, Link.sent_reply sending stays]
  · have restarted := Link.sent_restart sending (r.restarts_iff.mpr ⟨kind, body⟩)
    refine ⟨_, (exec_replyTransmissionComplete supplied).trans (by rw [restarted]), rfl, ?_, ?_⟩
    · simp [State.linkOpen]
    · rw [exec_replyTransmissionComplete (by exact supplied), Link.sent_idle rfl]
  · rcases event with ⟨⟨tag, kind, body⟩, fields⟩ | ⟨tag, kind, rfl⟩ | rfl | rfl | rfl
    · exact exec_request_closed fields closed
    · exact congrArg Host.Outcome.next (State.overlapped_closed closed tag kind)
    all_goals exact congrArg Host.Outcome.next (State.ifOpen_closed closed _)

end Sys2Proof.Machine
end

section
/-! Frames read back (O8, O9): each envelope opens to the fields it was made of (R182, R183), and those fields spell the command
that was sent. -/

namespace Sys2Proof.Machine

open Sys2Proof

/-! ### The envelopes (R182, R183) -/

/-- The length byte of a frame is the length of its body. -/
theorem toNat_lengthByte {n : Nat} (short : n ≤ 240) : (BitVec.ofNat 8 n).toNat = n :=
  Nat.mod_eq_of_lt (by omega)

/-- The check stands behind the body (R182). -/
theorem number_frameCheck (body covered : List Byte) :
    number (body ++ toBinary 2 (frameCheck covered).toNat) body.length 2 = (frameCheck covered).toNat := by
  simpa using number_field body [] 2 (frameCheck covered).toNat (frameCheck covered).isLt

theorem linkVerdict_linkFrame (tag kind : Byte) {body : List Byte} (short : body.length ≤ 240) :
    linkVerdict (linkFrame tag kind body) = .accepted tag kind body := by
  have length := toNat_lengthByte short
  simp [linkFrame, linkVerdict, length, short, number_frameCheck]

theorem openLineFrame_lineFrame (drop kind : Byte) {body : List Byte} (short : body.length ≤ 80) :
    openLineFrame (lineFrame drop kind body) = some (drop, kind, body) := by
  have length := toNat_lengthByte (n := body.length) (by omega)
  simp [lineFrame, openLineFrame, length, short, number_frameCheck]

/-- A frame ends with its own last byte, as its length gives it. -/
theorem endedAt_lineFrame (drop kind : Byte) {body : List Byte} (short : body.length ≤ 80) :
    endedAt ((lineFrame drop kind body)[2]?.map (·.toNat)) (lineFrame drop kind body) = lineFrame drop kind body := by
  have length := toNat_lengthByte (n := body.length) (by omega)
  simp [lineFrame, endedAt, length]

/-! ### Requests (R182) -/

theorem fits_iff (body : List Byte) : fits body = true ↔ body.length ≤ 240 := decide_eq_true_iff

/-- A body names the order that `orderCommand` goes by (R117). -/
theorem ordered_iff (order : Byte) (body : List Byte) : ordered order body = true ↔ body[1]? = some order := beq_iff_eq

/-- A well-formed request has a body of at most 240 bytes; that of a kind outside the list is empty. -/
theorem hostFields_short {i : Instr} {tag kind : Byte} {body : List Byte} (wf : i.wf = true)
    (fields : hostFields i = some (tag, kind, body)) : body.length ≤ 240 := by
  cases i <;> simp only [hostFields, Option.some.injEq, Prod.mk.injEq, reduceCtorEq] at fields
  all_goals obtain ⟨rfl, rfl, rfl⟩ := fields
  case unknownKind => exact Nat.zero_le _
  case endCollection | suspend | resume | message =>
    exact (fits_iff _).mp (Bool.and_eq_true_iff.mp wf).1
  all_goals exact (fits_iff _).mp wf

theorem hostCommand_terminalOrder (tag : Byte) (body : List Byte) : hostCommand tag 17 body = orderCommand tag body := rfl

theorem hostCommand_unknown {kind : Byte} (unlisted : kind.toNat = 0 ∨ 46 < kind.toNat) (tag : Byte) (body : List Byte) :
    hostCommand tag kind body = .unknownKind tag kind := by
  unfold hostCommand
  split
  case h_47 => rfl
  all_goals omega

/-- The kind byte, and the order byte of a TERMINAL ORDER, tell a well-formed request from every other. -/
theorem hostCommand_hostFields {i : Instr} {tag kind : Byte} {body : List Byte} (wf : i.wf = true)
    (fields : hostFields i = some (tag, kind, body)) : hostCommand tag kind body = i := by
  cases i <;> simp only [hostFields, Option.some.injEq, Prod.mk.injEq, reduceCtorEq] at fields
  all_goals obtain ⟨rfl, rfl, rfl⟩ := fields
  case unknownKind => exact hostCommand_unknown (by simpa [Instr.wf] using wf) _ _
  case endCollection | suspend | resume | message =>
    have order := (ordered_iff _ _).mp (Bool.and_eq_true_iff.mp wf).2
    rw [hostCommand_terminalOrder]
    simp [orderCommand, order]
  all_goals rfl

/-- Settles O8: the envelope opens to the request's fields, and these spell the request. -/
theorem requestFramesAreReadBack : Obligations.RequestFramesAreReadBack := by
  intro i bytes wf sent
  obtain ⟨⟨tag, kind, body⟩, fields, rfl⟩ := Option.map_eq_some_iff.mp sent
  rw [linkCommand, linkVerdict_linkFrame tag kind (hostFields_short wf fields)]
  exact congrArg some (hostCommand_hostFields wf fields)

/-! ### Terminal frames (R183) -/

/-- A body of a terminal's frame is within the 80 bytes of R183, the two before the operand included. -/
theorem onLine_length {drop : Byte} {rest : List Byte} (wf : onLine drop rest = true) : rest.length + 2 ≤ 80 :=
  of_decide_eq_true (Bool.and_eq_true_iff.mp wf).2

theorem lineFields_short {i : Instr} {drop kind : Byte} {body : List Byte} (wf : i.wf = true)
    (fields : lineFields i = some (drop, kind, body)) : body.length ≤ 80 := by
  cases i <;> simp only [lineFields, Option.some.injEq, Prod.mk.injEq, reduceCtorEq] at fields
  all_goals obtain ⟨rfl, rfl, rfl⟩ := fields
  case idle => exact Nat.zero_le _
  case ack => exact of_decide_eq_true (Bool.and_eq_true_iff.mp wf).2
  all_goals exact onLine_length wf

/-- The kind byte, and the request or event byte behind it, tell a terminal's command from every other on its line. -/
theorem terminalCommand_lineFields {i : Instr} {line : LineNo} {drop kind : Byte} {body : List Byte}
    (came : lineOf i = some line) (fields : lineFields i = some (drop, kind, body)) :
    terminalCommand line drop kind body = some i := by
  cases i <;> simp only [lineFields, Option.some.injEq, Prod.mk.injEq, reduceCtorEq] at fields
  all_goals
    obtain ⟨rfl, rfl, rfl⟩ := fields
    obtain rfl := Option.some.inj came
    rfl

/-- Settles O9: the frame ends as its length gives, opens to the command's fields, and these spell the command. -/
theorem terminalFramesAreReadBack : Obligations.TerminalFramesAreReadBack := by
  intro i line bytes wf came sent
  obtain ⟨⟨drop, kind, body⟩, fields, rfl⟩ := Option.map_eq_some_iff.mp sent
  have short := lineFields_short wf fields
  rw [lineCommand, endedAt_lineFrame drop kind short, openLineFrame_lineFrame drop kind short]
  simp only [terminalCommand_lineFields came fields]

end Sys2Proof.Machine
end

section
/-! One step and the queue of commands (O1): the step in each of the queue's two shapes (log 1). -/

namespace Sys2Proof.Machine

open Sys2Proof

theorem step_of_pending_cons {s : State} {c : Instr} {rest : List Instr} (front : s.pending = c :: rest) :
    step s = exec c { s with pending := rest } := by
  rw [step, front]

theorem step_of_pending_nil {s : State} (idle : s.pending = []) : step s = .next s := by
  rw [step, idle]

/-- Settles O1: the queue either has a front command or is empty, and the step's equation in each shape is its clause. -/
theorem stepTakesTheFrontCommand : Obligations.StepTakesTheFrontCommand :=
  fun _ => ⟨fun _ _ => step_of_pending_cons, step_of_pending_nil⟩

end Sys2Proof.Machine
end
